-- ==== Sys2Proof/Word.lean ====
section
/-! DEFINITION. The bit-vector types of the ND2240: the byte, the two-byte and the four-byte field of
spec/11_formats.md (R188). -/

namespace Sys2Proof

/-- A byte is 8 bits (spec/00_scope.md, Sizes). -/
abbrev Byte := BitVec 8

/-- A two-byte field of a segment, frame or notice (R188). -/
abbrev Half := BitVec 16

/-- A four-byte field; also the width of the field counter (R143), stream time (R129) and a
navigation variable (R110). -/
abbrev Word := BitVec 32

end Sys2Proof
end

