-- ==== Sys2Proof/Syntax.lean ====
section
/-! DEFINITION. The commands of the block: one constructor per row of spec/opcode_table.json. A command
frame carries its payload fields as the bytes of R190, a segment its payload as the bytes of R189,
so that values outside a field's range reach the checks the manual makes. -/

namespace Sys2Proof

/-- The party that defined an item, and the lane it came on (spec/00_scope.md, Owners and bands). -/
inductive Owner where
  | disc
  | player
deriving DecidableEq, Repr

/-- The sub-blocks that act at a field start under rules of their own, besides the Display Port, which
counts it first (R143). The manual lets them act in any order (R65, R94, R107, R121, R137, R147). -/
inductive FieldBlock where
  | pageStack
  | navigation
  | sequencer
  | cues
  | composer
deriving DecidableEq, Repr

/-- The rows of spec/opcode_table.json. -/
inductive Instr where
  /-- POWER_ON (R184). -/
  | powerOn
  /-- RESET_N: the line goes low (R185). -/
  | resetN
  /-- FIELD_START (R143): the sub-blocks named act in the order named; the Cue Unit and the Composer
  act after them where they are not named; the others not named act in the events that stand next in the queue, and
what is then left acts at once (DESIGN CHOICE, assumption log 1). -/
  | fieldStart (order : List FieldBlock)
  /-- PASS_COMPLETE (R151). -/
  | passComplete
  /-- FADE_IN_END (R65). -/
  | fadeInEnd
  /-- FADE_OUT_END (R65). -/
  | fadeOutEnd
  /-- ACTIVATION_COMPLETE (R95). -/
  | activationComplete
  /-- PAGE_TIMEOUT_EXPIRY (R108). -/
  | pageTimeoutExpiry
  /-- HOLD_RUN_OUT (R121). -/
  | holdRunOut
  /-- TRANSITION_END (R119). -/
  | transitionEnd
  /-- KEY_DELIVERY (R84). -/
  | keyDelivery
  /-- SAVE_DONE (R55) of the exchange in progress. -/
  | saveDone
  /-- LOAD_DONE (R57) of a slot, of an exchange or of a reload in place. -/
  | loadDone (slot : Fin 6)
  /-- STREAM_BYTE (R164): a rising edge of SSTB with the byte on SD0 to SD7. -/
  | streamByte (b : Byte)
  /-- DISC_LANE_BYTE (R166, R167). -/
  | discLaneByte
  /-- SEGMENT_SERVE (R172). -/
  | segmentServe
  /-- EDITION (R173): a whole segment of the lane with this payload. -/
  | edition (lane : Owner) (payload : List Byte)
  /-- TIME (R131). -/
  | time (lane : Owner) (payload : List Byte)
  /-- PALETTE (R24). -/
  | palette (lane : Owner) (payload : List Byte)
  /-- OBJECT_FIRST_PART (R10): an OBJECT part with FIRST. -/
  | objectFirstPart (lane : Owner) (id : Half) (last : Bool) (seq : Byte) (width height : Half)
      (total : Word) (data : List Byte)
  /-- OBJECT_PART (R12): an OBJECT part without FIRST. -/
  | objectPart (lane : Owner) (id : Half) (last : Bool) (seq : Byte) (data : List Byte)
  /-- PAGE (R40). -/
  | page (lane : Owner) (payload : List Byte)
  /-- SLIDELIST (R113). -/
  | slidelist (lane : Owner) (payload : List Byte)
  /-- CUE (R135). -/
  | cue (lane : Owner) (payload : List Byte)
  /-- DELETE (R174). -/
  | delete (lane : Owner) (payload : List Byte)
  /-- LINK_TIMEOUT (R175): 5 ms pass after these bytes of a frame have been received. -/
  | linkTimeout (bytes : List Byte)
  /-- UNKNOWN_COMMAND (R176): select rises after these bytes. -/
  | unknownCommand (frame : List Byte)
  /-- READ_REPLY (R179); `n` is how many bytes were clocked while select was low. -/
  | readReply (n : Nat)
  /-- READ_STATUS (R180). -/
  | readStatus (n : Nat)
  /-- READ_NOTICE (R179). -/
  | readNotice (n : Nat)
  /-- NOP (R184). -/
  | nop
  /-- CLEAR_CONDITIONS (R182). -/
  | clearConditions (mask : Byte)
  /-- RESET (R185). -/
  | reset
  /-- SETUP (R184). -/
  | setup (format : Byte) (ticks : Half)
  /-- SETUP_CLEAR_DONE (R153). -/
  | setupClearDone
  /-- OUTPUT (R163, R184). -/
  | output (value : Byte)
  /-- KEY (R83). -/
  | key (kind : Byte)
  /-- SHOW (R69, R77). -/
  | showPage (owner page mode : Byte)
  /-- HIDE (R72). -/
  | hidePage (owner page : Byte)
  /-- HIDE_BAND (R73). -/
  | hideBand (owner : Byte)
  /-- SELECT (R106). -/
  | select (owner page button : Byte)
  /-- SET_BUTTON (R103). -/
  | setButton (owner page button enable : Byte)
  /-- SET_TIMEOUT (R109). -/
  | setTimeout (owner page : Byte) (value : Half) (restart : Byte)
  /-- READ_PAGE (R187). -/
  | readPage (owner page : Byte)
  /-- SET_VAR (R110). -/
  | setVar (num : Byte) (value : Word)
  /-- GET_VAR (R110). -/
  | getVar (num : Byte)
  /-- TIME_RUN (R130). -/
  | timeRun
  /-- TIME_HOLD (R130). -/
  | timeHold
  /-- SLIDE_START (R116). -/
  | slideStart (owner list index : Byte)
  /-- SLIDE_STOP (R125). -/
  | slideStop
  /-- SLIDE_PAUSE (R123). -/
  | slidePause
  /-- SLIDE_RESUME (R123). -/
  | slideResume
  /-- SLIDE_STEP (R122). -/
  | slideStep (step : Byte)
  /-- SET_HOLD (R124). -/
  | setHold (value : Half) (restart : Byte)
  /-- SEG_OPEN (R169). -/
  | segOpen (kind : Byte) (length : Half)
  /-- SEG_DATA (R170). -/
  | segData (bytes : List Byte)
  /-- ERASE_PLAYER (R186). -/
  | erasePlayer
  /-- RESET_N_RELEASE (R175): the line rises. -/
  | resetNRelease
deriving DecidableEq, Repr

end Sys2Proof
end

