-- ==== Sys2Proof/Decode.lean ====
section
/-! DEFINITION. Reading fields out of bytes (R188), the command frames of R190, and decodeTableWord. No row
of spec/opcode_table.json gives bits, so no word spells a command. -/

namespace Sys2Proof

/-- The command a word spells by the table's bits: none, since no row gives bits. (DEDUCED, assumption log 18.)
-/
def decodeTableWord (_nbits _w : Nat) : Option Instr := none

/-- The byte at an offset of a payload; 0 beyond its end. -/
def byteAt (l : List Byte) (i : Nat) : Byte := l.getD i 0

/-- The two-byte field at an offset, most significant byte first (R188). -/
def halfAt (l : List Byte) (i : Nat) : Half := byteAt l i ++ byteAt l (i + 1)

/-- The four-byte field at an offset, most significant byte first (R188). -/
def wordAt (l : List Byte) (i : Nat) : Word := halfAt l i ++ halfAt l (i + 2)

/-- The two bytes of a field, most significant first (R188). -/
def halfBytes (h : Half) : List Byte := [h.extractLsb' 8 8, h.extractLsb' 0 8]

/-- The four bytes of a field, most significant first (R188). -/
def wordBytes (w : Word) : List Byte :=
  [w.extractLsb' 24 8, w.extractLsb' 16 8, w.extractLsb' 8 8, w.extractLsb' 0 8]

/-- An owner byte (R188); none for a value that names no owner. -/
def decodeOwner (b : Byte) : Option Owner :=
  if b = 0 then some .disc else if b = 1 then some .player else none

/-- The code of an owner (R188). -/
def ownerCode (o : Owner) : Byte :=
  match o with
  | .disc => 0
  | .player => 1

/-- The exact payload length of a command frame other than SEG_DATA (R190); none for SEG_DATA, the read
frames and a code that R190 does not give. -/
def payloadLength (code : Byte) : Option Nat :=
  match code.toNat with
  | 0x00 => some 0
  | 0x04 => some 1
  | 0x05 => some 0
  | 0x06 => some 3
  | 0x07 => some 1
  | 0x10 => some 1
  | 0x11 => some 3
  | 0x12 => some 2
  | 0x13 => some 1
  | 0x14 => some 3
  | 0x15 => some 4
  | 0x16 => some 5
  | 0x17 => some 2
  | 0x20 => some 5
  | 0x21 => some 1
  | 0x22 => some 0
  | 0x23 => some 0
  | 0x30 => some 3
  | 0x31 => some 0
  | 0x32 => some 0
  | 0x33 => some 0
  | 0x34 => some 1
  | 0x35 => some 3
  | 0x40 => some 3
  | 0x42 => some 0
  | _ => none

/-- SEG_DATA takes any payload length 0 to 250 (R176, R190). -/
def codeSegData : Byte := 0x41

/-- The frame is a read frame (R176, R190). -/
def isReadCode (code : Byte) : Bool := code == 0x01 || code == 0x02 || code == 0x03

/-- A code that R190 gives to a command frame. -/
def isCommandCode (code : Byte) : Bool := (payloadLength code).isSome || code == codeSegData

/-- The command of a frame's code and payload (R190); none where the payload has not the length R190
gives or the code is not a command's. -/
def decodeFrame (code : Byte) (p : List Byte) : Option Instr :=
  if code = codeSegData then (if p.length ≤ 250 then some (.segData p) else none)
  else if payloadLength code ≠ some p.length then none
  else
    match code.toNat with
    | 0x00 => some .nop
    | 0x04 => some (.clearConditions (byteAt p 0))
    | 0x05 => some .reset
    | 0x06 => some (.setup (byteAt p 0) (halfAt p 1))
    | 0x07 => some (.output (byteAt p 0))
    | 0x10 => some (.key (byteAt p 0))
    | 0x11 => some (.showPage (byteAt p 0) (byteAt p 1) (byteAt p 2))
    | 0x12 => some (.hidePage (byteAt p 0) (byteAt p 1))
    | 0x13 => some (.hideBand (byteAt p 0))
    | 0x14 => some (.select (byteAt p 0) (byteAt p 1) (byteAt p 2))
    | 0x15 => some (.setButton (byteAt p 0) (byteAt p 1) (byteAt p 2) (byteAt p 3))
    | 0x16 => some (.setTimeout (byteAt p 0) (byteAt p 1) (halfAt p 2) (byteAt p 4))
    | 0x17 => some (.readPage (byteAt p 0) (byteAt p 1))
    | 0x20 => some (.setVar (byteAt p 0) (wordAt p 1))
    | 0x21 => some (.getVar (byteAt p 0))
    | 0x22 => some .timeRun
    | 0x23 => some .timeHold
    | 0x30 => some (.slideStart (byteAt p 0) (byteAt p 1) (byteAt p 2))
    | 0x31 => some .slideStop
    | 0x32 => some .slidePause
    | 0x33 => some .slideResume
    | 0x34 => some (.slideStep (byteAt p 0))
    | 0x35 => some (.setHold (halfAt p 0) (byteAt p 2))
    | 0x40 => some (.segOpen (byteAt p 0) (halfAt p 1))
    | 0x42 => some .erasePlayer
    | _ => none

/-- The length byte of a received frame covers exactly the bytes received, and is not above 250 (the
frame shape check of R176). -/
def frameShapeOk (frame : List Byte) : Bool :=
  2 ≤ frame.length && (byteAt frame 1).toNat ≤ 250 && frame.length == 2 + (byteAt frame 1).toNat

/-- The command frame of a command (R190): code byte, length byte, payload. None for a row that is not
a command frame. -/
def encodeFrame (i : Instr) : Option (List Byte) :=
  match i with
  | .nop => some [0x00, 0]
  | .clearConditions m => some [0x04, 1, m]
  | .reset => some [0x05, 0]
  | .setup f t => some ([0x06, 3, f] ++ halfBytes t)
  | .output v => some [0x07, 1, v]
  | .key k => some [0x10, 1, k]
  | .showPage o p m => some [0x11, 3, o, p, m]
  | .hidePage o p => some [0x12, 2, o, p]
  | .hideBand o => some [0x13, 1, o]
  | .select o p b => some [0x14, 3, o, p, b]
  | .setButton o p b e => some [0x15, 4, o, p, b, e]
  | .setTimeout o p v r => some ([0x16, 5, o, p] ++ halfBytes v ++ [r])
  | .readPage o p => some [0x17, 2, o, p]
  | .setVar n v => some ([0x20, 5, n] ++ wordBytes v)
  | .getVar n => some [0x21, 1, n]
  | .timeRun => some [0x22, 0]
  | .timeHold => some [0x23, 0]
  | .slideStart o l i => some [0x30, 3, o, l, i]
  | .slideStop => some [0x31, 0]
  | .slidePause => some [0x32, 0]
  | .slideResume => some [0x33, 0]
  | .slideStep d => some [0x34, 1, d]
  | .setHold v r => some ([0x35, 3] ++ halfBytes v ++ [r])
  | .segOpen k l => some ([0x40, 3, k] ++ halfBytes l)
  | .segData b => some ([0x41, BitVec.ofNat 8 b.length] ++ b)
  | .erasePlayer => some [0x42, 0]
  | .powerOn => none
  | .resetN => none
  | .fieldStart _ => none
  | .passComplete => none
  | .fadeInEnd => none
  | .fadeOutEnd => none
  | .activationComplete => none
  | .pageTimeoutExpiry => none
  | .holdRunOut => none
  | .transitionEnd => none
  | .keyDelivery => none
  | .saveDone => none
  | .loadDone _ => none
  | .streamByte _ => none
  | .discLaneByte => none
  | .segmentServe => none
  | .edition _ _ => none
  | .time _ _ => none
  | .palette _ _ => none
  | .objectFirstPart _ _ _ _ _ _ _ _ => none
  | .objectPart _ _ _ _ _ => none
  | .page _ _ => none
  | .slidelist _ _ => none
  | .cue _ _ => none
  | .delete _ _ => none
  | .linkTimeout _ => none
  | .unknownCommand _ => none
  | .readReply _ => none
  | .readStatus _ => none
  | .readNotice _ => none
  | .setupClearDone => none
  | .resetNRelease => none

end Sys2Proof
end

