-- ==== Sys2Proof/Config.lean ====
section
/-! DEFINITION. The values the manual leaves open. Each is a constant without a body, so that no proof
can rest on one. -/

namespace Sys2Proof

/-- Bits 3 to 7 of the link byte: R175 and R190 give bits 0, 1 and 2 only (DESIGN CHOICE, assumption log 10). -/
opaque Config.linkByteHigh : BitVec 5

/-- What LSDO carries while the length byte of a read frame comes in: R175 gives the byte before it and R179 the
bytes after it (DESIGN CHOICE, assumption log 38). -/
opaque Config.readLengthByte : Byte

/-- Bit 7 (owner) of a notice record that names no owner, for which R191 gives no value
(DESIGN CHOICE, assumption log 11). -/
opaque Config.noOwnerBit : Bool

/-- How many objects of a pass have been drawn whole when the live palettes change under it for the
n-th time; R162 says that the pixels drawn before the change keep their colours and not how many
they are (DESIGN CHOICE, assumption log 6). -/
opaque Config.objectsDrawn : Nat → Nat

/-- Of the object that is being drawn when the live palettes change for the n-th time: whether its
pixel (i, j) has been drawn before the change (R162, DESIGN CHOICE, assumption log 6). -/
opaque Config.pixelDrawn : Nat → Nat → Nat → Bool

end Sys2Proof
end

