-- ==== Sys2Proof/Machine/State.lean ====
section
/-! DEFINITION. The state of the ND2240 as plain data: one structure per sub-block of spec/00_scope.md, the
graphics memory, the queue of waiting commands, and the state after reset. -/

namespace Sys2Proof.Machine

open Sys2Proof

/-- The graphics memory (R1): the bytes that differ from what an unlisted address reads as, by rising
address. -/
abbrev Memory := List Host.Cell

/-- A byte address of the 33,554,432-byte graphics memory (R1). (DEDUCED, assumption log 33.) -/
abbrev Addr := BitVec 25

/-- A colour (Y, Cb, Cr, A) (spec/00_scope.md, Levels and colour). -/
structure Colour where
  y : Byte
  cb : Byte
  cr : Byte
  a : Byte
deriving DecidableEq, Repr

/-- Transparent black, which is also the reset entry of a palette (R23). -/
def transparentBlack : Colour := ⟨16, 128, 128, 0⟩

/-- A page is named by its owner and its id (spec/00_scope.md, Names). -/
structure PageRef where
  owner : Owner
  id : Fin 32
deriving DecidableEq, Repr

/-! ## Object Store (chapter 1) -/

/-- A run of adjacent granules of the heap (R2). -/
structure Region where
  start : Nat
  count : Nat
deriving DecidableEq, Repr

/-- A token begun and not finished (R16). -/
inductive Token where
  | idle
  | literal (left : Nat)
  | run (lead : Byte)
deriving DecidableEq, Repr

/-- The incoming record of a directory entry (R8). -/
structure Incoming where
  region : Region
  width : Nat
  height : Nat
  row : Nat
  col : Nat
  token : Token
deriving DecidableEq, Repr

/-- The state of a directory entry (R8). -/
inductive ObjState where
  | empty
  | loading
  | ready
  | replacing
deriving DecidableEq, Repr

/-- An entry of the object directory (R8). -/
structure ObjEntry where
  st : ObjState
  width : Nat
  height : Nat
  current : Option Region
  incoming : Option Incoming
  expectSeq : Byte
  expectBytes : Word
  damage : Bool
  skipping : Bool
deriving DecidableEq, Repr

/-- The reset values of R8. -/
def objEntryReset : ObjEntry := ⟨.empty, 0, 0, none, none, 0, 0, false, false⟩

/-- The object directory, the free extent list and the deferred-free list (R3, R8). -/
structure ObjectStore where
  dir : Vector ObjEntry 512
  free : List Region
  deferred : List Region
deriving DecidableEq, Repr

/-! ## Palette Table (chapter 2) -/

/-- A palette: its two copies and its changed flag (R23). -/
structure Palette where
  pending : Vector Colour 256
  live : Vector Colour 256
  changed : Bool
deriving DecidableEq, Repr

/-- The reset value of a palette (R23). -/
def paletteReset : Palette :=
  ⟨Vector.replicate 256 transparentBlack, Vector.replicate 256 transparentBlack, false⟩

/-! ## Page records (chapter 2) -/

inductive PageKind where
  | menu
  | slide
deriving DecidableEq, Repr

/-- The kind of an outcome record (R31), in the order of its codes (R188). -/
inductive ActionKind where
  | nothing
  | goto
  | call
  | goBack
  | hide
  | select
  | setvar
  | slide
  | bringUp
deriving DecidableEq, Repr

/-- An outcome record (R31); `goBack` is RETURN and `bringUp` is SHOW. -/
structure Action where
  kind : ActionKind
  report : Bool
  relative : Bool
  target : Half
  value : Word
  code : Half
deriving DecidableEq, Repr

/-- A crop rectangle (R28). -/
structure Crop where
  cx : Nat
  cy : Nat
  cw : Nat
  ch : Nat
deriving DecidableEq, Repr

/-- A placement (R28). -/
structure Placement where
  obj : Nat
  x : Nat
  y : Nat
  crop : Option Crop
deriving DecidableEq, Repr

/-- A present visual (R29). -/
structure Visual where
  first : Nat
  count : Nat
  period : Nat
deriving DecidableEq, Repr

/-- A neighbour link (R30). -/
inductive NavLink where
  | absent
  | abs (id : Byte)
  | rel (offset : Int)
deriving DecidableEq, Repr

/-- A test kind (R30), in the order of its codes (R188). -/
inductive TestKind where
  | always
  | high
  | highOrZero
  | notHigh
  | notHighOrOnes
  | low
  | lowOrZero
  | zero
deriving DecidableEq, Repr

/-- A test record (R30). -/
structure Test where
  kind : TestKind
  var : Fin 16
  width : Nat
deriving DecidableEq, Repr

/-- The direction of a directional key and of a neighbour link (R30). -/
inductive Direction where
  | up
  | down
  | left
  | right
deriving DecidableEq, Repr

/-- A button record (R29). -/
structure Button where
  id : Byte
  initDisabled : Bool
  autoActivate : Bool
  x : Nat
  y : Nat
  visNormal : Option Visual
  visSelected : Option Visual
  visActivated : Option Visual
  visDisabled : Option Visual
  up : NavLink
  down : NavLink
  left : NavLink
  right : NavLink
  test : Test
  onTrue : Action
  onFalse : Action
deriving DecidableEq, Repr

/-- A page record (R27). -/
structure PageDef where
  kind : PageKind
  palette : Fin 8
  defaultButton : Option Byte
  autoShow : Bool
  passSlideKeys : Bool
  fadeIn : Nat
  fadeOut : Nat
  hold : Nat
  timeout : Half
  timeoutAct : Action
  backAct : Action
  placements : List Placement
  buttons : List Button
deriving DecidableEq, Repr

/-- An entry of the page directory (R36); the definition itself is in the page image. -/
structure PageEntry where
  defined : Bool
  kind : PageKind
  len : Nat
  saved : Bool
  slot : Option (Fin 6)
deriving DecidableEq, Repr

/-- The reset values of R36. -/
def pageEntryReset : PageEntry := ⟨false, .menu, 0, false, none⟩

/-! ## Page slots and the Page Exchange (chapter 3) -/

inductive SlotState where
  | empty
  | loading
  | ready
  | saving
deriving DecidableEq, Repr

/-- The state of a button (R87). -/
inductive ButtonState where
  | disabled
  | normal
  | selected
  | activated
deriving DecidableEq, Repr

/-- A button's live state and the field number at which it entered it (R43, R87). -/
structure ButtonLive where
  st : ButtonState
  since : Word
deriving DecidableEq, Repr

/-- A page slot (R43). -/
structure Slot where
  st : SlotState
  page : Option PageRef
  dirty : Bool
  defn : Option PageDef
  buttons : List ButtonLive
  selection : Option Byte
  hold : Nat
  timer : Half
  latch : Half
  mark : Bool
deriving DecidableEq, Repr

/-- The reset values of R43. -/
def slotReset : Slot := ⟨.empty, none, false, none, [], none, 0, 0, 0, false⟩

/-- A request of the exchange queue with its set of requesters (R48). -/
structure Request where
  page : PageRef
  byStack : Bool
  bySequencer : Bool
deriving DecidableEq, Repr

inductive Stage where
  | save
  | load
deriving DecidableEq, Repr

/-- The exchange in progress (R44). -/
structure Transfer where
  page : PageRef
  slot : Fin 6
  stage : Stage
  cancelled : Bool
deriving DecidableEq, Repr

/-- The Page Exchange (R43, R44). -/
structure Exchange where
  slots : Vector Slot 6
  queue : List Request
  current : Option Transfer
  ctrlReq : Option PageRef
  cursor : Fin 6
deriving DecidableEq, Repr

/-! ## The Page Stack (chapter 4) -/

/-- The three bands, from the bottom up (R63). -/
inductive Band where
  | slide
  | disc
  | player
deriving DecidableEq, Repr

inductive EntryState where
  | entering
  | shown
  | leaving
deriving DecidableEq, Repr

/-- The transition role of a slide entry (R62, R79). -/
inductive Role where
  | plain
  | incoming
  | outgoing
deriving DecidableEq, Repr

/-- An entry of the page stack (R62). `order` is a LEAVING entry's place among the LEAVING entries. -/
structure Entry where
  page : PageRef
  band : Band
  st : EntryState
  start : Option Word
  order : Nat
  role : Role
deriving DecidableEq, Repr

/-- A frame of a return stack (R75). -/
structure Frame where
  page : Fin 32
  button : Option Byte
deriving DecidableEq, Repr

/-- The Page Stack: its entries from bottom to top, and the frames of the two return stacks, newest
first (R62, R75). -/
structure PageStack where
  entries : List Entry
  discFrames : List Frame
  playerFrames : List Frame
deriving DecidableEq, Repr

/-! ## The Navigation Unit (chapter 5) -/

/-- The nine keys (R83), in the order of their codes (R188). -/
inductive Key where
  | up
  | down
  | left
  | right
  | enter
  | back
  | next
  | prev
  | pause
deriving DecidableEq, Repr

/-- The Navigation Unit: key queue, variables, the held changes for the page of the controller request
and the held return selections (R83, R104, R105, R110). -/
structure Navigation where
  keys : List Key
  vars : Vector Word 16
  heldEnables : List (Byte × Bool)
  heldSelect : Option Byte
  returnSel : List (PageRef × Byte)
deriving DecidableEq, Repr

/-! ## The Slide Sequencer (chapter 6) -/

/-- A transition kind (R112), in the order of its codes (R188). -/
inductive TransKind where
  | cut
  | crossfade
  | fadeThrough
  | wipeLeft
deriving DecidableEq, Repr

/-- An entry of a slide list (R112). -/
structure SlideEntry where
  page : Fin 32
  hold : Half
  kind : TransKind
  length : Nat
deriving DecidableEq, Repr

/-- A defined slide list (R112). -/
structure SlideList where
  loop : Bool
  entries : List SlideEntry
deriving DecidableEq, Repr

/-- The state of the Sequencer (R114), in the order of its codes (R190). -/
inductive SeqState where
  | stopped
  | waiting
  | holding
  | transitioning
  | paused
  | ended
deriving DecidableEq, Repr

/-- The transition record (R114). -/
structure TransRec where
  kind : TransKind
  length : Nat
  start : Word
deriving DecidableEq, Repr

/-- The Slide Sequencer and its list store (R112, R114); `back` is the direction BACK. `holdFresh` is
the model's own (DEDUCED, assumption log 22). -/
structure Sequencer where
  lists : Vector (Option SlideList) 4
  st : SeqState
  owner : Owner
  list : Fin 2
  index : Nat
  back : Bool
  shown : Option PageRef
  wanted : Option PageRef
  counter : Half
  latch : Half
  latchMark : Bool
  pendingPause : Bool
  trans : Option TransRec
  holdFresh : Bool
deriving DecidableEq, Repr

/-! ## The Cue Unit (chapter 7) -/

/-- A condition kind (R133), in the order of its codes (R188). -/
inductive CondKind where
  | absent
  | timeAt
  | timeIn
  | timeOut
  | varEq
  | varNe
deriving DecidableEq, Repr

/-- A condition record (R133). -/
structure Cond where
  kind : CondKind
  var : Fin 16
  p : Word
  q : Word
deriving DecidableEq, Repr

/-- A cue record (R133). -/
structure CueRecord where
  repeats : Bool
  level1 : Cond
  level2 : Cond
  action : Action
deriving DecidableEq, Repr

inductive CueState where
  | idle
  | watching
  | armed
  | resting
  | fired
deriving DecidableEq, Repr

/-- A cue slot (R133, R136). -/
structure CueSlot where
  st : CueState
  cue : Option CueRecord
deriving DecidableEq, Repr

/-- The Cue Unit (R129, R133). -/
structure CueUnit where
  time : Word
  running : Bool
  ticks : Half
  slots : Vector CueSlot 16
deriving DecidableEq, Repr

/-! ## Composer and Display Port (chapter 8) -/

inductive PlaneFormat where
  | sd480
  | sd576
  | hd720
  | hd1080
deriving DecidableEq, Repr

inductive Plane where
  | a
  | b
deriving DecidableEq, Repr

inductive PassState where
  | idle
  | drawing
  | done
deriving DecidableEq, Repr

/-- A button as the snapshot holds it (R150). -/
structure SnapButton where
  x : Nat
  y : Nat
  visNormal : Option Visual
  visSelected : Option Visual
  visActivated : Option Visual
  visDisabled : Option Visual
  st : ButtonState
  since : Word
deriving DecidableEq, Repr

/-- A drawn page stack entry as the snapshot holds it (R150). -/
structure SnapEntry where
  page : PageRef
  band : Band
  st : EntryState
  start : Option Word
  role : Role
  palette : Fin 8
  fadeIn : Nat
  fadeOut : Nat
  placements : List Placement
  buttons : List SnapButton
deriving DecidableEq, Repr

/-- The region of a drawn object as the snapshot holds it (R18, R150). -/
structure SnapObject where
  entry : Fin 512
  region : Region
  width : Nat
  height : Nat
deriving DecidableEq, Repr

/-- The snapshot of a pass (R150). -/
structure Snapshot where
  format : PlaneFormat
  entries : List SnapEntry
  trans : Option TransRec
  objects : List SnapObject
deriving DecidableEq, Repr

/-- How far the drawing of a pass has come: the objects drawn whole, and for the object after them the
numbers of the palette changes before which part of it was drawn (R162, DESIGN CHOICE, assumption log 6). -/
structure Progress where
  whole : Nat
  parts : List Nat
deriving DecidableEq, Repr

/-- The Composer (R144, R153). -/
structure Composer where
  front : Plane
  pass : PassState
  stamp : Word
  snapshot : Option Snapshot
  recompose : Bool
  animation : Bool
  format : Option PlaneFormat
  clearing : Bool
  progress : Progress
deriving DecidableEq, Repr

/-- The Display Port (R143, R163). -/
structure Display where
  counter : Word
  output : Bool
  scanning : Bool
deriving DecidableEq, Repr

/-! ## Stream Port and Segment Receiver (chapter 9) -/

/-- The Stream Port (R164). -/
structure StreamPort where
  fifo : List Byte
  hold : Bool
deriving DecidableEq, Repr

/-- An OBJECT part that has reached its entry on the DISC lane, and whether it carries LAST. -/
structure PartInFlight where
  entry : Fin 512
  last : Bool
deriving DecidableEq, Repr

/-- The parse state of the DISC lane (R166, R167). HUNT remembers whether the last byte was 0xC3.
HEADER holds the header bytes taken; with three it is a pending start. PAYLOAD holds the kind, the
stated length, the bytes left, the bytes held back or collected, and an OBJECT part in flight. SKIP
holds the kind, the stated length, the bytes left and whether BAD_KIND is to be posted at its end. -/
inductive LaneState where
  | hunt (marker : Bool)
  | header (got : List Byte)
  | payload (kind : Byte) (len left : Nat) (got : List Byte) (part : Option PartInFlight)
  | skip (kind : Byte) (len left : Nat) (badKind : Bool)
deriving DecidableEq, Repr

/-- The Segment Receiver (R166, R172, R173). -/
structure Receiver where
  disc : LaneState
  lastServed : Owner
  edition : Half
deriving DecidableEq, Repr

inductive RelayState where
  | empty
  | filling
  | complete
deriving DecidableEq, Repr

/-- The relay buffer (R169); its fill count is the number of its bytes. -/
structure Relay where
  st : RelayState
  kind : Byte
  len : Half
  data : List Byte
deriving DecidableEq, Repr

/-- The relay buffer holding no segment (R169). (DESIGN CHOICE, assumption log 25.) -/
def relayReset : Relay := ⟨.empty, 0, 0, []⟩

/-! ## Control Link (chapter 10) -/

/-- The reply codes (R178), in the order of their codes (R190). -/
inductive ReplyCode where
  | ok
  | pending
  | notConfigured
  | badCommand
  | badLength
  | badArgument
  | notDefined
  | stackFull
  | queueFull
  | wrongState
  | empty
  | busy
  | resetDone
deriving DecidableEq, Repr

/-- The reply slot (R178). -/
structure Reply where
  cmd : Byte
  code : ReplyCode
  data : List Byte
  pending : Bool
deriving DecidableEq, Repr

/-- The notice kinds (R181), in the order of their numbers from 1 (R191). -/
inductive NoticeKind where
  | actionReport
  | pageShown
  | pageHidden
  | keyUnused
  | outcomeFault
  | returnEmpty
  | stackWrap
  | cueFired
  | slideAdvanced
  | slideEnd
  | slideStopped
  | objectReady
  | objectFault
  | segmentFault
deriving DecidableEq, Repr

/-- A notice record with its nine fields (R181). -/
structure Notice where
  kind : NoticeKind
  owner : Option Owner
  page : Option (Fin 32)
  index : Half
  code : Half
  detail : Word
  flag : Bool
  field : Word
  time : Word
deriving DecidableEq, Repr

/-- The six sticky conditions (R182). -/
structure Conditions where
  late : Bool
  noticeOverflow : Bool
  linkTimeout : Bool
  linkOverrun : Bool
  streamOverrun : Bool
  heapFull : Bool
deriving DecidableEq, Repr

/-- What LSDO carried in the latest frame, byte by byte (R175, R179): the link byte with the code byte, the byte
carried with the length byte, none where select rose before it, and the bytes carried after it. The model's own
record of an output. -/
structure Wire where
  linkByte : Byte
  lengthByte : Option Byte
  tail : List Byte
deriving DecidableEq, Repr

/-- The Control Link (chapter 10). `frameBytes` is the frame in assembly, whose length is the count of the bytes
received (R175); `frameIgnored` says that bytes are ignored until select rises. -/
structure Link where
  configured : Bool
  processing : Option Byte
  reply : Reply
  notices : List Notice
  conds : Conditions
  frameBytes : List Byte
  frameIgnored : Bool
  wire : Wire
deriving DecidableEq, Repr

/-! ## The whole machine -/

/-- The state of the ND2240 and the queue of commands that wait, first in, first out. -/
structure State where
  mem : Memory
  stream : StreamPort
  recv : Receiver
  relay : Relay
  objs : ObjectStore
  pals : Vector Palette 16
  pages : Vector PageEntry 64
  exch : Exchange
  stack : PageStack
  nav : Navigation
  seqr : Sequencer
  cues : CueUnit
  comp : Composer
  disp : Display
  link : Link
  resetLow : Bool
  due : List FieldBlock
  fresh : Nat
  pending : List Instr
deriving DecidableEq, Repr

/-- Why a step can stop with a fault: never. The manual gives the block no stop: what goes wrong is a
reply code (R178), a notice (R181) or a sticky condition (R182), and the block goes on. -/
inductive Fault where
deriving DecidableEq, Repr

/-- Why a step can be refused. -/
inductive Refusal where
  /-- Raised by exec for a command that has no meaning yet. Safe: the model stops where the hardware
  goes on. No arm of exec answers it. -/
  | notModelled (mnemonic : String)
deriving DecidableEq, Repr

/-- The Sequencer's fields at the reset values of R114, over a list store. -/
def sequencerReset (lists : Vector (Option SlideList) 4) : Sequencer :=
  ⟨lists, .stopped, .disc, 0, 0, false, none, none, 0, 0, false, false, none, false⟩

/-- No condition set (R182). -/
def conditionsClear : Conditions := ⟨false, false, false, false, false, false⟩

/-- The state right after power-on with RESET_N high. Each sub-block takes the reset value of its
chapter: R164, R166, R172, R173, R169, R7, R8, R23, R36, R43, R44, R62, R75, R111, R112, R114, R129,
R135, R143, R144, R163, R178, R181, R182, R184. -/
def State.reset : State where
  mem := []
  stream := ⟨[], true⟩
  recv := ⟨.hunt false, .player, 0⟩
  relay := relayReset
  objs := ⟨Vector.replicate 512 objEntryReset, [⟨0, 65248⟩], []⟩
  pals := Vector.replicate 16 paletteReset
  pages := Vector.replicate 64 pageEntryReset
  exch := ⟨Vector.replicate 6 slotReset, [], none, none, 5⟩
  stack := ⟨[], [], []⟩
  nav := ⟨[], Vector.replicate 16 0, [], none, []⟩
  seqr := sequencerReset (Vector.replicate 4 none)
  cues := ⟨0, false, 1, Vector.replicate 16 ⟨.idle, none⟩⟩
  comp := ⟨.a, .idle, 0, none, false, false, none, false, ⟨0, []⟩⟩
  disp := ⟨0, false, false⟩
  link := ⟨false, none, ⟨0x00, .ok, [], false⟩, [], conditionsClear, [], false, ⟨0, none, []⟩⟩
  resetLow := false
  due := []
  fresh := 0
  pending := []

/-! ## Updates, one per field; their lemmas are in Sys2Proof/Laws/State.lean -/

def State.setMem (s : State) (v : Memory) : State := { s with mem := v }

def State.setStream (s : State) (v : StreamPort) : State := { s with stream := v }

def State.setRecv (s : State) (v : Receiver) : State := { s with recv := v }

def State.setRelay (s : State) (v : Relay) : State := { s with relay := v }

def State.setObjs (s : State) (v : ObjectStore) : State := { s with objs := v }

def State.setPals (s : State) (v : Vector Palette 16) : State := { s with pals := v }

def State.setPages (s : State) (v : Vector PageEntry 64) : State := { s with pages := v }

def State.setExch (s : State) (v : Exchange) : State := { s with exch := v }

def State.setStack (s : State) (v : PageStack) : State := { s with stack := v }

def State.setNav (s : State) (v : Navigation) : State := { s with nav := v }

def State.setSeqr (s : State) (v : Sequencer) : State := { s with seqr := v }

def State.setCues (s : State) (v : CueUnit) : State := { s with cues := v }

def State.setComp (s : State) (v : Composer) : State := { s with comp := v }

def State.setDisp (s : State) (v : Display) : State := { s with disp := v }

def State.setLink (s : State) (v : Link) : State := { s with link := v }

def State.setResetLow (s : State) (v : Bool) : State := { s with resetLow := v }

def State.setDue (s : State) (v : List FieldBlock) : State := { s with due := v }

def State.setFresh (s : State) (v : Nat) : State := { s with fresh := v }

def State.setPending (s : State) (v : List Instr) : State := { s with pending := v }

end Sys2Proof.Machine
end

