-- ==== Sys2Proof/Machine/Flags.lean ====
section
/-! DEFINITION. The sticky conditions, their mask, ATTN and the link byte (R175, R182, R183, R190). -/

namespace Sys2Proof.Machine

open Sys2Proof

/-- At least one sticky condition is set (R183). -/
def anyCondition (c : Conditions) : Bool :=
  c.late || c.noticeOverflow || c.linkTimeout || c.linkOverrun || c.streamOverrun || c.heapFull

/-- The conditions as the condition mask of R188. -/
def conditionMask (c : Conditions) : Byte :=
  (0 : BitVec 2) ++ (BitVec.ofBool c.heapFull ++ (BitVec.ofBool c.streamOverrun ++
    (BitVec.ofBool c.linkOverrun ++ (BitVec.ofBool c.linkTimeout ++
      (BitVec.ofBool c.noticeOverflow ++ BitVec.ofBool c.late)))))

/-- Each condition whose mask bit is set is cleared (R182). -/
def clearMasked (mask : Byte) (c : Conditions) : Conditions where
  late := c.late && !mask.getLsbD 0
  noticeOverflow := c.noticeOverflow && !mask.getLsbD 1
  linkTimeout := c.linkTimeout && !mask.getLsbD 2
  linkOverrun := c.linkOverrun && !mask.getLsbD 3
  streamOverrun := c.streamOverrun && !mask.getLsbD 4
  heapFull := c.heapFull && !mask.getLsbD 5

/-- The level of ATTN (R183); low while RESET_N is low (R175). -/
def attn (s : State) : Bool :=
  !s.resetLow && (!s.link.notices.isEmpty || anyCondition s.link.conds)

/-- The link byte (R175, R190): bit 0 a command in processing, bit 1 a notice waiting, bit 2 a sticky
condition set; the other bits are free (DESIGN CHOICE, assumption log 10). -/
def linkByte (s : State) : Byte :=
  Config.linkByteHigh ++ (BitVec.ofBool (anyCondition s.link.conds) ++
    (BitVec.ofBool (!s.link.notices.isEmpty) ++ BitVec.ofBool s.link.processing.isSome))

/-- The conditions after a change `f`. -/
def withConditions (f : Conditions → Conditions) (s : State) : State :=
  s.setLink { s.link with conds := f s.link.conds }

/-- LATE is set (R148, R182). -/
def setLate (s : State) : State := withConditions (fun c => { c with late := true }) s

/-- NOTICE_OVERFLOW is set (R181, R182). -/
def setNoticeOverflow (s : State) : State :=
  withConditions (fun c => { c with noticeOverflow := true }) s

/-- LINK_TIMEOUT is set (R175, R182). -/
def setLinkTimeout (s : State) : State :=
  withConditions (fun c => { c with linkTimeout := true }) s

/-- LINK_OVERRUN is set (R177, R182). -/
def setLinkOverrun (s : State) : State :=
  withConditions (fun c => { c with linkOverrun := true }) s

/-- STREAM_OVERRUN is set (R165, R182). -/
def setStreamOverrun (s : State) : State :=
  withConditions (fun c => { c with streamOverrun := true }) s

/-- HEAP_FULL is set (R11, R182). -/
def setHeapFull (s : State) : State := withConditions (fun c => { c with heapFull := true }) s

end Sys2Proof.Machine
end

