-- ==== Sys2Proof/Machine/Ops.lean ====
section
/-! DEFINITION. The named operations that every sub-block uses: the graphics memory (R1), the notice queue
(R181), the recompose request (R145), the index of an item in its table. -/

namespace Sys2Proof.Machine

open Sys2Proof

/-! ## Graphics memory (R1) -/

/-- The first byte of plane B (R1). -/
def planeBBase : Nat := 0x07E9000

/-- The first byte of the page image area (R1). -/
def imageBase : Nat := 0x0FD2000

/-- The first byte of the object heap (R1). -/
def heapBase : Nat := 0x1012000

/-- The number of granules of the heap (R1). -/
def heapGranules : Nat := 65248

/-- What an unlisted address reads as: transparent black in the planes, which SETUP writes there (R153),
and 0 elsewhere (DESIGN CHOICE, assumption log 4). -/
def unlisted (a : Nat) : Byte :=
  if a < imageBase then
    match a % 4 with
    | 0 => transparentBlack.y
    | 1 => transparentBlack.cb
    | 2 => transparentBlack.cr
    | _ => transparentBlack.a
  else 0

/-- The byte a list of cells holds at an address. -/
def cellAt (a : Nat) : Memory → Byte
  | [] => unlisted a
  | (k, v) :: m => if k = a then v else cellAt a m

/-- The list of cells after a byte is written; writing what an unlisted address reads as removes the
cell. -/
def cellWrite (a : Nat) (b : Byte) : Memory → Memory
  | [] => if b = unlisted a then [] else [(a, b)]
  | (k, v) :: m =>
    if a < k then (if b = unlisted a then (k, v) :: m else (a, b) :: (k, v) :: m)
    else if a = k then (if b = unlisted a then m else (a, b) :: m)
    else (k, v) :: cellWrite a b m

/-- The canonical form from an address up: addresses strictly rising and below the end of the memory, no
cell equal to what an unlisted address reads as. -/
def cellsFrom (lo : Nat) : Memory → Bool
  | [] => true
  | (k, v) :: m => decide (lo ≤ k) && decide (k < 2 ^ 25) && (v != unlisted k) && cellsFrom (k + 1) m

/-- The memory is in its canonical form. -/
def Memory.wf (m : Memory) : Bool := cellsFrom 0 m

/-- Reading one byte of the graphics memory. -/
def Memory.read (m : Memory) (a : Addr) : Byte := cellAt a.toNat m

/-- Writing one byte of the graphics memory. -/
def Memory.write (m : Memory) (a : Addr) (b : Byte) : Memory := cellWrite a.toNat b m

/-- Every address the test names takes the byte an unlisted address reads as: transparent black in a
plane, 0 in the page image area and the heap. -/
def Memory.restore (m : Memory) (test : Nat → Bool) : Memory := m.filter (fun c => !test c.1)

/-- Writing bytes from an address up. -/
def Memory.writeBytes (m : Memory) (a : Nat) : List Byte → Memory
  | [] => m
  | b :: bs => Memory.writeBytes (m.write (BitVec.ofNat 25 a) b) (a + 1) bs

/-- Reading `n` bytes from an address up. -/
def Memory.readBytes (m : Memory) (a : Nat) : Nat → List Byte
  | 0 => []
  | n + 1 => m.read (BitVec.ofNat 25 a) :: Memory.readBytes m (a + 1) n

/-! ## Items in their tables -/

/-- Disc page i is entry i, player page j is entry 32 + j (R36). -/
def pageIndex (r : PageRef) : Fin 64 :=
  match r.owner with
  | .disc => ⟨r.id.val, by omega⟩
  | .player => ⟨32 + r.id.val, by omega⟩

/-- Disc palette p is palette p, player palette p is palette 8 + p (R23). -/
def paletteIndex (o : Owner) (p : Fin 8) : Fin 16 :=
  match o with
  | .disc => ⟨p.val, by omega⟩
  | .player => ⟨8 + p.val, by omega⟩

/-- The number of object ids of an owner (chapter 1, section 1.3). -/
def objectIds (o : Owner) : Nat :=
  match o with
  | .disc => 384
  | .player => 128

/-- Disc object i is entry i, player object j is entry 384 + j; none beyond the owner's range. -/
def objectIndex (o : Owner) (id : Nat) : Option (Fin 512) :=
  match o with
  | .disc => if h : id < 384 then some ⟨id, by omega⟩ else none
  | .player => if h : id < 128 then some ⟨384 + id, by omega⟩ else none

/-- Disc cue i stands in slot i, player cue j in slot 8 + j (R133). -/
def cueIndex (o : Owner) (i : Fin 8) : Fin 16 :=
  match o with
  | .disc => ⟨i.val, by omega⟩
  | .player => ⟨8 + i.val, by omega⟩

/-- The place of a slide list in the list store (R112). -/
def listIndex (o : Owner) (i : Fin 2) : Fin 4 :=
  match o with
  | .disc => ⟨i.val, by omega⟩
  | .player => ⟨2 + i.val, by omega⟩

/-- A page id byte below 32 (R186). -/
def pageId? (b : Byte) : Option (Fin 32) :=
  if h : b.toNat < 32 then some ⟨b.toNat, h⟩ else none

/-- The palette, page and object entries named by index, with `f` applied to every one the test names. -/
def mapWhere {α : Type} {n : Nat} (test : Nat → Bool) (f : α → α) (v : Vector α n) : Vector α n :=
  ⟨⟨v.toList.mapIdx (fun i x => if test i then f x else x)⟩, by simp⟩

/-! ## Notices and requests to other sub-blocks -/

/-- The present field number: the Display Port's counter (R143). -/
def fieldNow (s : State) : Word := s.disp.counter

/-- A notice is posted (R181): the Control Link fills in the field number and the stream time, and drops
the notice with NOTICE_OVERFLOW when the queue holds 32. -/
def post (kind : NoticeKind) (owner : Option Owner) (page : Option (Fin 32)) (index code : Half)
    (detail : Word) (flag : Bool) (s : State) : State :=
  if s.link.notices.length < 32 then
    s.setLink { s.link with notices := s.link.notices ++
      [⟨kind, owner, page, index, code, detail, flag, s.disp.counter, s.cues.time⟩] }
  else setNoticeOverflow s

/-- The index field that stands for none (R191). -/
def noIndex : Half := 0xFFFF

/-- A SEGMENT_FAULT notice (R181, R191): the high byte of its code is the segment kind as read. -/
def segmentFault (lane : Owner) (kind : Byte) (code : Byte) (id : Half) (detail : Nat) (s : State) :
    State :=
  post .segmentFault (some lane) none id (kind ++ code) (BitVec.ofNat 32 detail) false s

/-- The SEGMENT_FAULT codes (R191). -/
def faultBadKind : Byte := 0

def faultOwner : Byte := 1

def faultBadLength : Byte := 2

def faultBadField : Byte := 3

/-- The Composer's recompose request is raised (R145). -/
def raiseRecompose (s : State) : State := s.setComp { s.comp with recompose := true }

end Sys2Proof.Machine
end

