-- ==== Sys2Proof/Machine/Operands.lean ====
section
/-! DEFINITION. The records of the segments (R27 to R34, R112, R113, R133, R134, R189): how each is read from
the bytes of a payload, and the checks that refuse one, in the order the manual makes them. -/

namespace Sys2Proof.Machine

open Sys2Proof

/-! ## Outcome records (R31, R32) -/

/-- The outcome kind of a code (R188); none for a code that is not in the list. -/
def actionKind? (b : Byte) : Option ActionKind :=
  match b.toNat with
  | 0 => some .nothing
  | 1 => some .goto
  | 2 => some .call
  | 3 => some .goBack
  | 4 => some .hide
  | 5 => some .select
  | 6 => some .setvar
  | 7 => some .slide
  | 8 => some .bringUp
  | _ => none

/-- The outcome record at an offset (R189): kind, flags REPORT and RELATIVE, target, value, report code. -/
def parseAction (p : List Byte) (o : Nat) : Action where
  kind := (actionKind? (byteAt p o)).getD .nothing
  report := (byteAt p (o + 1)).getLsbD 0
  relative := (byteAt p (o + 1)).getLsbD 1
  target := halfAt p (o + 2)
  value := wordAt p (o + 4)
  code := halfAt p (o + 8)

/-- An outcome kind permitted for pages (R31): every listed kind but SHOW. -/
def pageActionKindOk (b : Byte) : Bool := b.toNat ≤ 7

/-- The target of a page outcome is in range (R32): a SETVAR variable, a SLIDE operation, a SELECT
button. -/
def pageActionTargetOk (a : Action) : Bool :=
  match a.kind with
  | .setvar => a.target.toNat < 16
  | .slide => a.target.toNat < 4
  | .select => a.target.toNat < 64
  | _ => true

/-- The checks of a page outcome at an offset: its kind, then its target (R34). Each check gives whether
it fails and the payload offset of its field. -/
def pageActionChecks (p : List Byte) (o : Nat) : List (Bool × Nat) :=
  [(!pageActionKindOk (byteAt p o), o), (!pageActionTargetOk (parseAction p o), o + 2)]

/-- An outcome kind permitted for a cue (R31): NONE, HIDE, SELECT, SETVAR, SLIDE, SHOW. -/
def cueActionKindOk (b : Byte) : Bool := b.toNat = 0 || (4 ≤ b.toNat && b.toNat ≤ 8)

/-- The checks of a cue's action at an offset (R134): kind, target, and the button a SELECT names. -/
def cueActionChecks (p : List Byte) (o : Nat) : List (Bool × Nat) :=
  let a := parseAction p o
  let targetBad : Bool :=
    match a.kind with
    | .bringUp => 32 ≤ a.target.toNat
    | .hide => 32 ≤ a.target.toNat
    | .select => 32 ≤ a.target.toNat
    | .setvar => 16 ≤ a.target.toNat
    | .slide => 4 ≤ a.target.toNat
    | _ => false
  [(!cueActionKindOk (byteAt p o), o), (targetBad, o + 2),
    (a.kind == .select && 64 ≤ a.value.toNat, o + 4)]

/-- The offset of the first check that fails. -/
def firstFault : List (Bool × Nat) → Option Nat
  | [] => none
  | (bad, o) :: cs => if bad then some o else firstFault cs

/-! ## Page records (R27 to R30) -/

/-- An optional one-byte field: 0xFF stands for none (R188). -/
def optByte (b : Byte) : Option Byte := if b = 0xFF then none else some b

/-- A visual of three bytes (R189): the first object id, 0xFFFF for absent; the frame count minus 1 in
the high four bits and the period in the low four. -/
def parseVisual (p : List Byte) (o : Nat) : Option Visual :=
  if halfAt p o = 0xFFFF then none
  else some ⟨(halfAt p o).toNat, (byteAt p (o + 2)).toNat / 16 + 1, (byteAt p (o + 2)).toNat % 16⟩

/-- A neighbour link of two bytes (R30, R189). -/
def parseLink (p : List Byte) (o : Nat) : NavLink :=
  match (byteAt p o).toNat with
  | 1 => .abs (byteAt p (o + 1))
  | 2 => .rel (byteAt p (o + 1)).toInt
  | _ => .absent

/-- The test kind of a code (R188). -/
def testKind? (b : Byte) : Option TestKind :=
  match b.toNat with
  | 0 => some .always
  | 1 => some .high
  | 2 => some .highOrZero
  | 3 => some .notHigh
  | 4 => some .notHighOrOnes
  | 5 => some .low
  | 6 => some .lowOrZero
  | 7 => some .zero
  | _ => none

/-- A test record of three bytes (R30, R189). -/
def parseTest (p : List Byte) (o : Nat) : Test where
  kind := (testKind? (byteAt p o)).getD .always
  var := Fin.ofNat 16 (byteAt p (o + 1)).toNat
  width := (byteAt p (o + 2)).toNat

/-- A placement record of 15 bytes (R28, R189). -/
def parsePlacement (p : List Byte) (o : Nat) : Placement where
  obj := (halfAt p o).toNat
  x := (halfAt p (o + 2)).toNat
  y := (halfAt p (o + 4)).toNat
  crop :=
    if (byteAt p (o + 6)).getLsbD 0 then
      some ⟨(halfAt p (o + 7)).toNat, (halfAt p (o + 9)).toNat, (halfAt p (o + 11)).toNat,
        (halfAt p (o + 13)).toNat⟩
    else none

/-- A button record of 49 bytes (R29, R189). -/
def parseButton (p : List Byte) (o : Nat) : Button where
  id := byteAt p o
  initDisabled := (byteAt p (o + 1)).getLsbD 0
  autoActivate := (byteAt p (o + 1)).getLsbD 1
  x := (halfAt p (o + 2)).toNat
  y := (halfAt p (o + 4)).toNat
  visNormal := parseVisual p (o + 6)
  visSelected := parseVisual p (o + 9)
  visActivated := parseVisual p (o + 12)
  visDisabled := parseVisual p (o + 15)
  up := parseLink p (o + 18)
  down := parseLink p (o + 20)
  left := parseLink p (o + 22)
  right := parseLink p (o + 24)
  test := parseTest p (o + 26)
  onTrue := parseAction p (o + 29)
  onFalse := parseAction p (o + 39)

/-- The offset of placement i (R189). -/
def placementAt (i : Nat) : Nat := 32 + 15 * i

/-- The offset of button i behind np placements (R189). -/
def buttonAt (np i : Nat) : Nat := 32 + 15 * np + 49 * i

/-- A page record (R27, R189). -/
def parsePage (p : List Byte) : PageDef :=
  let np := (byteAt p 30).toNat
  { kind := if byteAt p 1 = 1 then .slide else .menu
    palette := Fin.ofNat 8 (byteAt p 2).toNat
    defaultButton := optByte (byteAt p 3)
    autoShow := (byteAt p 4).getLsbD 0
    passSlideKeys := (byteAt p 4).getLsbD 1
    fadeIn := (byteAt p 5).toNat
    fadeOut := (byteAt p 6).toNat
    hold := (byteAt p 7).toNat
    timeout := halfAt p 8
    timeoutAct := parseAction p 10
    backAct := parseAction p 20
    placements := (List.range np).map (fun i => parsePlacement p (placementAt i))
    buttons := (List.range (byteAt p 31).toNat).map (fun i => parseButton p (buttonAt np i)) }

/-- The checks of a visual at an offset (R34): the first object id, then the period. -/
def visualChecks (owner : Owner) (p : List Byte) (o : Nat) : List (Bool × Nat) :=
  match parseVisual p o with
  | none => []
  | some v => [(decide (objectIds owner ≤ v.first), o), (v.period == 0, o + 2)]

/-- The checks of a neighbour link at an offset (R34): its kind, then an ABS operand. -/
def linkChecks (p : List Byte) (o : Nat) : List (Bool × Nat) :=
  [(decide (3 ≤ (byteAt p o).toNat), o),
    (byteAt p o == 1 && decide (64 ≤ (byteAt p (o + 1)).toNat), o + 1)]

/-- The checks of a test record at an offset (R34). -/
def testChecks (p : List Byte) (o : Nat) : List (Bool × Nat) :=
  [(decide (8 ≤ (byteAt p o).toNat), o), (decide (16 ≤ (byteAt p (o + 1)).toNat), o + 1),
    (!(byteAt p (o + 2) == 8 || byteAt p (o + 2) == 16 || byteAt p (o + 2) == 32), o + 2)]

/-- The checks of placement i in field order (R34). -/
def placementChecks (owner : Owner) (p : List Byte) (i : Nat) : List (Bool × Nat) :=
  let o := placementAt i
  [(decide (objectIds owner ≤ (halfAt p o).toNat), o),
    (decide (4096 ≤ (halfAt p (o + 2)).toNat), o + 2),
    (decide (4096 ≤ (halfAt p (o + 4)).toNat), o + 4)]

/-- The id of button i equals that of an earlier button in the list (R34). -/
def idRepeats (p : List Byte) (np i : Nat) : Bool :=
  (List.range i).any (fun j => byteAt p (buttonAt np j) == byteAt p (buttonAt np i))

/-- The checks of button i in field order (R34). -/
def buttonChecks (owner : Owner) (p : List Byte) (np i : Nat) : List (Bool × Nat) :=
  let o := buttonAt np i
  [(decide (64 ≤ (byteAt p o).toNat) || idRepeats p np i, o),
    (decide (4096 ≤ (halfAt p (o + 2)).toNat), o + 2),
    (decide (4096 ≤ (halfAt p (o + 4)).toNat), o + 4)] ++
  visualChecks owner p (o + 6) ++ visualChecks owner p (o + 9) ++
  visualChecks owner p (o + 12) ++ visualChecks owner p (o + 15) ++
  linkChecks p (o + 18) ++ linkChecks p (o + 20) ++ linkChecks p (o + 22) ++ linkChecks p (o + 24) ++
  testChecks p (o + 26) ++ pageActionChecks p (o + 29) ++ pageActionChecks p (o + 39)

/-- The checks of the fixed part in field order, with the button count's check against a SLIDE kind at
its place (R34). -/
def pageFixedChecks (p : List Byte) : List (Bool × Nat) :=
  [(decide (32 ≤ (byteAt p 0).toNat), 0), (decide (2 ≤ (byteAt p 1).toNat), 1),
    (decide (8 ≤ (byteAt p 2).toNat), 2),
    (decide (64 ≤ (byteAt p 3).toNat) && byteAt p 3 != 0xFF, 3),
    (decide (64 ≤ (byteAt p 7).toNat), 7)] ++
  pageActionChecks p 10 ++ pageActionChecks p 20 ++
  [(byteAt p 1 == 1 && byteAt p 31 != 0, 31)]

/-- Why a payload is refused by its owner: the code and the detail of its SEGMENT_FAULT. -/
abbrev Refused := Byte × Nat

/-- The check of a PAGE payload (R34): the count limits, the length, then the fields in payload order. None: it
passes. (DEDUCED, assumption log 19.) -/
def pageFault (owner : Owner) (p : List Byte) : Option Refused :=
  let np := (byteAt p 30).toNat
  let nb := (byteAt p 31).toNat
  if 33 ≤ np then some (faultBadField, 30)
  else if 25 ≤ nb then some (faultBadField, 31)
  else if p.length ≠ 32 + 15 * np + 49 * nb then some (faultBadLength, 0)
  else
    (firstFault (pageFixedChecks p ++
      (List.range np).flatMap (placementChecks owner p) ++
      (List.range nb).flatMap (buttonChecks owner p np))).map (fun o => (faultBadField, o))

/-! ## Palette payloads (R24) -/

/-- The record count of a PALETTE payload (R189). -/
def paletteCount (p : List Byte) : Nat := (halfAt p 1).toNat

/-- The check of a PALETTE payload (R24): the record count, the payload length, the palette id. -/
def paletteFault (p : List Byte) : Option Refused :=
  if paletteCount p = 0 ∨ 256 < paletteCount p then some (faultBadField, 1)
  else if p.length ≠ 3 + 5 * paletteCount p then some (faultBadLength, 0)
  else if 8 ≤ (byteAt p 0).toNat then some (faultBadField, 0)
  else none

/-- The entry records of a PALETTE payload, each an index and a colour (R24, R189). -/
def paletteRecords (p : List Byte) : List (Byte × Colour) :=
  (List.range (paletteCount p)).map (fun i =>
    let o := 3 + 5 * i
    (byteAt p o, ⟨byteAt p (o + 1), byteAt p (o + 2), byteAt p (o + 3), byteAt p (o + 4)⟩))

/-! ## Slide lists (R112, R113) -/

/-- The transition kind of a code (R188). -/
def transKind? (b : Byte) : Option TransKind :=
  match b.toNat with
  | 0 => some .cut
  | 1 => some .crossfade
  | 2 => some .fadeThrough
  | 3 => some .wipeLeft
  | _ => none

/-- Entry i of a SLIDELIST payload (R189). -/
def parseSlideEntry (p : List Byte) (i : Nat) : SlideEntry :=
  let o := 3 + 5 * i
  { page := Fin.ofNat 32 (byteAt p o).toNat
    hold := halfAt p (o + 1)
    kind := (transKind? (byteAt p (o + 3))).getD .cut
    length := (byteAt p (o + 4)).toNat }

/-- A slide list (R112, R189). -/
def parseSlideList (p : List Byte) : SlideList where
  loop := byteAt p 1 == 0
  entries := (List.range (byteAt p 2).toNat).map (parseSlideEntry p)

/-- The checks of entry i of a SLIDELIST payload (R113). -/
def slideEntryChecks (p : List Byte) (i : Nat) : List (Bool × Nat) :=
  let o := 3 + 5 * i
  [(decide (32 ≤ (byteAt p o).toNat), o), (decide (4 ≤ (byteAt p (o + 3)).toNat), o + 3)]

/-- The check of a SLIDELIST payload (R113): the entry count, the length, the list id, the mode, the
entries. -/
def slideListFault (p : List Byte) : Option Refused :=
  let n := (byteAt p 2).toNat
  if n = 0 ∨ 128 < n then some (faultBadField, 2)
  else if p.length ≠ 3 + 5 * n then some (faultBadLength, 0)
  else
    (firstFault ([(decide (2 ≤ (byteAt p 0).toNat), 0), (decide (2 ≤ (byteAt p 1).toNat), 1)] ++
      (List.range n).flatMap (slideEntryChecks p))).map (fun o => (faultBadField, o))

/-! ## Cues (R133, R134) -/

/-- The condition kind of a code (R188). -/
def condKind? (b : Byte) : Option CondKind :=
  match b.toNat with
  | 0 => some .absent
  | 1 => some .timeAt
  | 2 => some .timeIn
  | 3 => some .timeOut
  | 4 => some .varEq
  | 5 => some .varNe
  | _ => none

/-- A condition record of 10 bytes (R133, R189). -/
def parseCond (p : List Byte) (o : Nat) : Cond where
  kind := (condKind? (byteAt p o)).getD .absent
  var := Fin.ofNat 16 (byteAt p (o + 1)).toNat
  p := wordAt p (o + 2)
  q := wordAt p (o + 6)

/-- The checks of a condition at an offset (R134); a level-1 condition is never absent. -/
def condChecks (p : List Byte) (o : Nat) (level1 : Bool) : List (Bool × Nat) :=
  [((condKind? (byteAt p o)).isNone || (level1 && byteAt p o == 0), o),
    ((byteAt p o == 4 || byteAt p o == 5) && decide (16 ≤ (byteAt p (o + 1)).toNat), o + 1)]

/-- A cue record (R133, R189). -/
def parseCue (p : List Byte) : CueRecord where
  repeats := (byteAt p 1).getLsbD 0
  level1 := parseCond p 2
  level2 := parseCond p 12
  action := parseAction p 22

/-- The check of a CUE payload (R134): the length, then the fields in order. -/
def cueFault (p : List Byte) : Option Refused :=
  if p.length ≠ 32 then some (faultBadLength, 0)
  else
    (firstFault ([(decide (8 ≤ (byteAt p 0).toNat), 0)] ++ condChecks p 2 true ++
      condChecks p 12 false ++ cueActionChecks p 22)).map (fun o => (faultBadField, o))

/-! ## Object parts (R9, R189) -/

/-- The fixed fields of an OBJECT part (section 1.4, R189). -/
structure PartHead where
  id : Half
  first : Bool
  last : Bool
  seq : Byte
  width : Nat
  height : Nat
  total : Word
deriving DecidableEq, Repr

/-- The fixed fields of an OBJECT payload (R189). -/
def parsePart (p : List Byte) : PartHead where
  id := halfAt p 0
  first := (byteAt p 2).getLsbD 0
  last := (byteAt p 2).getLsbD 1
  seq := byteAt p 3
  width := (halfAt p 4).toNat
  height := (halfAt p 6).toNat
  total := wordAt p 8

/-- How many bytes the fixed fields of an OBJECT part take (R168, R189). -/
def partFixed (first : Bool) : Nat := if first then 12 else 4

/-- The payload offset of the first field of an OBJECT part at fault, in field order (R9). -/
def partFault (owner : Owner) (h : PartHead) : Option Nat :=
  firstFault [(decide (objectIds owner ≤ h.id.toNat), 0), (h.first && h.seq != 0, 3),
    (h.first && (h.width == 0 || decide (1920 < h.width)), 4),
    (h.first && (h.height == 0 || decide (1080 < h.height)), 6)]

/-! ## Segment kinds (R167, R168, R189) -/

def kindEdition : Byte := 0x01

def kindTime : Byte := 0x02

def kindPalette : Byte := 0x10

def kindObject : Byte := 0x11

def kindPage : Byte := 0x12

def kindSlideList : Byte := 0x13

def kindCue : Byte := 0x14

def kindDelete : Byte := 0x1F

/-- One of the eight kinds of R167. -/
def isKind (k : Byte) : Bool :=
  k == kindEdition || k == kindTime || k == kindPalette || k == kindObject || k == kindPage ||
    k == kindSlideList || k == kindCue || k == kindDelete

/-- The minimum payload length that the receiver checks when it judges the header (R168, R189); for an
OBJECT that of a later part. -/
def kindMinimum (k : Byte) : Nat :=
  if k = kindPalette then 3
  else if k = kindObject then 4
  else if k = kindPage then 32
  else if k = kindSlideList then 3
  else 0

/-- The judgement of a header (R168): the code of the first check that fails. -/
def headerFault (lane : Owner) (kind : Byte) (len : Nat) : Option Byte :=
  if !isKind kind then some faultBadKind
  else if lane = .player ∧ (kind = kindEdition ∨ kind = kindTime) then some faultOwner
  else if kind = kindPage ∧ 4080 < len then some faultBadLength
  else if len < kindMinimum kind then some faultBadLength
  else none

/-- The number of ids of an item kind in the space of the lane's owner (R174); none for a byte that is
no item kind. -/
def deleteRange (lane : Owner) (item : Byte) : Option Nat :=
  if item = kindObject then some (objectIds lane)
  else if item = kindPalette then some 8
  else if item = kindPage then some 32
  else if item = kindSlideList then some 2
  else if item = kindCue then some 8
  else none

/-- The check of a DELETE payload (R174). -/
def deleteFault (lane : Owner) (p : List Byte) : Option Refused :=
  if p.length ≠ 3 then some (faultBadLength, p.length)
  else
    match deleteRange lane (byteAt p 0) with
    | none => some (faultBadField, 0)
    | some n => if n ≤ (halfAt p 1).toNat then some (faultBadField, 1) else none

end Sys2Proof.Machine
end

