-- ==== Sys2Proof/Machine/Directory.lean ====
section
/-! DEFINITION. What the Page Directory answers about a page (R36 to R38), and its page images (R37). -/

namespace Sys2Proof.Machine

open Sys2Proof

/-- A page directory entry (R36). -/
def pageEntry (r : PageRef) (s : State) : PageEntry := s.pages[pageIndex r]

/-- A page directory entry is written. -/
def setPageEntry (r : PageRef) (e : PageEntry) (s : State) : State :=
  s.setPages (s.pages.set (pageIndex r) e)

/-- The page is defined and of kind MENU (R38). -/
def isMenuPage (r : PageRef) (s : State) : Bool := (pageEntry r s).defined && (pageEntry r s).kind == .menu

/-- The page is defined and of kind SLIDE: an entry that names it is playable (R38, R115). -/
def isSlidePage (r : PageRef) (s : State) : Bool :=
  (pageEntry r s).defined && (pageEntry r s).kind == .slide

/-- The slot that holds the page's working copy, or none (R36, R45). -/
def residentSlot (r : PageRef) (s : State) : Option (Fin 6) := (pageEntry r s).slot

/-- The page is resident (R45). -/
def isResident (r : PageRef) (s : State) : Bool := (residentSlot r s).isSome

/-- A page slot (R43). -/
def slotAt (k : Fin 6) (s : State) : Slot := s.exch.slots[k]

/-- A page slot is written. -/
def setSlot (k : Fin 6) (v : Slot) (s : State) : State :=
  s.setExch { s.exch with slots := s.exch.slots.set k v }

/-- The READY slot in which the page is resident, or none (R45). -/
def readySlot (r : PageRef) (s : State) : Option (Fin 6) :=
  match residentSlot r s with
  | none => none
  | some k => if (slotAt k s).st = .ready then some k else none

/-- The first byte of a page's image (R1, R37). -/
def imageAddr (r : PageRef) : Nat := imageBase + 4096 * (pageIndex r).val

/-- The first byte of a page's save area: the last 16 bytes of its image (R37). -/
def saveAddr (r : PageRef) : Nat := imageAddr r + 4080

/-- The definition in the page image, as the Page Directory holds it (R37). -/
def pageDefinition (r : PageRef) (s : State) : PageDef :=
  parsePage (s.mem.readBytes (imageAddr r) (pageEntry r s).len)

/-- The slots in their order. -/
def allSlots : List (Fin 6) := [0, 1, 2, 3, 4, 5]

end Sys2Proof.Machine
end

