-- ==== Sys2Proof/Machine/Heap.lean ====
section
/-! DEFINITION. The object heap: first-fit allocation, release with coalescing, and the deferred-free list
(R2 to R7). -/

namespace Sys2Proof.Machine

open Sys2Proof

/-- The granules an object of this size needs (R2). -/
def granulesFor (width height : Nat) : Nat := (width * height + 255) / 256

/-- The first free extent that is large enough gives its lowest granules (R4). Answers the region and the
free extent list after it. -/
def allocate (n : Nat) : List Region → Option (Region × List Region)
  | [] => none
  | e :: es =>
    if e.count = n then some (e, es)
    else if n < e.count then some (⟨e.start, n⟩, ⟨e.start + n, e.count - n⟩ :: es)
    else (allocate n es).map (fun r => (r.1, e :: r.2))

/-- The upper neighbour is absorbed where it touches (R5). -/
def absorbUpper (e : Region) : List Region → List Region
  | [] => [e]
  | u :: us => if e.start + e.count = u.start then ⟨e.start, e.count + u.count⟩ :: us else e :: u :: us

/-- A region goes back to the free extent list in address order and coalesces with the extents around it
(R5). -/
def giveBack (r : Region) : List Region → List Region
  | [] => [r]
  | e :: es =>
    if e.start + e.count < r.start then e :: giveBack r es
    else if e.start + e.count = r.start then absorbUpper ⟨e.start, e.count + r.count⟩ es
    else absorbUpper r (e :: es)

/-- The sum of the counts in the free extent list, which the status record reports (R7). -/
def freeGranules (s : State) : Nat := (s.objs.free.map Region.count).sum

/-- A composition pass is in flight (R6, R144). -/
def passInFlight (s : State) : Bool := s.comp.pass == .drawing

/-- A region is released: deferred during a pass, free at once otherwise (R5, R6). -/
def releaseRegion (r : Region) (s : State) : State :=
  if passInFlight s then s.setObjs { s.objs with deferred := s.objs.deferred ++ [r] }
  else s.setObjs { s.objs with free := giveBack r s.objs.free }

/-- An optional region is released. -/
def releaseOpt (r : Option Region) (s : State) : State :=
  match r with
  | none => s
  | some x => releaseRegion x s

/-- The pass has ended: the deferred-free list returns to the free extent list (R6). -/
def returnDeferred (s : State) : State :=
  s.setObjs { s.objs with free := s.objs.deferred.foldl (fun f r => giveBack r f) s.objs.free,
                          deferred := [] }

/-- The address of a byte of a region (R1, R2). -/
def regionAddr (r : Region) (offset : Nat) : Addr := BitVec.ofNat 25 (heapBase + 256 * r.start + offset)

end Sys2Proof.Machine
end

