-- ==== Sys2Proof/Machine/Objects.lean ====
section
/-! DEFINITION. The Object Store: multi-part loading, the run-length decode, completion, abandonment and
deletion (R8 to R22). -/

namespace Sys2Proof.Machine

open Sys2Proof

/-- A directory entry (R8). -/
def objEntry (i : Fin 512) (s : State) : ObjEntry := s.objs.dir[i]

/-- A directory entry is written. -/
def setObjEntry (i : Fin 512) (e : ObjEntry) (s : State) : State :=
  s.setObjs { s.objs with dir := s.objs.dir.set i e }

/-- The owner of an entry: entries 0 to 383 are disc objects (section 1.3). -/
def entryOwner (i : Fin 512) : Owner := if i.val < 384 then .disc else .player

/-- The object id of an entry in its owner's space. -/
def entryId (i : Fin 512) : Nat := if i.val < 384 then i.val else i.val - 384

/-- The OBJECT_FAULT codes (R191). -/
def objFaultSequence : Half := 0

def objFaultNoSpace : Half := 1

def objFaultOverrun : Half := 2

def objFaultDamaged : Half := 3

/-- An OBJECT_FAULT notice (R15). -/
def objectFault (i : Fin 512) (code : Half) (detail : Nat) (s : State) : State :=
  post .objectFault (some (entryOwner i)) none (BitVec.ofNat 16 (entryId i)) code
    (BitVec.ofNat 32 detail) false s

/-! ## Run-length decode (R16, R17) -/

/-- The incoming image while it is decoded: the memory, the incoming record, and whether the data has
been found damaged. -/
structure Decoding where
  mem : Memory
  inc : Incoming
  damage : Bool
deriving DecidableEq, Repr

/-- One pixel index is written in order; a pixel beyond the row's width is dropped and the data is damaged
(R16, R17). -/
def putPixel (index : Byte) (d : Decoding) : Decoding :=
  if d.inc.col < d.inc.width then
    { d with
      mem := d.mem.write (regionAddr d.inc.region (d.inc.row * d.inc.width + d.inc.col)) index
      inc := { d.inc with col := d.inc.col + 1 } }
  else { d with damage := true }

/-- A run writes its index n times (R16). -/
def putRun (index : Byte) : Nat → Decoding → Decoding
  | 0, d => d
  | n + 1, d => putRun index n (putPixel index d)

/-- Index 0 is written from one offset of the region up to another (R17). An unlisted heap address reads
as 0, so this is Memory.restore. -/
def zeroFill (r : Region) (from_ upto : Nat) (m : Memory) : Memory :=
  let base := heapBase + 256 * r.start
  m.restore (fun a => decide (base + from_ ≤ a) && decide (a < base + upto))

/-- The row is complete: a short one is padded and the data is damaged (R16, R17). -/
def endRow (d : Decoding) : Decoding :=
  let row := d.inc.row * d.inc.width
  { mem := if d.inc.col < d.inc.width then
        zeroFill d.inc.region (row + d.inc.col) (row + d.inc.width) d.mem
      else d.mem
    inc := { d.inc with row := d.inc.row + 1, col := 0, token := .idle }
    damage := d.damage || decide (d.inc.col < d.inc.width) }

/-- One coded byte is decoded while bytes are still expected (R16); bytes after the last row are ignored
and damage the data (R17). -/
def decodeByte (b : Byte) (d : Decoding) : Decoding :=
  if d.inc.height ≤ d.inc.row then { d with damage := true }
  else
    match d.inc.token with
    | .idle =>
      if b = 0 then endRow d
      else if b.toNat < 0x80 then { d with inc := { d.inc with token := .literal b.toNat } }
      else { d with inc := { d.inc with token := .run b } }
    | .literal left =>
      let d' := putPixel b d
      { d' with inc := { d'.inc with token := if left ≤ 1 then .idle else .literal (left - 1) } }
    | .run lead =>
      let d' := putRun b (lead.toNat - 0x80 + 2) d
      { d' with inc := { d'.inc with token := .idle } }

/-- One data byte reaches the entry (R16): with no bytes still expected it is discarded and the damage flag
is set; otherwise it is counted and decoded. An entry without an incoming record takes nothing. -/
def feedByte (i : Fin 512) (b : Byte) (s : State) : State :=
  let e := objEntry i s
  match e.incoming with
  | none => s
  | some inc =>
    if e.expectBytes = 0 then setObjEntry i { e with damage := true } s
    else
      let d := decodeByte b ⟨s.mem, inc, e.damage⟩
      (setObjEntry i { e with incoming := some d.inc, damage := d.damage,
                              expectBytes := e.expectBytes - 1 } s).setMem d.mem

/-- Data bytes reach the entry in order. -/
def feedBytes (i : Fin 512) (bs : List Byte) (s : State) : State :=
  bs.foldl (fun t b => feedByte i b t) s

/-! ## Abandonment, completion (R12, R13) -/

/-- A decode in progress is abandoned (R13): the incoming region is released, the entry falls back. -/
def abandonDecode (i : Fin 512) (s : State) : State :=
  let e := objEntry i s
  match e.incoming with
  | none => s
  | some inc =>
    setObjEntry i { e with
        st := if e.st = .replacing then .ready else .empty
        incoming := none, expectSeq := 0, expectBytes := 0, damage := false }
      (releaseRegion inc.region s)

/-- The entry after completion (R12), its damage flag cleared. -/
def completedEntry (e : ObjEntry) (inc : Incoming) : ObjEntry :=
  { e with st := .ready, width := inc.width, height := inc.height, current := some inc.region,
           incoming := none, expectSeq := 0, expectBytes := 0, damage := false }

/-- The object is completed (R12): what is missing is padded, the incoming content becomes current, a
former region is released, and DAMAGED and OBJECT_READY are posted. -/
def completeObject (i : Fin 512) (s : State) : State :=
  let e := objEntry i s
  match e.incoming with
  | none => s
  | some inc =>
    let short := decide (inc.row < inc.height)
    let damaged := e.damage || e.expectBytes != 0 || short
    let mem := if short then
        zeroFill inc.region (inc.row * inc.width + inc.col) (inc.width * inc.height) s.mem
      else s.mem
    let s1 := releaseOpt e.current (setObjEntry i (completedEntry e inc) (s.setMem mem))
    let s2 := if damaged then objectFault i objFaultDamaged 0 s1 else s1
    let s3 := if entryOwner i = .player then
        post .objectReady (some .player) none (BitVec.ofNat 16 (entryId i))
          (BitVec.ofNat 16 inc.width) (BitVec.ofNat 32 inc.height) false s2
      else s2
    raiseRecompose s3

/-! ## An arriving part (R9 to R14) -/

/-- A FIRST part starts a new decode, or fails with NO_SPACE (R10, R11). Answers whether its data is to be
decoded. -/
def firstPart (i : Fin 512) (h : PartHead) (s : State) : State × Bool :=
  let e0 := objEntry i s
  let s1 := match e0.incoming with
    | none => s
    | some _ => objectFault i objFaultSequence e0.expectSeq.toNat (abandonDecode i s)
  let e1 := { objEntry i s1 with skipping := false }
  let n := granulesFor h.width h.height
  match allocate n s1.objs.free with
  | none =>
    (setObjEntry i { e1 with skipping := true } (setHeapFull (objectFault i objFaultNoSpace n s1)), false)
  | some (r, free) =>
    let e2 := { e1 with
      st := if e1.st = .ready then .replacing else .loading
      incoming := some ⟨r, h.width, h.height, 0, 0, .idle⟩
      expectBytes := h.total, damage := false, expectSeq := 1 }
    (setObjEntry i e2 (s1.setObjs { s1.objs with free := free }), true)

/-- A part without FIRST continues the decode or is a sequence fault (R12, R14). -/
def laterPart (i : Fin 512) (h : PartHead) (s : State) : State × Bool :=
  let e := objEntry i s
  match e.incoming with
  | some _ =>
    if h.seq = e.expectSeq then (setObjEntry i { e with expectSeq := e.expectSeq + 1 } s, true)
    else
      let s1 := abandonDecode i s
      (setObjEntry i { objEntry i s1 with skipping := true }
        (objectFault i objFaultSequence h.seq.toNat s1), false)
  | none =>
    if e.skipping then (s, false)
    else
      (setObjEntry i { e with skipping := true } (objectFault i objFaultSequence h.seq.toNat s), false)

/-- The fixed fields of a part reach the Object Store (R9): a bad field is refused with BAD_FIELD.
Answers the entry whose decode takes the part's data, or none when the data is discarded. -/
def beginPart (lane : Owner) (h : PartHead) (s : State) : State × Option (Fin 512) :=
  match partFault lane h with
  | some o => (segmentFault lane kindObject faultBadField h.id o s, none)
  | none =>
    match objectIndex lane h.id.toNat with
    | none => (s, none)
    | some i =>
      let r := if h.first then firstPart i h s else laterPart i h s
      (r.1, if r.2 then some i else none)

/-- A whole OBJECT part: the fixed fields, the data, and completion with LAST (R10, R12, R171). -/
def takePart (lane : Owner) (p : List Byte) (s : State) : State :=
  let h := parsePart p
  if h.first && decide (p.length < 12) then segmentFault lane kindObject faultBadLength 0 p.length s
  else
    match beginPart lane h s with
    | (s1, none) => s1
    | (s1, some i) =>
      let s2 := feedBytes i (p.drop (partFixed h.first)) s1
      if h.last then completeObject i s2 else s2

/-- An overrun cuts the part in flight short (R13): OBJECT_FAULT OVERRUN, and the skipping mark. -/
def overrunPart (i : Fin 512) (s : State) : State :=
  let e := objEntry i s
  match e.incoming with
  | none => s
  | some _ =>
    let s1 := objectFault i objFaultOverrun e.expectSeq.toNat (abandonDecode i s)
    setObjEntry i { objEntry i s1 with skipping := true } s1

/-! ## Deletion and erasure (R20, R21) -/

/-- The entry is drawn: READY or REPLACING (R18). -/
def isDrawn (e : ObjEntry) : Bool := e.st == .ready || e.st == .replacing

/-- DELETE of an object (R20): a decode is abandoned without a notice, the content is released, every field
takes its reset value. -/
def deleteObject (i : Fin 512) (s : State) : State :=
  let e := objEntry i s
  let s1 := releaseOpt e.current (releaseOpt (e.incoming.map Incoming.region) s)
  let s2 := setObjEntry i objEntryReset s1
  if isDrawn e then raiseRecompose s2 else s2

/-- The regions an entry holds, in the order a DELETE releases them (R20). -/
def entryRegions (e : ObjEntry) : List Region :=
  (e.incoming.map Incoming.region).toList ++ e.current.toList

/-- The index names an entry of the owner (section 1.3). -/
def ownsEntry (o : Owner) (i : Nat) : Bool :=
  match o with
  | .disc => decide (i < 384)
  | .player => decide (384 ≤ i)

/-- The entries of an owner (section 1.3). -/
def ownerEntries (o : Owner) (s : State) : List ObjEntry :=
  match o with
  | .disc => s.objs.dir.toList.take 384
  | .player => s.objs.dir.toList.drop 384

/-- An owner erase treats every entry of the owner as a DELETE would (R21): every region is released, every
field takes its reset value, and the recompose request is raised once if an entry was drawn. The regions are
released by rising entry index, an entry's incoming region before its current one, which is their order on the
deferred-free list during a pass (DESIGN CHOICE, assumption log 14). -/
def eraseObjects (o : Owner) (s : State) : State :=
  let es := ownerEntries o s
  let s1 := (es.flatMap entryRegions).foldl (fun t r => releaseRegion r t) s
  let s2 := s1.setObjs { s1.objs with dir := mapWhere (ownsEntry o) (fun _ => objEntryReset) s1.objs.dir }
  if es.any isDrawn then raiseRecompose s2 else s2

end Sys2Proof.Machine
end

