-- ==== Sys2Proof/Machine/Compose.lean ====
section
/-! DEFINITION. The Composer and the Display Port: levels, drawing order, pixel arithmetic, snapshots, passes
and scan-out (R143 to R163). -/

namespace Sys2Proof.Machine

open Sys2Proof

/-! ## Formats and planes (R1, R153) -/

/-- The active width and height of a plane format (R153). -/
def formatSize (f : PlaneFormat) : Nat × Nat :=
  match f with
  | .sd480 => (720, 480)
  | .sd576 => (720, 576)
  | .hd720 => (1280, 720)
  | .hd1080 => (1920, 1080)

/-- The format of a code (R188). -/
def format? (b : Byte) : Option PlaneFormat :=
  match b.toNat with
  | 0 => some .sd480
  | 1 => some .sd576
  | 2 => some .hd720
  | 3 => some .hd1080
  | _ => none

/-- The code of a format (R188). -/
def formatCode (f : PlaneFormat) : Byte :=
  match f with
  | .sd480 => 0
  | .sd576 => 1
  | .hd720 => 2
  | .hd1080 => 3

/-- The first byte of a plane (R1). -/
def planeBase (p : Plane) : Nat :=
  match p with
  | .a => 0
  | .b => planeBBase

/-- The plane that is not front is back (R144). -/
def otherPlane (p : Plane) : Plane :=
  match p with
  | .a => .b
  | .b => .a

/-- The address of the first byte of a pixel: rows of 1,920 pixels of 4 bytes (R1). -/
def pixelAddr (p : Plane) (x y : Nat) : Nat := planeBase p + 4 * (1920 * y + x)

/-- The colour of a pixel of a plane (R1). -/
def readPixel (m : Memory) (p : Plane) (x y : Nat) : Colour :=
  let a := pixelAddr p x y
  ⟨m.read (BitVec.ofNat 25 a), m.read (BitVec.ofNat 25 (a + 1)), m.read (BitVec.ofNat 25 (a + 2)),
    m.read (BitVec.ofNat 25 (a + 3))⟩

/-- A pixel of a plane is written (R1). -/
def writePixel (p : Plane) (x y : Nat) (c : Colour) (m : Memory) : Memory :=
  m.writeBytes (pixelAddr p x y) [c.y, c.cb, c.cr, c.a]

/-! ## Pixel arithmetic (R160, R161) -/

/-- The effective alpha of a palette entry's alpha at a level (R160). -/
def effectiveAlpha (alpha level : Nat) : Nat := (alpha * level + 64) / 128

/-- The weighted mean of two components, rounded to the nearest integer (R161). -/
def mix (a src dst : Nat) : Nat := (a * src + (255 - a) * dst + 127) / 255

/-- A contributed pixel blended over the plane pixel (R161). -/
def blend (a : Nat) (src dst : Colour) : Colour :=
  ⟨BitVec.ofNat 8 (mix a src.y.toNat dst.y.toNat), BitVec.ofNat 8 (mix a src.cb.toNat dst.cb.toNat),
    BitVec.ofNat 8 (mix a src.cr.toNat dst.cr.toNat), BitVec.ofNat 8 (mix a 255 dst.a.toNat)⟩

/-! ## Levels (R157 to R159) -/

/-- The difference of two field numbers modulo 2^32 (R143). -/
def fieldsSince (now start : Word) : Nat := (now - start).toNat

/-- The level of an ENTERING entry d fields after its start (R158). -/
def enteringLevel (fade d : Nat) : Nat := if fade = 0 then 128 else min 128 (128 * d / fade)

/-- The level of a LEAVING entry d fields after its start (R158); with fade-out 0, which a redefinition can give it,
it is due and draws nothing (R65). -/
def leavingLevel (fade d : Nat) : Nat := if fade = 0 then 0 else 128 - min 128 (128 * d / fade)

/-- The incoming and the outgoing level of a transition at progress k of n (R159); at its end, k = n, the outgoing
slide is drawn at none whatever the kind (R119). -/
def transitionLevels (kind : TransKind) (n k : Nat) : Nat × Nat :=
  match kind with
  | .crossfade => (128 * k / n, 128 - 128 * k / n)
  | .fadeThrough =>
    let h := n / 2
    if k ≤ h then (0, if h = 0 then 128 else 128 - 128 * k / h)
    else (128 * (k - h) / (n - h), 0)
  | .wipeLeft => (128, if n ≤ k then 0 else 128)
  | .cut => (128, 128)

/-- The columns of a transition's incoming slide that are drawn: those left of the boundary of a WIPE_LEFT,
all of them otherwise (R159). -/
def incomingColumns (kind : TransKind) (width n k : Nat) : Nat :=
  match kind with
  | .wipeLeft => width * k / n
  | _ => width

/-- The progress of a transition in the pass stamped `now` (R159). -/
def transProgress (t : TransRec) (now : Word) : Nat := min t.length (fieldsSince now t.start)

/-- The level of a drawn entry and the columns it may draw in (R158, R159). -/
def entryLevel (sn : Snapshot) (now : Word) (e : SnapEntry) : Nat × Nat :=
  let width := (formatSize sn.format).1
  match e.band with
  | .slide =>
    match sn.trans, e.role with
    | some t, .incoming =>
      let k := transProgress t now
      ((transitionLevels t.kind t.length k).1, incomingColumns t.kind width t.length k)
    | some t, .outgoing => ((transitionLevels t.kind t.length (transProgress t now)).2, width)
    | _, _ => (128, width)
  | _ =>
    let d := fieldsSince now (e.start.getD 0)
    match e.st with
    | .entering => (enteringLevel e.fadeIn d, width)
    | .shown => (128, width)
    | .leaving => (leavingLevel e.fadeOut d, width)

/-! ## What an entry draws (R154 to R156) -/

/-- One object drawn by a pass: where its pixels come from, which part of it, where it lands. -/
structure DrawItem where
  region : Region
  stride : Nat
  i0 : Nat
  j0 : Nat
  cols : Nat
  rows : Nat
  x : Nat
  y : Nat
  palette : Fin 16
  level : Nat
  columns : Nat
deriving DecidableEq, Repr

/-- The snapshot's region of an object id in an owner's space, or none (R155, R156). -/
def snapObject (sn : Snapshot) (o : Owner) (id : Nat) : Option SnapObject :=
  match objectIndex o id with
  | none => none
  | some i => sn.objects.find? (fun x => x.entry = i)

/-- The crop rectangle clamped to an object of width w and height h: origin and size (R156). -/
def clampCrop (c : Crop) (w h : Nat) : Nat × Nat × Nat × Nat :=
  let cx := min c.cx w
  let cy := min c.cy h
  (cx, cy, min c.cw (w - cx), min c.ch (h - cy))

/-- What a placement draws (R156). -/
def placementItem (sn : Snapshot) (e : SnapEntry) (lv : Nat × Nat) (p : Placement) : Option DrawItem :=
  (snapObject sn e.page.owner p.obj).map (fun ob =>
    let r := match p.crop with
      | none => (0, 0, ob.width, ob.height)
      | some c => clampCrop c ob.width ob.height
    ⟨ob.region, ob.width, r.1, r.2.1, r.2.2.1, r.2.2.2, p.x, p.y,
      paletteIndex e.page.owner e.palette, lv.1, lv.2⟩)

/-- The visual of a button for the state it holds in the snapshot (R155). -/
def shownVisual (b : SnapButton) : Option Visual :=
  match b.st with
  | .normal => b.visNormal
  | .selected => b.visSelected
  | .activated => b.visActivated
  | .disabled => b.visDisabled

/-- The frame of a visual that the pass stamped `now` shows (R155). -/
def visualFrame (v : Visual) (since now : Word) : Nat := fieldsSince now since / v.period % v.count

/-- What a button draws (R155). -/
def buttonItem (sn : Snapshot) (now : Word) (e : SnapEntry) (lv : Nat × Nat) (b : SnapButton) :
    Option DrawItem :=
  match shownVisual b with
  | none => none
  | some v =>
    (snapObject sn e.page.owner (v.first + visualFrame v b.since now)).map (fun ob =>
      ⟨ob.region, ob.width, 0, 0, ob.width, ob.height, b.x, b.y,
        paletteIndex e.page.owner e.palette, lv.1, lv.2⟩)

/-- What an entry draws: its placements in list order, then its buttons (R154). -/
def entryItems (sn : Snapshot) (now : Word) (e : SnapEntry) : List DrawItem :=
  let lv := entryLevel sn now e
  e.placements.filterMap (placementItem sn e lv) ++ e.buttons.filterMap (buttonItem sn now e lv)

/-- Everything a pass draws after the fill, in order (R154). -/
def passItems (sn : Snapshot) (now : Word) : List DrawItem := sn.entries.flatMap (entryItems sn now)

/-- One pixel (i, j) of the part an item draws, counted from the part's corner: looked up in the live palette
and blended, unless it lands outside the active area or the item's columns (R156, R159 to R162). -/
def drawPixel (pals : Vector Palette 16) (plane : Plane) (size : Nat × Nat) (it : DrawItem) (i j : Nat)
    (m : Memory) : Memory :=
  let x := it.x + i
  let y := it.y + j
  if x < size.1 ∧ y < size.2 ∧ x < it.columns then
    let index := m.read (regionAddr it.region ((it.j0 + j) * it.stride + (it.i0 + i)))
    let c := pals[it.palette].live[index.toNat]
    writePixel plane x y (blend (effectiveAlpha c.a.toNat it.level) c (readPixel m plane x y)) m
  else m

/-- The pixels of an item that the test picks are drawn. -/
def drawWhere (pick : Nat → Nat → Bool) (pals : Vector Palette 16) (plane : Plane) (size : Nat × Nat)
    (it : DrawItem) (m : Memory) : Memory :=
  (List.range it.rows).foldl (fun m1 j =>
    (List.range it.cols).foldl (fun m2 i =>
      if pick i j then drawPixel pals plane size it i j m2 else m2) m1) m

/-- The part of an object that was drawn before one of the palette changes listed (R162, log 6). -/
def drawnBefore (parts : List Nat) (i j : Nat) : Bool := parts.any (fun n => Config.pixelDrawn n i j)

/-- The items of a pass from the point its drawing has reached to its end: what is left of the item in
work, then the others whole (R154). -/
def drawRest (parts : List Nat) (pals : Vector Palette 16) (plane : Plane) (size : Nat × Nat)
    (items : List DrawItem) (m : Memory) : Memory :=
  match items with
  | [] => m
  | it :: rest =>
    rest.foldl (fun m1 x => drawWhere (fun _ _ => true) pals plane size x m1)
      (drawWhere (fun i j => !drawnBefore parts i j) pals plane size it m)

/-- The drawing of the pass in flight runs on to its end (R154). -/
def drawToEnd (s : State) : State :=
  match s.comp.snapshot with
  | none => s
  | some sn =>
    s.setMem (drawRest s.comp.progress.parts s.pals (otherPlane s.comp.front) (formatSize sn.format)
      ((passItems sn s.comp.stamp).drop s.comp.progress.whole) s.mem)

/-- Before a live palette changes under a pass in flight, the pass has drawn up to a point the manual does
not give (R162): some items whole, and some pixels of the next one (DESIGN CHOICE, assumption log 6). -/
def drawAhead (s : State) : State :=
  match s.comp.snapshot with
  | none => s
  | some sn =>
    let plane := otherPlane s.comp.front
    let size := formatSize sn.format
    let items := passItems sn s.comp.stamp
    let k := s.comp.progress.whole
    let t := min items.length (max k (Config.objectsDrawn s.fresh))
    let parts := if t = k then s.comp.progress.parts else []
    let m1 := if t = k then s.mem else
      drawRest s.comp.progress.parts s.pals plane size ((items.take t).drop k) s.mem
    let m2 := match items[t]? with
      | none => m1
      | some it =>
        drawWhere (fun i j => Config.pixelDrawn s.fresh i j && !drawnBefore parts i j) s.pals plane size
          it m1
    ((s.setMem m2).setComp { s.comp with progress := ⟨t, parts ++ [s.fresh]⟩ }).setFresh (s.fresh + 1)

/-- Before a live palette changes: the pass in flight keeps what it has drawn (R162). -/
def beforeLiveChange (s : State) : State := if passInFlight s then drawAhead s else s

/-! ## Snapshot (R146, R150) -/

/-- A button with its live state, as the snapshot holds it (R150). -/
def snapButton (b : Button) (l : ButtonLive) : SnapButton :=
  ⟨b.x, b.y, b.visNormal, b.visSelected, b.visActivated, b.visDisabled, l.st, l.since⟩

/-- A stack entry as the snapshot holds it, when it is drawn: its slot is READY, and it is a slide entry, SHOWN,
LEAVING, or ENTERING with its start field set (R150). -/
def snapEntry (s : State) (e : Entry) : Option SnapEntry :=
  if e.band ≠ .slide ∧ e.st = .entering ∧ e.start = none then none
  else
    match readySlot e.page s with
    | none => none
    | some k =>
      match (slotAt k s).defn with
      | none => none
      | some d =>
        some ⟨e.page, e.band, e.st, e.start, e.role, d.palette, d.fadeIn, d.fadeOut, d.placements,
          List.zipWith snapButton d.buttons (slotAt k s).buttons⟩

/-- The regions of the drawn objects (R18, R150). -/
def snapObjects (s : State) : List SnapObject :=
  (List.finRange 512).filterMap (fun i =>
    let e := objEntry i s
    if isDrawn e then e.current.map (fun r => ⟨i, r, e.width, e.height⟩) else none)

/-- The snapshot taken at pass start (R150). -/
def takeSnapshot (f : PlaneFormat) (s : State) : Snapshot :=
  ⟨f, s.stack.entries.filterMap (snapEntry s), s.seqr.trans, snapObjects s⟩

/-- A drawn button is animated: the visual for its present state is present with a frame count of 2 to 16
(R146). -/
def buttonAnimates (b : SnapButton) : Bool :=
  match shownVisual b with
  | none => false
  | some v => 2 ≤ v.count

/-- A drawn entry changes from field to field (R146). -/
def entryAnimates (e : SnapEntry) : Bool :=
  (e.band != .slide && (e.st == .entering || e.st == .leaving)) || e.buttons.any buttonAnimates

/-- The snapshot holds something that changes from field to field (R146). -/
def snapshotAnimates (sn : Snapshot) : Bool := sn.trans.isSome || sn.entries.any entryAnimates

/-! ## Passes (R147 to R153) -/

/-- Every palette whose changed flag is set is latched (R25). -/
def latchPalettes (s : State) : State :=
  s.setPals (mapWhere (fun _ => true)
    (fun p => if p.changed then { p with live := p.pending, changed := false } else p) s.pals)

/-- The active area of a plane is filled with transparent black (R154). -/
def fillActive (p : Plane) (size : Nat × Nat) (m : Memory) : Memory :=
  m.restore (fun a => decide (planeBase p ≤ a) && decide (a < planeBase p + 8294400) &&
    decide ((a - planeBase p) / 4 % 1920 < size.1) && decide ((a - planeBase p) / 4 / 1920 < size.2))

/-- A pass starts at the present field start (R149): palettes, request, snapshot, heap, drawing. -/
def startPass (f : PlaneFormat) (s : State) : State :=
  let s1 := latchPalettes s
  let sn := takeSnapshot f s1
  (s1.setMem (fillActive (otherPlane s1.comp.front) (formatSize f) s1.mem)).setComp
    { s1.comp with pass := .drawing, stamp := s1.disp.counter, snapshot := some sn, recompose := false,
                   animation := snapshotAnimates sn, progress := ⟨0, []⟩ }

/-- A new pass starts if the part is configured, no clearing is in progress and something has changed or
animates (R147, R153). -/
def startPassIfNeeded (s : State) : State :=
  match s.comp.format with
  | none => s
  | some f =>
    if s.link.configured && !s.comp.clearing && (s.comp.recompose || s.comp.animation) then startPass f s
    else s

/-- The planes exchange their roles and the pass state becomes IDLE (R147). -/
def swapPlanes (s : State) : State :=
  s.setComp { s.comp with front := otherPlane s.comp.front, pass := .idle }

/-- What the Composer does at a field start (R147, R148). -/
def composerField (s : State) : State :=
  match s.comp.pass with
  | .done => startPassIfNeeded (swapPlanes s)
  | .idle => startPassIfNeeded s
  | .drawing => setLate s

/-- Pass complete (R151): the plane is drawn, the snapshot is discarded, the deferred-free list returns. -/
def completePass (s : State) : State :=
  if passInFlight s then
    let s1 := drawToEnd s
    returnDeferred (s1.setComp { s1.comp with pass := .done, snapshot := none, progress := ⟨0, []⟩ })
  else s

/-- What SETUP does to the Composer (R153): the pass is abandoned, both planes are cleared, the format is taken,
and the clearing is in progress. (DESIGN CHOICE, assumption log 21.) -/
def composerSetup (f : PlaneFormat) (s : State) : State :=
  let s1 := if passInFlight s then returnDeferred s else s
  (s1.setMem (s1.mem.restore (fun a => decide (a < imageBase)))).setComp
    { s1.comp with pass := .idle, snapshot := none, animation := false, recompose := true,
                   format := some f, clearing := true, progress := ⟨0, []⟩ }

/-! ## Scan-out (R163) -/

/-- The decision the Display Port takes for a field at its start (R163). -/
def decideScan (s : State) : State :=
  s.setDisp { s.disp with scanning := s.link.configured && !s.comp.clearing && s.disp.output }

/-- The rest of the field is driven as transparent black from now on (R163). -/
def stopScan (s : State) : State := s.setDisp { s.disp with scanning := false }

/-- The pixel that the Display Port drives at (x, y) (R163). (DESIGN CHOICE, assumption log 23.) -/
def scanPixel (s : State) (x y : Nat) : Colour :=
  match s.comp.format with
  | none => transparentBlack
  | some f =>
    if s.disp.scanning ∧ x < (formatSize f).1 ∧ y < (formatSize f).2 then readPixel s.mem s.comp.front x y
    else transparentBlack

end Sys2Proof.Machine
end

