-- ==== Sys2Proof/Machine/Buttons.lean ====
section
/-! DEFINITION. The button state of a slot's working copy: the default rule, the change of selection, the enabling
and disabling of a button, the neighbour walk, the cancelling of an activation (R46, R87 to R92, R97,
R101, R103). -/

namespace Sys2Proof.Machine

open Sys2Proof

/-! ## Reading a working copy -/

/-- The list index of the button with an id (R29). -/
def buttonIndexOf (d : PageDef) (id : Byte) : Option Nat := d.buttons.findIdx? (fun b => b.id == id)

/-- The button at a list index is enabled: in any state but DISABLED (R87). -/
def enabledAt (sl : Slot) (i : Nat) : Bool :=
  match sl.buttons[i]? with
  | some b => b.st != .disabled
  | none => false

/-- The list index of the button with an id on the slot's page. -/
def slotButton (sl : Slot) (id : Byte) : Option Nat :=
  match sl.defn with
  | none => none
  | some d => buttonIndexOf d id

/-- The id of the button at a list index of the slot's page. -/
def slotButtonId (sl : Slot) (i : Nat) : Option Byte :=
  match sl.defn with
  | none => none
  | some d => (d.buttons[i]?).map Button.id

/-- The list index of the selection (R43). -/
def selectionIndex (sl : Slot) : Option Nat :=
  match sl.selection with
  | none => none
  | some id => slotButton sl id

/-- The list index of the ACTIVATED button; a hold is running while there is one (R93). -/
def activatedIndex (sl : Slot) : Option Nat := sl.buttons.findIdx? (fun b => b.st == .activated)

/-- An activation hold is running in the slot (R84, R93). -/
def holdRunning (sl : Slot) : Bool := (activatedIndex sl).isSome

/-- The choice of the default rule among a page's buttons (R88): the default button, the first enabled
button in list order, or none. -/
def defaultChoice (d : PageDef) (buttons : List ButtonLive) : Option Nat :=
  let enabled (i : Nat) : Bool :=
    match buttons[i]? with
    | some b => b.st != .disabled
    | none => false
  match d.defaultButton.bind (buttonIndexOf d) with
  | some i => if enabled i then some i else (List.range d.buttons.length).find? enabled
  | none => (List.range d.buttons.length).find? enabled

/-! ## Writing a working copy -/

/-- The button at a list index takes a state, with the field counter as its entry field (R87). -/
def putButton (i : Nat) (st : ButtonState) (now : Word) (sl : Slot) : Slot :=
  { sl with buttons := sl.buttons.set i ⟨st, now⟩ }

/-- The slot turns dirty, and its page's saved flag is cleared (R46). -/
def markDirty (k : Fin 6) (s : State) : State :=
  let sl := slotAt k s
  let s1 := setSlot k { sl with dirty := true } s
  match sl.page with
  | none => s1
  | some r => setPageEntry r { pageEntry r s1 with saved := false } s1

/-- A change of selection or of an enable state has been made in the slot: it is written, the slot turns dirty,
the recompose request is raised (R46, R87). -/
def commitButtons (k : Fin 6) (sl : Slot) (s : State) : State :=
  raiseRecompose (markDirty k (setSlot k sl s))

/-- The working copy after button c has become the selection in place of s (R89). -/
def selectIn (now : Word) (c : Nat) (sl : Slot) : Slot :=
  let sl1 := match selectionIndex sl with
    | none => sl
    | some i => putButton i .normal now { sl with hold := if holdRunning sl then 0 else sl.hold }
  { putButton c .selected now sl1 with selection := slotButtonId sl c }

/-- Button c becomes the selection of the slot's page (R89). -/
def becomeSelection (k : Fin 6) (c : Nat) (s : State) : State :=
  let sl := slotAt k s
  if selectionIndex sl = some c then s else commitButtons k (selectIn (fieldNow s) c sl) s

/-- The default rule chooses the selection (R88). -/
def applyDefault (k : Fin 6) (s : State) : State :=
  let sl := slotAt k s
  match sl.defn with
  | none => s
  | some d =>
    match defaultChoice d sl.buttons with
    | some c => becomeSelection k c s
    | none => if sl.selection = none then s else commitButtons k { sl with selection := none } s

/-- A button id is selected on the slot's page, or the default rule is used where the page does not hold it or it is
DISABLED (R101). -/
def selectButton (k : Fin 6) (id : Byte) (s : State) : State :=
  match slotButton (slotAt k s) id with
  | some c => if enabledAt (slotAt k s) c then becomeSelection k c s else applyDefault k s
  | none => applyDefault k s

/-- A return selection is made: the button becomes the selection if the page holds it and it is enabled
(R105). -/
def selectIfEnabled (k : Fin 6) (id : Byte) (s : State) : State :=
  match slotButton (slotAt k s) id with
  | some c => if enabledAt (slotAt k s) c then becomeSelection k c s else s
  | none => s

/-- The button at a list index is enabled: NORMAL, or SELECTED while the page has no selection
(R103). -/
def enableButton (k : Fin 6) (i : Nat) (s : State) : State :=
  let sl := slotAt k s
  if enabledAt sl i then s
  else
    match sl.selection with
    | none =>
      commitButtons k { putButton i .selected (fieldNow s) sl with selection := slotButtonId sl i } s
    | some _ => commitButtons k (putButton i .normal (fieldNow s) sl) s

/-- The button at a list index is disabled; where it was SELECTED or ACTIVATED its activation is cancelled and the
default rule chooses the selection (R103). -/
def disableButton (k : Fin 6) (i : Nat) (s : State) : State :=
  let sl := slotAt k s
  if !enabledAt sl i then s
  else if selectionIndex sl = some i then
    let sl1 := putButton i .disabled (fieldNow s)
      { sl with selection := none, hold := if holdRunning sl then 0 else sl.hold }
    applyDefault k (commitButtons k sl1 s)
  else commitButtons k (putButton i .disabled (fieldNow s) sl) s

/-- The enable state that SET_BUTTON asks for (R103). -/
def changeEnable (k : Fin 6) (i : Nat) (enable : Bool) (s : State) : State :=
  if enable then enableButton k i s else disableButton k i s

/-- An activation that runs in the slot is cancelled (R97): the hold counter is 0, the button returns to
SELECTED, no outcome runs. -/
def cancelActivation (k : Fin 6) (s : State) : State :=
  let sl := slotAt k s
  match activatedIndex sl with
  | none => s
  | some i => raiseRecompose (setSlot k { putButton i .selected (fieldNow s) sl with hold := 0 } s)

/-- A button turns ACTIVATED and the hold counter is loaded (R93 steps 1 and 2). -/
def activateButton (k : Fin 6) (i : Nat) (s : State) : State :=
  let sl := slotAt k s
  match sl.defn with
  | none => s
  | some d =>
    raiseRecompose (setSlot k { putButton i .activated (fieldNow s) sl with hold := d.hold } s)

/-! ## The neighbour walk (R90, R91) -/

/-- The link of a button in a direction (R30). -/
def linkOf (dir : Direction) (b : Button) : NavLink :=
  match dir with
  | .up => b.up
  | .down => b.down
  | .left => b.left
  | .right => b.right

/-- The candidate that the link of the button at an index leads to (R90 steps 1 and 2). -/
def linkTarget (d : PageDef) (dir : Direction) (cur : Nat) : Option Nat :=
  match d.buttons[cur]? with
  | none => none
  | some b =>
    match linkOf dir b with
    | .absent => none
    | .abs id => buttonIndexOf d id
    | .rel off => some (((cur : Int) + off) % (d.buttons.length : Int)).toNat

/-- The walk from the selection s: where the selection moves, or none; it looks at as many candidates as its first
number allows (R90, R91). -/
def walkFrom (d : PageDef) (sl : Slot) (dir : Direction) (s : Nat) : Nat → Nat → Option Nat
  | 0, _ => none
  | n + 1, cur =>
    match linkTarget d dir cur with
    | none => none
    | some c => if c = s then none else if enabledAt sl c then some c else walkFrom d sl dir s n c

/-- The walk of a directional key: at most 8 candidates (R91). -/
def neighbourWalk (d : PageDef) (sl : Slot) (dir : Direction) (s : Nat) : Option Nat :=
  walkFrom d sl dir s 8 s

end Sys2Proof.Machine
end

