-- ==== Sys2Proof/Machine/Exchange.lean ====
section
/-! DEFINITION. The Page Exchange: pins, the queue, the controller request, the choice of a slot, the save record
and the load of a working copy (R45 to R57). -/

namespace Sys2Proof.Machine

open Sys2Proof

/-! ## Pins and the choice of a slot (R47, R53) -/

/-- The page has an entry on the page stack. -/
def hasEntry (r : PageRef) (s : State) : Bool := s.stack.entries.any (fun e => e.page == r)

/-- The slot is pinned (R47). -/
def pinned (k : Fin 6) (s : State) : Bool :=
  (match (slotAt k s).page with
    | none => false
    | some r => residentSlot r s == some k && hasEntry r s) ||
  (match s.exch.current with
    | none => false
    | some t => t.slot == k && hasEntry t.page s)

/-- The slots in cyclic order from the one after the cursor (R53). -/
def cyclicSlots (cursor : Fin 6) : List (Fin 6) :=
  (List.range 6).map (fun i => Fin.ofNat 6 (cursor.val + 1 + i))

/-- Pass 1 of the choice: the slot is EMPTY (R53). -/
def emptyTest (s : State) (k : Fin 6) : Bool := (slotAt k s).st == .empty

/-- Pass 3 of the choice: the slot is READY and not pinned (R53). -/
def victimTest (s : State) (k : Fin 6) : Bool := (slotAt k s).st == .ready && !pinned k s

/-- Pass 2 of the choice: the slot is READY, not pinned and clean (R53). -/
def cleanTest (s : State) (k : Fin 6) : Bool := victimTest s k && !(slotAt k s).dirty

/-- The target slot: the first slot in cyclic order that meets the first test that any slot meets
(R53). -/
def chooseSlot (s : State) : Option (Fin 6) :=
  let order := cyclicSlots s.exch.cursor
  ((order.find? (emptyTest s)).or (order.find? (cleanTest s))).or (order.find? (victimTest s))

/-! ## Taking up work (R52, R54) -/

/-- A slot that loads the incoming page of an exchange (R54, R55). Its other fields have their reset values, also where
a clean victim has been dropped, for which no rule says what they hold until load done (DESIGN CHOICE, assumption log
39). -/
def loadingSlot (r : PageRef) : Slot := { slotReset with st := .loading, page := some r }

/-- The slot is left in stage LOAD for the incoming page (R54, R55). -/
def startLoad (t : Transfer) (s : State) : State :=
  let s1 := setSlot t.slot (loadingSlot t.page) s
  s1.setExch { s1.exch with current := some { t with stage := .load } }

/-- The page of a slot stops being resident (R45, R54). -/
def dropResidency (k : Fin 6) (s : State) : State :=
  match (slotAt k s).page with
  | none => s
  | some r => setPageEntry r { pageEntry r s with slot := none } s

/-- The exchange of a page into the chosen slot starts (R52, R53, R54). -/
def startExchange (r : PageRef) (k : Fin 6) (s : State) : State :=
  let s1 := s.setExch { s.exch with cursor := k }
  let sl := slotAt k s1
  if sl.st = .empty then startLoad ⟨r, k, .load, false⟩ s1
  else
    let s2 := dropResidency k s1
    if sl.dirty then
      let s3 := setSlot k { sl with st := .saving } s2
      s3.setExch { s3.exch with current := some ⟨r, k, .save, false⟩ }
    else startLoad ⟨r, k, .load, false⟩ s2

/-- The controller request is taken when the queue is empty and its page is not resident (R51, R52). -/
def takeControllerRequest (s : State) : State :=
  match s.exch.ctrlReq with
  | none => s
  | some r =>
    if isResident r s then s
    else
      match chooseSlot s with
      | none => s
      | some k => startExchange r k s

/-- The requests are taken from the head: a resident page is served at once, and the first other one starts its
exchange if a slot qualifies (R52). -/
def takeRequests : List Request → State → State
  | [], s => takeControllerRequest s
  | q :: qs, s =>
    if isResident q.page s then takeRequests qs (s.setExch { s.exch with queue := qs })
    else
      match chooseSlot s with
      | none => s
      | some k => startExchange q.page k (s.setExch { s.exch with queue := qs })

/-- The exchange takes up work when none is in progress (R52). -/
def takeUp (s : State) : State :=
  match s.exch.current with
  | some _ => s
  | none => takeRequests s.exch.queue s

/-! ## Requests (R48 to R51) -/

/-- A requester kind (R48). -/
inductive Requester where
  | stack
  | sequencer
deriving DecidableEq, Repr

/-- The requester joins a request's set (R48). -/
def addRequester (w : Requester) (q : Request) : Request :=
  match w with
  | .stack => { q with byStack := true }
  | .sequencer => { q with bySequencer := true }

/-- The requester leaves a request's set (R50). -/
def dropRequester (w : Requester) (q : Request) : Request :=
  match w with
  | .stack => { q with byStack := false }
  | .sequencer => { q with bySequencer := false }

/-- The page is the incoming page of the exchange in progress. -/
def isIncoming (r : PageRef) (s : State) : Bool :=
  match s.exch.current with
  | none => false
  | some t => t.page == r

/-- A request for a page is made (R49). (DEDUCED, assumption log 20.) -/
def requestPage (w : Requester) (r : PageRef) (s : State) : State :=
  if isResident r s then s
  else if s.exch.queue.any (fun q => q.page == r) then
    s.setExch { s.exch with
      queue := s.exch.queue.map (fun q => if q.page = r then addRequester w q else q) }
  else if isIncoming r s then s
  else takeUp (s.setExch { s.exch with queue := s.exch.queue ++ [addRequester w ⟨r, false, false⟩] })

/-- A requester is withdrawn; a request without requesters leaves the queue (R50). -/
def withdrawRequest (w : Requester) (r : PageRef) (s : State) : State :=
  s.setExch { s.exch with
    queue := (s.exch.queue.map (fun q => if q.page = r then dropRequester w q else q)).filter
      (fun q => q.byStack || q.bySequencer) }

/-- The held changes for the page of the controller request are discarded (R104). -/
def dropHeld (s : State) : State := s.setNav { s.nav with heldEnables := [], heldSelect := none }

/-- The controller request becomes none without its changes being made, if the test names its page (R51,
R104). -/
def dropControllerRequest (test : PageRef → Bool) (s : State) : State :=
  match s.exch.ctrlReq with
  | none => s
  | some r => if test r then dropHeld (s.setExch { s.exch with ctrlReq := none }) else s

/-! ## The save record (R54) -/

/-- A list of bits as bytes, the first bit lowest (DESIGN CHOICE, assumption log 7). -/
def packByte (bits : List Bool) (i : Nat) : Byte :=
  BitVec.ofNat 8 (((List.range 8).map (fun j => if bits.getD (8 * i + j) false then 2 ^ j else 0)).sum)

/-- The bytes that hold a list of bits. -/
def packBits (bits : List Bool) : List Byte :=
  (List.range ((bits.length + 7) / 8)).map (packByte bits)

/-- Bit number n of a list of bytes, in the order of packBits. -/
def bitOf (bytes : List Byte) (n : Nat) : Bool := (byteAt bytes (n / 8)).getLsbD (n % 8)

/-- The enable state of a button at its load, before any record (R54): enabled unless
INITIALLY_DISABLED. -/
def initiallyEnabled (b : Button) : Bool := !b.initDisabled

/-- For each list index 0 to 23, whether the button's enable state differs from its initial state
(R54). -/
def presenceMask (d : PageDef) (sl : Slot) : List Bool :=
  (List.range 24).map (fun i =>
    match d.buttons[i]? with
    | none => false
    | some b => enabledAt sl i != initiallyEnabled b)

/-- The states of the marked buttons in list order: set for NORMAL (R54). -/
def markedStates (d : PageDef) (sl : Slot) : List Bool :=
  ((List.range 24).filter (fun i => (presenceMask d sl).getD i false)).map (enabledAt sl)

/-- The save record: selection, presence mask, states (R54, DESIGN CHOICE, assumption log 7). -/
def saveRecord (sl : Slot) : List Byte :=
  match sl.defn with
  | none => [0xFF, 0, 0, 0]
  | some d => [sl.selection.getD 0xFF] ++ packBits (presenceMask d sl) ++ packBits (markedStates d sl)

/-! ## The load of a working copy (R56) -/

/-- The number of marks below a list index. -/
def marksBelow (record : List Byte) (i : Nat) : Nat :=
  ((List.range i).filter (fun j => bitOf (record.drop 1) j)).length

/-- The enable state that a save record gives the button at a list index, or none where it is not marked
(R54, R56). -/
def recordedEnable (record : List Byte) (i : Nat) : Option Bool :=
  if bitOf (record.drop 1) i then some (bitOf (record.drop 4) (marksBelow record i)) else none

/-- A button's state at load: its initial state, or the one the record gives it (R56). -/
def loadedButton (record : Option (List Byte)) (now : Word) (i : Nat) (b : Button) : ButtonLive :=
  let enabled := ((record.bind (fun p => recordedEnable p i)).getD (initiallyEnabled b))
  ⟨if enabled then .normal else .disabled, now⟩

/-- The list index of the selection at load: the record's if that button is enabled, or the default rule's
(R56). -/
def loadedSelection (d : PageDef) (record : Option (List Byte)) (bs : List ButtonLive) : Option Nat :=
  let named := (record.bind (fun p => optByte (byteAt p 0))).bind (buttonIndexOf d)
  match named with
  | none => defaultChoice d bs
  | some i =>
    match bs[i]? with
    | none => defaultChoice d bs
    | some b => if b.st = .disabled then defaultChoice d bs else some i

/-- The working copy at load done (R56, R57): READY and clean. (DESIGN CHOICE, assumption log 8.) -/
def loadedSlot (r : PageRef) (d : PageDef) (record : Option (List Byte)) (now : Word) : Slot :=
  let bs := d.buttons.mapIdx (loadedButton record now)
  let sel := loadedSelection d record bs
  { st := .ready
    page := some r
    dirty := false
    defn := some d
    buttons := match sel with
      | none => bs
      | some i => bs.set i ⟨.selected, now⟩
    selection := sel.bind (fun i => (d.buttons[i]?).map Button.id)
    hold := 0
    timer := d.timeout
    latch := d.timeout
    mark := false }

/-- The save record of a page, if its saved flag is set (R37, R56). -/
def pageRecord (r : PageRef) (s : State) : Option (List Byte) :=
  if (pageEntry r s).saved then some (s.mem.readBytes (saveAddr r) 16) else none

/-! ## Save done (R55) -/

/-- The save of the victim has ended: the slot is EMPTY, and the exchange goes to stage LOAD, or ends if it is
cancelled (R55, R59, R60). The work that may follow is taken up by the caller (R52). -/
def leaveSave (t : Transfer) (s : State) : State :=
  let s1 := setSlot t.slot slotReset s
  if t.cancelled then s1.setExch { s1.exch with current := none } else startLoad t s1

/-- Save done (R55): the record is in the save area, the victim's saved flag is set. (DESIGN CHOICE, assumption
log 35.) -/
def completeSave (s : State) : State :=
  match s.exch.current with
  | none => s
  | some t =>
    if t.stage = .save then
      let sl := slotAt t.slot s
      match sl.page with
      | none => takeUp (leaveSave t s)
      | some v =>
        let s1 := s.setMem (s.mem.writeBytes (saveAddr v) (saveRecord sl))
        takeUp (leaveSave t (setPageEntry v { pageEntry v s1 with saved := true } s1))
    else s

/-! ## Changes that reach a transfer in flight (R59 to R61) -/

/-- The page that is being saved, if the test names it: the save is abandoned (R59, R60, R61). -/
def abandonSave (test : PageRef → Bool) (s : State) : State :=
  match s.exch.current with
  | none => s
  | some t =>
    if t.stage = .save ∧ ((slotAt t.slot s).page.any test) = true then leaveSave t s else s

/-- The redefinition of a page reaches the exchange (R59): a save of it is abandoned, its controller request is
cleared, its READY slot reloads in place. (DEDUCED, assumption log 31.) -/
def exchangeRedefined (r : PageRef) (s : State) : State :=
  let s1 := takeUp (dropControllerRequest (fun x => x == r) (abandonSave (fun x => x == r) s))
  match readySlot r s1 with
  | none => s1
  | some k =>
    let s2 := cancelActivation k s1
    setSlot k { slotAt k s2 with st := .loading } s2

/-- A slot that holds a page as resident, if the test names the page, takes its reset values (R60,
R61). -/
def emptyResident (test : PageRef → Bool) (s : State) (k : Fin 6) : State :=
  match (slotAt k s).page with
  | none => s
  | some r =>
    if test r ∧ residentSlot r s = some k then
      setSlot k slotReset (setPageEntry r { pageEntry r s with slot := none } s)
    else s

/-- The incoming page has gone: in stage LOAD the load is abandoned, in stage SAVE the cancelled mark is set
(R60, R61). -/
def cancelIncoming (test : PageRef → Bool) (s : State) : State :=
  match s.exch.current with
  | none => s
  | some t =>
    if test t.page then
      match t.stage with
      | .save => s.setExch { s.exch with current := some { t with cancelled := true } }
      | .load =>
        let s1 := setSlot t.slot slotReset s
        s1.setExch { s1.exch with current := none }
    else s

/-- Queued requests whose page the test names are removed (R50). -/
def dropRequests (test : PageRef → Bool) (s : State) : State :=
  s.setExch { s.exch with queue := s.exch.queue.filter (fun q => !test q.page) }

/-- The pages that the test names are gone from the exchange: requests, controller request, incoming page,
victim, resident slots (R60, R61). The exchange then has its next work to take up. -/
def exchangeDrop (test : PageRef → Bool) (s : State) : State :=
  let s1 := cancelIncoming test (dropControllerRequest test (dropRequests test s))
  allSlots.foldl (emptyResident test) (abandonSave test s1)

end Sys2Proof.Machine
end

