-- ==== Sys2Proof/Machine/Stack.lean ====
section
/-! DEFINITION. The Page Stack: entries and bands, the hand-on of a change, capacity, showing and hiding, GOTO,
CALL and RETURN, the slide band, the focus (R62 to R82). -/

namespace Sys2Proof.Machine

open Sys2Proof

/-! ## The list of entries (R62, R63) -/

/-- The place of a band from the bottom up (R63). -/
def bandRank (b : Band) : Nat :=
  match b with
  | .slide => 0
  | .disc => 1
  | .player => 2

/-- The menu band of an owner (R62). -/
def menuBand (o : Owner) : Band :=
  match o with
  | .disc => .disc
  | .player => .player

/-- The entry of a page, or none. -/
def entryOf (r : PageRef) (s : State) : Option Entry := s.stack.entries.find? (fun e => e.page == r)

/-- The position of a page's entry, counted from 0 at the bottom (R66). -/
def positionOf (r : PageRef) (s : State) : Option Nat := s.stack.entries.findIdx? (fun e => e.page == r)

/-- The list of entries is written. -/
def setEntries (es : List Entry) (s : State) : State := s.setStack { s.stack with entries := es }

/-- The position of a new entry at the top of its band (R63). -/
def topOfBand (b : Band) (s : State) : Nat :=
  (s.stack.entries.filter (fun e => decide (bandRank e.band ≤ bandRank b))).length

/-- The pages at or below a page's position, which keep the place of a new entry above it (R63). -/
def pagesUpTo (r : PageRef) (s : State) : List PageRef :=
  match positionOf r s with
  | none => []
  | some i => (s.stack.entries.take (i + 1)).map Entry.page

/-- The position above what remains of the pages given (R63, DEDUCED, assumption log 24). -/
def positionAbove (pages : List PageRef) (s : State) : Nat :=
  (s.stack.entries.filter (fun e => pages.contains e.page)).length

/-- The entry is LEAVING. -/
def isLeaving (e : Entry) : Bool := e.st == .leaving

/-- The focus: the topmost entry whose page is of kind MENU and whose state is not LEAVING (R80). -/
def focusEntry (s : State) : Option Entry :=
  (s.stack.entries.filter (fun e => e.band != .slide && !isLeaving e)).getLast?

/-! ## Notices (R66, R75, R78) -/

/-- The PAGE_SHOWN codes (R191). -/
def shownFadeIn : Half := 0

def shownRestored : Half := 1

def shownSlide : Half := 2

/-- The PAGE_HIDDEN codes (R191). -/
def hiddenFaded : Half := 0

def hiddenCut : Half := 1

def hiddenUnseen : Half := 2

def hiddenRemoved : Half := 3

def hiddenSlide : Half := 4

/-- A notice about a page at a stack position (R66). -/
def pageNotice (kind : NoticeKind) (r : PageRef) (pos : Nat) (code : Half) (s : State) : State :=
  post kind (some r.owner) (some r.id) (BitVec.ofNat 16 pos) code 0 false s

/-- The index field of a notice that names a button or none (R191). -/
def buttonField (b : Option Byte) : Half :=
  match b with
  | none => noIndex
  | some id => id.setWidth 16

/-! ## The hand-on of a change (R67) -/

/-- The slot is READY and its page is the SHOWN focus: an activation in it goes on (R93, R97). -/
def holdsFocus (k : Fin 6) (s : State) : Bool :=
  (slotAt k s).st == .ready &&
    match focusEntry s with
    | none => false
    | some e => e.st == .shown && (slotAt k s).page == some e.page

/-- A running activation in a slot is cancelled unless the slot's page is the focus and SHOWN (R67, R97). A page that
has just become a victim is among them: its working copy is still in place, and no button of it stays ACTIVATED
(R54). -/
def cancelUnlessFocus (s : State) (k : Fin 6) : State :=
  if ((slotAt k s).st = .ready ∨ (slotAt k s).st = .saving) ∧ holdsFocus k s = false then cancelActivation k s
  else s

/-- The Navigation Unit learns of a change of the list: activations on pages that are no longer the SHOWN focus
are cancelled (R67 step 2, R97). -/
def tellNavigation (s : State) : State := allSlots.foldl cancelUnlessFocus s

/-- The second and third steps of the hand-on (R67). -/
def handOn (s : State) : State := raiseRecompose (tellNavigation s)

/-! ## Adding, removing, changing an entry -/

/-- An entry is added at a position; a page that is not resident is requested (R63, R67). -/
def insertEntry (i : Nat) (e : Entry) (s : State) : State :=
  handOn (requestPage .stack e.page
    (setEntries (s.stack.entries.take i ++ [e] ++ s.stack.entries.drop i) s))

/-- The leaving order with one place closed (R62). (DEDUCED, assumption log 24.) -/
def closeOrder (gone : Entry) (es : List Entry) : List Entry :=
  if isLeaving gone then
    es.map (fun e => if isLeaving e ∧ gone.order < e.order then { e with order := e.order - 1 } else e)
  else es

/-- The held return selection of a page is discarded (R105). -/
def dropReturnSel (test : PageRef → Bool) (s : State) : State :=
  s.setNav { s.nav with returnSel := s.nav.returnSel.filter (fun x => !test x.1) }

/-- An entry leaves the list, with the notice where a code is given (R66); the requester of a page that is not
resident is withdrawn (R50, R67), a held return selection is discarded (R105). -/
def detachEntry (r : PageRef) (code : Option Half) (s : State) : State :=
  match positionOf r s, entryOf r s with
  | some i, some e =>
    let s1 := match code with
      | none => s
      | some c => pageNotice .pageHidden r i c s
    let s2 := dropReturnSel (fun x => x == r)
      (setEntries (closeOrder e (s1.stack.entries.eraseIdx i)) s1)
    if isResident r s2 then s2 else withdrawRequest .stack r s2
  | _, _ => s

/-- An entry is removed and the change handed on: a released pin lets the exchange take up work, then the Navigation
Unit and the Composer are told (R67). -/
def removeEntry (r : PageRef) (code : Option Half) (s : State) : State :=
  if hasEntry r s then
    let s1 := detachEntry r code s
    handOn (if isResident r s1 then takeUp s1 else s1)
  else s

/-- An entry is changed in place (R67). -/
def changeEntry (r : PageRef) (f : Entry → Entry) (s : State) : State :=
  handOn (setEntries (s.stack.entries.map (fun e => if e.page = r then f e else e)) s)

/-- An entry turns SHOWN, with the field counter as its start field, and PAGE_SHOWN is posted (R65, R66). -/
def turnShown (r : PageRef) (code : Half) (s : State) : State :=
  let s1 := changeEntry r (fun e => { e with st := .shown, start := some (fieldNow s), role := .plain }) s
  pageNotice .pageShown r ((positionOf r s).getD 0) code s1

/-- A new ENTERING entry of a menu page (R64): its start field is set where its slot is READY, and with a fade-in
of 0 it turns SHOWN at once. -/
def addEntering (r : PageRef) (i : Nat) (s : State) : State :=
  match readySlot r s with
  | none => insertEntry i ⟨r, menuBand r.owner, .entering, none, 0, .plain⟩ s
  | some _ =>
    let s1 := insertEntry i ⟨r, menuBand r.owner, .entering, some (fieldNow s), 0, .plain⟩ s
    if (pageDefinition r s1).fadeIn = 0 then turnShown r shownFadeIn s1 else s1

/-! ## Capacity (R68) -/

/-- The oldest LEAVING entry (R68). -/
def oldestLeaving (s : State) : Option Entry :=
  let ls := s.stack.entries.filter isLeaving
  ls.find? (fun e => ls.all (fun x => decide (e.order ≤ x.order)))

/-- Room for one more entry (R68): with 5 entries the oldest LEAVING entry is cut, by the removal given; none where
no entry is LEAVING. -/
def roomBy (cut : PageRef → State → State) (s : State) : Option State :=
  if s.stack.entries.length < 5 then some s else (oldestLeaving s).map (fun e => cut e.page s)

/-- Room for an entry of a menu band: the cut is handed on before the entry is added (R67, R68). -/
def makeRoom (s : State) : Option State := roomBy (fun r t => removeEntry r (some hiddenCut) t) s

/-! ## Showing and hiding (R69 to R73) -/

/-- A LEAVING entry is brought back (R70). -/
def restoreEntry (r : PageRef) (s : State) : State :=
  match entryOf r s with
  | none => s
  | some e => turnShown r shownRestored (setEntries (closeOrder e s.stack.entries) s)

/-- A defined MENU page is shown (R69); none where the stack has no room (R68). -/
def showEntry (r : PageRef) (s : State) : Option State :=
  match entryOf r s with
  | none => (makeRoom s).map (fun t => addEntering r (topOfBand (menuBand r.owner) t) t)
  | some e => some (if isLeaving e then restoreEntry r s else s)

/-- An entry starts leaving (R71). -/
def startLeaving (r : PageRef) (s : State) : State :=
  match entryOf r s with
  | none => s
  | some e =>
    if e.band = .slide then s
    else
      match e.st with
      | .leaving => s
      | st =>
        if st = .entering ∧ e.start = none then removeEntry r (some hiddenUnseen) s
        else if (pageDefinition r s).fadeOut = 0 then removeEntry r (some hiddenFaded) s
        else
          changeEntry r (fun x => { x with
            st := .leaving, start := some (fieldNow s),
            order := (s.stack.entries.filter isLeaving).length }) s

/-- HIDE_BAND: every entry of the owner's menu band starts leaving, from bottom to top (R73). -/
def hideBandEntries (o : Owner) (s : State) : State :=
  ((s.stack.entries.filter (fun e => e.band == menuBand o)).map Entry.page).foldl
    (fun t r => startLeaving r t) s

/-! ## GOTO (R74) -/

/-- A target takes its place above the acting entry, which starts leaving (R74, R78): a new ENTERING entry, an
entry that stays, or one that is brought back. -/
def replaceBy (acting target : PageRef) (s : State) : State :=
  let pages := pagesUpTo acting s
  let known := entryOf target s
  let s1 := startLeaving acting s
  match known with
  | none =>
    match makeRoom s1 with
    | none => s1
    | some s2 => addEntering target (positionAbove pages s2) s2
  | some e => if isLeaving e then restoreEntry target s1 else s1

/-- GOTO replaces the acting page with its target (R74). -/
def gotoPage (acting target : PageRef) (s : State) : State :=
  if acting = target then s else replaceBy acting target s

/-! ## Return stacks (R75 to R78) -/

/-- The return stack of an owner, newest frame first (R75). -/
def framesOf (o : Owner) (s : State) : List Frame :=
  match o with
  | .disc => s.stack.discFrames
  | .player => s.stack.playerFrames

/-- The return stack of an owner is written. -/
def setFrames (o : Owner) (fs : List Frame) (s : State) : State :=
  match o with
  | .disc => s.setStack { s.stack with discFrames := fs }
  | .player => s.setStack { s.stack with playerFrames := fs }

/-- A frame is pushed (R75): the ninth frame overwrites the oldest and posts STACK_WRAP. (DEDUCED, assumption
log 24.) -/
def pushFrame (o : Owner) (f : Frame) (s : State) : State :=
  let fs := framesOf o s
  if fs.length < 8 then setFrames o (f :: fs) s
  else
    let s1 := setFrames o (f :: fs.dropLast) s
    match fs.getLast? with
    | none => s1
    | some old => post .stackWrap (some o) (some old.page) (buttonField old.button) 0 0 false s1

/-- The selection that a page's READY slot holds, or none (R76, R77). -/
def selectionOf (r : PageRef) (s : State) : Option Byte :=
  match readySlot r s with
  | none => none
  | some k => (slotAt k s).selection

/-- CALL opens the target above the acting page (R76); none where the stack has no room. (DEDUCED, assumption
log 29.) -/
def callPage (acting target : PageRef) (s : State) : Option State :=
  if acting = target then some s
  else
    let push := pushFrame acting.owner ⟨acting.id, selectionOf acting s⟩
    match entryOf target s with
    | none =>
      (makeRoom s).map (fun t =>
        let t1 := push t
        addEntering target (topOfBand (menuBand target.owner) t1) t1)
    | some e => some (if isLeaving e then restoreEntry target (push s) else push s)

/-- The topmost SHOWN entry of an owner's menu band (R77). -/
def topShown (o : Owner) (s : State) : Option Entry :=
  (s.stack.entries.filter (fun e => e.band == menuBand o && e.st == .shown)).getLast?

/-- A controller SHOW in mode CALL (R77): the frame is pushed only when a new entry is added. -/
def showCalling (r : PageRef) (s : State) : Option State :=
  match entryOf r s with
  | some _ => showEntry r s
  | none =>
    (makeRoom s).map (fun t =>
      let t1 := match topShown r.owner t with
        | none => t
        | some e => pushFrame r.owner ⟨e.page.id, selectionOf e.page t⟩ t
      addEntering r (topOfBand (menuBand r.owner) t1) t1)

/-- A frame is usable for a RETURN of the acting page (R78). -/
def usableFrame (acting : PageRef) (s : State) (f : Frame) : Bool :=
  isMenuPage ⟨acting.owner, f.page⟩ s && !(f.page == acting.id)

/-- The return selection of a page is made at once in a READY slot, or held until load done (R105). -/
def giveReturnSel (r : PageRef) (b : Byte) (s : State) : State :=
  match readySlot r s with
  | some k => selectIfEnabled k b s
  | none =>
    let s1 := dropReturnSel (fun x => x == r) s
    s1.setNav { s1.nav with returnSel := s1.nav.returnSel ++ [(r, b)] }

/-- RETURN of the acting page (R78): frames are popped until one is usable. -/
def returnFrom (acting : PageRef) (s : State) : State :=
  let fs := framesOf acting.owner s
  match fs.findIdx? (usableFrame acting s) with
  | none =>
    post .returnEmpty (some acting.owner) (some acting.id) (BitVec.ofNat 16 fs.length) 0 0 false
      (setFrames acting.owner [] s)
  | some i =>
    let s1 := setFrames acting.owner (fs.drop (i + 1)) s
    match fs[i]? with
    | none => s1
    | some f =>
      let target : PageRef := ⟨acting.owner, f.page⟩
      let s2 := replaceBy acting target s1
      match f.button with
      | none => s2
      | some b => giveReturnSel target b s2

/-! ## The slide band (R79) -/

/-- An entry is removed in an event that then adds a slide: the exchange takes up the released pin only after the
addition, so that the slide still stands in its READY slot when it is added (R79; DESIGN CHOICE, assumption log 32). -/
def removeBeforeSlide (r : PageRef) (code : Half) (s : State) : State :=
  if hasEntry r s then handOn (detachEntry r (some code) s) else s

/-- Room for a slide (R68, R79). -/
def slideRoom (s : State) : Option State := roomBy (fun r t => removeBeforeSlide r hiddenCut t) s

/-- A slide entry is added, and the exchange takes up what removals of the same event have released (R52, R67;
DESIGN CHOICE, assumption log 32). -/
def insertSlide (i : Nat) (e : Entry) (s : State) : State := takeUp (insertEntry i e s)

/-- A slide is added at full level (R79); none where the stack has no room. -/
def addSlide (r : PageRef) (s : State) : Option State :=
  (slideRoom s).map (fun t =>
    let i := topOfBand .slide t
    pageNotice .pageShown r i shownSlide
      (insertSlide i ⟨r, .slide, .shown, some (fieldNow t), 0, .plain⟩ t))

/-- An incoming slide is added above the current one, which becomes OUTGOING (R79); none where the stack has no
room. -/
def addIncoming (current r : PageRef) (s : State) : Option State :=
  (slideRoom s).map (fun t =>
    let t1 := changeEntry current (fun e => { e with role := .outgoing }) t
    insertSlide (positionAbove (pagesUpTo current t1) t1)
      ⟨r, .slide, .entering, some (fieldNow t1), 0, .incoming⟩ t1)

/-- The page has an entry of the SLIDE band. -/
def hasSlideEntry (r : PageRef) (s : State) : Bool :=
  s.stack.entries.any (fun e => e.page == r && e.band == .slide)

/-- The transition's entries at its end (R79): the OUTGOING entry is removed, the INCOMING entry turns SHOWN. Where
the outgoing page has left the SLIDE band already (R40, R81), an entry it has in a menu band stays. -/
def endSlideTransition (outgoing incoming : PageRef) (s : State) : State :=
  turnShown incoming shownSlide
    (if hasSlideEntry outgoing s then removeEntry outgoing (some hiddenSlide) s else s)

/-- The one slide entry left is removed and added again at full level in the same event (R127): it stands where
it stood, its pin is not released in between. (DESIGN CHOICE, assumption log 32.) -/
def renewSlide (r : PageRef) (s : State) : State :=
  turnShown r shownSlide (pageNotice .pageHidden r ((positionOf r s).getD 0) hiddenSlide s)

/-- The pages of the slide band from bottom to top. -/
def slidePages (s : State) : List PageRef :=
  (s.stack.entries.filter (fun e => e.band == .slide)).map Entry.page

/-- The slide band is emptied from bottom to top; without notices where `silent` (R79, R82). -/
def emptySlideBand (silent : Bool) (s : State) : State :=
  (slidePages s).foldl (fun t r => removeEntry r (if silent then none else some hiddenSlide) t) s

/-! ## Field starts (R65) -/

/-- A menu-band entry is ENTERING and due to turn SHOWN at the present field start (R65). -/
def fadeInDue (s : State) (e : Entry) : Bool :=
  e.band != .slide && e.st == .entering && (readySlot e.page s).isSome &&
    match e.start with
    | none => false
    | some v => decide ((pageDefinition e.page s).fadeIn ≤ fieldsSince (fieldNow s) v)

/-- A menu-band entry is LEAVING and due to be removed at the present field start (R65). -/
def fadeOutDue (s : State) (e : Entry) : Bool :=
  e.band != .slide && e.st == .leaving &&
    match e.start with
    | none => false
    | some u => decide ((pageDefinition e.page s).fadeOut ≤ fieldsSince (fieldNow s) u)

/-- One entry is examined at a field start (R65). -/
def examineEntry (s : State) (r : PageRef) : State :=
  match entryOf r s with
  | none => s
  | some e =>
    if fadeInDue s e then turnShown r shownFadeIn s
    else if fadeOutDue s e then removeEntry r (some hiddenFaded) s
    else s

/-- What the Page Stack does at a field start, from bottom to top (R65). -/
def stackField (s : State) : State := (s.stack.entries.map Entry.page).foldl examineEntry s

/-! ## Load done, definition changes, owner erase (R64, R81, R82) -/

/-- Load done of a page reaches its entry (R57, R64): an ENTERING entry's start field is set. -/
def stackLoaded (r : PageRef) (s : State) : State :=
  match entryOf r s with
  | none => s
  | some e =>
    if e.st = .entering then
      let s1 := changeEntry r (fun x => { x with start := some (fieldNow s) }) s
      if e.band ≠ .slide ∧ (pageDefinition r s1).fadeIn = 0 then turnShown r shownFadeIn s1 else s1
    else s

/-- The entries and frames of an owner are removed without notices (R82). -/
def eraseStack (o : Owner) (s : State) : State :=
  let mine := (s.stack.entries.filter (fun e => e.page.owner == o)).map Entry.page
  mine.foldl (fun t r => removeEntry r none t) (setFrames o [] s)

end Sys2Proof.Machine
end

