-- ==== Sys2Proof/Machine/Sequencer.lean ====
section
/-! DEFINITION. The Slide Sequencer: searches, advances, transitions, prefetch, steps, pause and stop, field starts
(R114 to R128). -/

namespace Sys2Proof.Machine

open Sys2Proof

/-! ## The running list (R114, R115) -/

/-- The Sequencer's fields are written. -/
def updateSeq (f : Sequencer → Sequencer) (s : State) : State := s.setSeqr (f s.seqr)

/-- A list of the list store, or none while it is undefined (R112). -/
def slideList (o : Owner) (i : Fin 2) (s : State) : Option SlideList := s.seqr.lists[listIndex o i]

/-- The entries of the running list (R114). -/
def runningEntries (s : State) : List SlideEntry :=
  match slideList s.seqr.owner s.seqr.list s with
  | none => []
  | some l => l.entries

/-- The running list is a LOOP list (R112). -/
def runningLoops (s : State) : Bool :=
  match slideList s.seqr.owner s.seqr.list s with
  | none => false
  | some l => l.loop

/-- The page of an entry, in the running list's owner space (R115). -/
def slidePage (e : SlideEntry) (s : State) : PageRef := ⟨s.seqr.owner, e.page⟩

/-- The page of the entry at an index of the running list. -/
def pageAt (i : Nat) (s : State) : Option PageRef := (runningEntries s)[i]?.map (fun e => slidePage e s)

/-- The entry at an index is playable: its page is defined and of kind SLIDE (R115). -/
def playable (s : State) (i : Nat) : Bool :=
  match pageAt i s with
  | none => false
  | some r => isSlidePage r s

/-- The Sequencer's notices carry the list's owner and, as detail, the list id (R128). -/
def seqNotice (kind : NoticeKind) (page : Option PageRef) (code : Half) (s : State) : State :=
  post kind (some s.seqr.owner) (page.map PageRef.id) (BitVec.ofNat 16 s.seqr.index) code
    (BitVec.ofNat 32 s.seqr.list.val) false s

/-- The SLIDE_STOPPED codes (R191). -/
def stoppedCommand : Half := 0

def stoppedEmpty : Half := 1

def stoppedRedefined : Half := 2

def stoppedErased : Half := 3

/-- The code of a transition kind (R188). -/
def transCode (k : TransKind) : Half :=
  match k with
  | .cut => 0
  | .crossfade => 1
  | .fadeThrough => 2
  | .wipeLeft => 3

/-- The SLIDE_ADVANCED code when the page was already shown (R191). -/
def advancedNone : Half := 4

/-! ## Searching (R115) -/

/-- What a search finds (R115). -/
inductive Found where
  | entry (j : Nat)
  | offEnd
  | offStart
  | nothing
deriving DecidableEq, Repr

/-- The indexes that a FORWARD search from i looks at, in order (R115). -/
def forwardOrder (loop : Bool) (len i : Nat) : List Nat :=
  if loop then (List.range len).map (fun n => (i + 1 + n) % len)
  else (List.range len).filter (fun j => decide (i < j))

/-- The indexes that a BACK search from i looks at, in order (R115). -/
def backOrder (loop : Bool) (len i : Nat) : List Nat :=
  if loop then (List.range len).map (fun n => (i + 2 * len - 1 - n) % len)
  else ((List.range len).filter (fun j => decide (j < i))).reverse

/-- A search from an index in a direction; `back` for BACK (R115). -/
def searchFrom (back : Bool) (i : Nat) (s : State) : Found :=
  let len := (runningEntries s).length
  let loop := runningLoops s
  let order := if back then backOrder loop len i else forwardOrder loop len i
  match order.find? (playable s) with
  | some j => .entry j
  | none => if loop then .nothing else if back then .offStart else .offEnd

/-! ## The wanted page (R118) -/

/-- The wanted page becomes P: the former one's request is withdrawn, P is requested (R118). -/
def wantPage (r : PageRef) (s : State) : State :=
  let s1 := match s.seqr.wanted with
    | none => s
    | some w => if w = r then s else withdrawRequest .sequencer w s
  requestPage .sequencer r (updateSeq (fun q => { q with wanted := some r }) s1)

/-- The wanted page becomes none; its request is withdrawn (R118). -/
def wantNone (s : State) : State :=
  match s.seqr.wanted with
  | none => s
  | some w => withdrawRequest .sequencer w (updateSeq (fun q => { q with wanted := none }) s)

/-- The prefetch (R120): the page of the entry that a FORWARD search finds, unless it is the shown page. -/
def prefetch (s : State) : State :=
  match searchFrom false s.seqr.index s with
  | .entry j =>
    match pageAt j s with
    | none => wantNone s
    | some r => if s.seqr.shown = some r then wantNone s else wantPage r s
  | _ => wantNone s

/-! ## Advances and transitions (R117, R119, R120) -/

/-- An advance completes (R120): hold, state, notice, prefetch. (DEDUCED, assumption log 34.) -/
def completeAdvance (code : Half) (s : State) : State :=
  let h : Half :=
    match (runningEntries s)[s.seqr.index]? with
    | none => 0
    | some e => e.hold
  let s1 := wantNone (updateSeq (fun q => { q with
    latch := h, counter := h, latchMark := false, trans := none,
    st := if q.pendingPause then .paused else .holding,
    pendingPause := false,
    holdFresh := s.due.contains .sequencer }) s)
  prefetch (seqNotice .slideAdvanced s1.seqr.shown code s1)

/-- A slide is brought in at full level (R117); without room the Sequencer stays WAITING. -/
def bringInFull (r : PageRef) (s : State) : State :=
  match addSlide r s with
  | none => s
  | some t => completeAdvance (transCode .cut) (updateSeq (fun q => { q with shown := some r }) t)

/-- The shown slide is replaced by a CUT (R119): the removal comes first. (DESIGN CHOICE, assumption log 32.) -/
def cutTo (shown r : PageRef) (s : State) : State :=
  bringInFull r
    (updateSeq (fun q => { q with shown := none }) (removeBeforeSlide shown hiddenSlide s))

/-- The transition of an entry starts (R119). -/
def startTransition (shown r : PageRef) (e : SlideEntry) (s : State) : State :=
  if e.kind = .cut ∨ e.length = 0 then cutTo shown r s
  else
    match addIncoming shown r s with
    | none => cutTo shown r s
    | some t =>
      wantNone (updateSeq (fun q => { q with
        st := .transitioning, trans := some ⟨e.kind, e.length, fieldNow t⟩ }) t)

/-- The awaited page is ready (R117): resident in a READY slot. A page that has stopped being a SLIDE page while it
was awaited is not (R63, R115; DESIGN CHOICE, assumption log 37). -/
def slideReady (r : PageRef) (s : State) : Bool := (readySlot r s).isSome && isSlidePage r s

/-- The awaited page is brought in if it is ready (R117). -/
def tryBringIn (s : State) : State :=
  match (runningEntries s)[s.seqr.index]? with
  | none => s
  | some e =>
    let r := slidePage e s
    if slideReady r s then
      match s.seqr.shown with
      | none => bringInFull r s
      | some p => if p = r then completeAdvance advancedNone s else startTransition p r e s
    else s

/-- The show moves to an entry (R117). -/
def moveTo (j : Nat) (back : Bool) (s : State) : State :=
  match pageAt j s with
  | none => s
  | some r =>
    tryBringIn (wantPage r (updateSeq (fun q => { q with index := j, back := back, st := .waiting }) s))

/-- Every field of R114 takes its reset value; the lists stay (R125). -/
def resetSeq (s : State) : State := s.setSeqr (sequencerReset s.seqr.lists)

/-- The show stops (R125). -/
def stopShow (reason : Half) (s : State) : State :=
  let s1 := wantNone (emptySlideBand (reason == stoppedErased) s)
  resetSeq (seqNotice .slideStopped none reason s1)

/-- A search from the index, and what follows from it (R115). -/
def searchMove (back : Bool) (s : State) : State :=
  match searchFrom back s.seqr.index s with
  | .entry j => moveTo j back s
  | .offEnd =>
    match s.seqr.shown with
    | none => stopShow stoppedEmpty s
    | some p =>
      let s1 := wantNone (updateSeq (fun q => { q with st := .ended }) s)
      seqNotice .slideEnd (some p) 0 s1
  | .offStart => if s.seqr.shown.isNone then stopShow stoppedEmpty s else s
  | .nothing => stopShow stoppedEmpty s

/-- A transition ends (R119): the outgoing entry goes, the incoming slide is the shown page. -/
def endTransition (s : State) : State :=
  match s.seqr.trans, s.seqr.shown, pageAt s.seqr.index s with
  | some t, some out, some r =>
    completeAdvance (transCode t.kind)
      (updateSeq (fun q => { q with shown := some r }) (endSlideTransition out r s))
  | _, _, _ => s

/-! ## Steps, pause, resume (R122, R123) -/

/-- A step in HOLDING, PAUSED, WAITING or ENDED (R122). -/
def stepSettled (back : Bool) (s : State) : State :=
  match s.seqr.st with
  | .holding => searchMove back s
  | .paused =>
    let s1 := searchMove back (updateSeq (fun q => { q with pendingPause := true }) s)
    if s1.seqr.st = .paused ∨ s1.seqr.st = .ended then
      updateSeq (fun q => { q with pendingPause := false }) s1
    else s1
  | .waiting => searchMove back s
  | .ended => if back then searchMove true s else s
  | .transitioning => s
  | .stopped => s

/-- A step: NEXT, or PREV where `back` (R122). -/
def stepShow (back : Bool) (s : State) : State :=
  if s.seqr.st = .transitioning then stepSettled back (endTransition s) else stepSettled back s

/-- A pause (R123). -/
def pauseShow (s : State) : State :=
  match s.seqr.st with
  | .holding => updateSeq (fun q => { q with st := .paused }) s
  | .waiting => updateSeq (fun q => { q with pendingPause := true }) s
  | .transitioning => updateSeq (fun q => { q with pendingPause := true }) s
  | .paused => s
  | .ended => s
  | .stopped => s

/-- A resume (R123). -/
def resumeShow (s : State) : State :=
  match s.seqr.st with
  | .paused =>
    updateSeq (fun q => { q with
      st := .holding, counter := if q.latchMark then q.latch else q.counter, latchMark := false,
      holdFresh := s.due.contains .sequencer }) s
  | .waiting => updateSeq (fun q => { q with pendingPause := false }) s
  | .transitioning => updateSeq (fun q => { q with pendingPause := false }) s
  | .holding => s
  | .ended => s
  | .stopped => s

/-- The PAUSE key toggles (R123). -/
def togglePause (s : State) : State :=
  match s.seqr.st with
  | .holding => pauseShow s
  | .paused => resumeShow s
  | .waiting => updateSeq (fun q => { q with pendingPause := !q.pendingPause }) s
  | .transitioning => updateSeq (fun q => { q with pendingPause := !q.pendingPause }) s
  | .ended => s
  | .stopped => s

/-- A SLIDE operation of an outcome or a cue: NEXT, PREV, PAUSE, RESUME by its code (R102, R188). -/
def slideOperation (op : Nat) (s : State) : State :=
  match op with
  | 0 => stepShow false s
  | 1 => stepShow true s
  | 2 => pauseShow s
  | 3 => resumeShow s
  | _ => s

/-! ## Field starts and load done (R117, R121) -/

/-- The hold is counted in HOLDING at a field start (R121). -/
def countSlideHold (s : State) : State :=
  let q := s.seqr
  if q.latch = 0 then s
  else if q.counter = 0 then updateSeq (fun q => { q with counter := q.latch }) s
  else
    let s1 := updateSeq (fun q => { q with counter := q.counter - 1 }) s
    if q.counter = 1 then searchMove false s1 else s1

/-- What the Slide Sequencer does in WAITING at a field start (R117, R121): the awaited page becomes the wanted page
again, which requests it where it is not resident, and is brought in if it is ready. An awaited page that is no
longer a SLIDE page is neither requested nor brought in (DESIGN CHOICE, assumption log 37). -/
def waitField (s : State) : State :=
  match pageAt s.seqr.index s with
  | none => s
  | some r => if isSlidePage r s then tryBringIn (wantPage r s) else s

/-- What the Slide Sequencer does at a field start (R121). (DEDUCED, assumption log 22.) -/
def sequencerField (s : State) : State :=
  match s.seqr.st with
  | .holding =>
    if s.seqr.holdFresh then updateSeq (fun q => { q with holdFresh := false }) s else countSlideHold s
  | .transitioning =>
    match s.seqr.trans with
    | none => s
    | some t => if t.length ≤ fieldsSince (fieldNow s) t.start then endTransition s else s
  | .waiting => waitField s
  | .paused => s
  | .ended => s
  | .stopped => s

/-- Load done of a page reaches the Sequencer (R117). -/
def sequencerLoaded (r : PageRef) (s : State) : State :=
  if s.seqr.st = .waiting ∧ pageAt s.seqr.index s = some r then tryBringIn s else s

/-! ## Pages and lists that change under a show (R113, R126, R127) -/

/-- P is the shown page of a slide that is held, or the wanted page of its prefetch (R127). -/
def heldPageGone (p : PageRef) (s : State) : State :=
  if s.seqr.shown = some p then
    searchMove false (updateSeq (fun q => { q with
      shown := none, pendingPause := q.pendingPause || q.st == .paused }) s)
  else if s.seqr.wanted = some p then prefetch s
  else s

/-- P is the shown page or the awaited page of a wait (R127). (DEDUCED, assumption log 26.) Where the search runs off
the start with a slide shown, the show stays WAITING for the page that has gone (DESIGN CHOICE, assumption log
37). -/
def waitPageGone (p : PageRef) (s : State) : State :=
  let s1 := if s.seqr.shown = some p then updateSeq (fun q => { q with shown := none }) s else s
  if pageAt s1.seqr.index s1 = some p then searchMove s1.seqr.back s1 else s1

/-- P is the outgoing or the incoming page of a transition (R127). -/
def transPageGone (p : PageRef) (s : State) : State :=
  if s.seqr.shown = some p then endTransition s
  else if pageAt s.seqr.index s = some p then
    match s.seqr.shown with
    | none => s
    | some out =>
      let s1 := renewSlide out s
      searchMove s1.seqr.back
        (updateSeq (fun q => { q with trans := none, st := .waiting }) s1)
  else s

/-- A page that is no longer a SLIDE page is the page of an entry of the running list (R127). -/
def slideGone (p : PageRef) (s : State) : State :=
  match s.seqr.st with
  | .holding => heldPageGone p s
  | .paused => heldPageGone p s
  | .ended => heldPageGone p s
  | .waiting => waitPageGone p s
  | .transitioning => transPageGone p s
  | .stopped => s

/-- The redefinition or deletion of a page is announced to the Sequencer (R127). -/
def sequencerPageChanged (p : PageRef) (s : State) : State :=
  if (runningEntries s).any (fun e => slidePage e s == p) ∧ isSlidePage p s = false then slideGone p s
  else s

/-- The list is the one the Sequencer is running (R113). -/
def isRunningList (o : Owner) (i : Fin 2) (s : State) : Bool :=
  s.seqr.st != .stopped && s.seqr.owner == o && s.seqr.list == i

/-- A list is defined, replaced or made undefined; a show that runs it stops with REDEFINED (R113, R126). -/
def changeList (o : Owner) (i : Fin 2) (l : Option SlideList) (s : State) : State :=
  let s1 := if isRunningList o i s then stopShow stoppedRedefined s else s
  updateSeq (fun q => { q with lists := q.lists.set (listIndex o i) l }) s1

/-- A SLIDELIST payload reaches the Slide Sequencer (R113). -/
def takeSlideList (lane : Owner) (p : List Byte) (s : State) : State :=
  match slideListFault p with
  | some (code, detail) => segmentFault lane kindSlideList code ((byteAt p 0).setWidth 16) detail s
  | none => changeList lane (Fin.ofNat 2 (byteAt p 0).toNat) (some (parseSlideList p)) s

/-- DELETE of a slide list (R113). -/
def deleteList (o : Owner) (i : Fin 2) (s : State) : State :=
  match slideList o i s with
  | none => s
  | some _ => changeList o i none s

/-- An owner erase (R126): a running show of that owner stops with ERASED, both lists are undefined. -/
def eraseSlides (o : Owner) (s : State) : State :=
  let s1 := if s.seqr.st != .stopped && s.seqr.owner == o then stopShow stoppedErased s else s
  updateSeq (fun q => { q with
    lists := (q.lists.set (listIndex o 0) none).set (listIndex o 1) none }) s1

/-- An accepted SLIDE_START (R116). -/
def startShow (o : Owner) (list : Fin 2) (index : Nat) (s : State) : State :=
  let s1 := if s.seqr.st = .stopped then s else stopShow stoppedCommand s
  let s2 := updateSeq (fun q => { q with
    st := .waiting, owner := o, list := list, index := index, back := false, shown := none,
    pendingPause := false }) s1
  if playable s2 index then moveTo index false s2 else searchMove false s2

end Sys2Proof.Machine
end

