-- ==== Sys2Proof/Machine/Actions.lean ====
section
/-! DEFINITION. Outcomes of pages, activations, page timeouts (R93 to R102, R107, R108). -/

namespace Sys2Proof.Machine

open Sys2Proof

/-- The index field of a report or fault of a page's timeout outcome (R191). -/
def indexTimeout : Half := 0xFFFE

/-- The index field of a report or fault of a page's BACK outcome (R191). -/
def indexBack : Half := 0xFFFD

/-- The OUTCOME_FAULT codes (R191). -/
def outcomeBadTarget : Half := 0

def outcomeStackFull : Half := 1

def outcomeReadOnly : Half := 2

def outcomeNoSlides : Half := 3

def outcomeNotReady : Half := 4

/-- The acting page of an outcome, and the index field that names its button, TIMEOUT or BACK (R98,
R102). -/
structure Acting where
  page : PageRef
  index : Half
deriving DecidableEq, Repr

/-- An OUTCOME_FAULT of a page outcome (R102). -/
def pageFaultNotice (a : Acting) (code : Half) (detail : Word) (s : State) : State :=
  post .outcomeFault (some a.page.owner) (some a.page.id) a.index code detail false s

/-- The resolved target of a GOTO or CALL (R99): the target field, or with RELATIVE its signed value added to
the acting page's id. -/
def resolveTarget (x : Action) (acting : PageRef) : Int :=
  if x.relative then x.target.toInt + (acting.id.val : Int) else (x.target.toNat : Int)

/-- The resolved target names a defined MENU page of the acting page's owner (R99). -/
def targetPage (t : Int) (owner : Owner) (s : State) : Option PageRef :=
  if 0 ≤ t ∧ t < 32 then
    let r : PageRef := ⟨owner, Fin.ofNat 32 t.toNat⟩
    if isMenuPage r s then some r else none
  else none

/-- A navigation variable (R110). -/
def variableAt (v : Fin 16) (s : State) : Word := s.nav.vars[v]

/-- A navigation variable is written (R110). -/
def setVariable (v : Fin 16) (w : Word) (s : State) : State :=
  s.setNav { s.nav with vars := s.nav.vars.set v w }

/-- The Sequencer runs a list of the owner (R102, R141). -/
def slidesRunFor (o : Owner) (s : State) : Bool := s.seqr.st != .stopped && s.seqr.owner == o

/-- An outcome of a page is executed (R99 to R102). -/
def runOutcome (a : Acting) (x : Action) (s : State) : State :=
  match x.kind with
  | .nothing => s
  | .goto =>
    let t := resolveTarget x a.page
    match targetPage t a.page.owner s with
    | none => pageFaultNotice a outcomeBadTarget (BitVec.ofInt 32 t) s
    | some r => gotoPage a.page r s
  | .call =>
    let t := resolveTarget x a.page
    match targetPage t a.page.owner s with
    | none => pageFaultNotice a outcomeBadTarget (BitVec.ofInt 32 t) s
    | some r => (callPage a.page r s).getD (pageFaultNotice a outcomeStackFull 0 s)
  | .goBack => returnFrom a.page s
  | .hide => startLeaving a.page s
  | .select =>
    match readySlot a.page s with
    | none => s
    | some k => selectButton k (x.target.setWidth 8) s
  | .setvar =>
    if x.target.toNat < 12 then setVariable (Fin.ofNat 16 x.target.toNat) x.value s
    else pageFaultNotice a outcomeReadOnly (x.target.setWidth 32) s
  | .slide =>
    if slidesRunFor a.page.owner s then slideOperation x.target.toNat s
    else pageFaultNotice a outcomeNoSlides (x.target.setWidth 32) s
  | .bringUp => s

/-- An ACTION_REPORT notice, where the outcome has REPORT (R98). -/
def reportOutcome (a : Acting) (x : Action) (branch : Bool) (detail : Word) (s : State) : State :=
  if x.report then
    post .actionReport (some a.page.owner) (some a.page.id) a.index x.code detail branch s
  else s

/-! ## Tests and activations (R93 to R96) -/

/-- The result of a button test on a variable's value (R96). -/
def testResult (t : Test) (value : Word) : Bool :=
  let x := value.toNat % 2 ^ t.width
  let top := decide (2 ^ (t.width - 1) ≤ x)
  match t.kind with
  | .always => true
  | .high => top
  | .highOrZero => top || x == 0
  | .notHigh => !top
  | .notHighOrOnes => !top || x == 2 ^ t.width - 1
  | .low => x % 2 == 1
  | .lowOrZero => x % 2 == 1 || x == 0
  | .zero => x == 0

/-- The activation of the button at an index of a slot completes (R95). -/
def finishActivation (k : Fin 6) (i : Nat) (s : State) : State :=
  let sl := slotAt k s
  match sl.page, sl.defn.bind (fun d => d.buttons[i]?) with
  | some r, some b =>
    let branch := testResult b.test (variableAt b.test.var s)
    let x := if branch then b.onTrue else b.onFalse
    let a : Acting := ⟨r, b.id.setWidth 16⟩
    let s1 := raiseRecompose
      (setSlot k { putButton i .selected (fieldNow s) sl with hold := 0 } s)
    let s2 := runOutcome a x s1
    reportOutcome a x branch (variableAt b.test.var s2) s2
  | _, _ => s

/-- The activation that runs in a slot completes, if one does (R95). -/
def completeActivation (k : Fin 6) (s : State) : State :=
  match activatedIndex (slotAt k s) with
  | none => s
  | some i => finishActivation k i s

/-- The activation of a button begins (R93); with a hold of 0 it completes at once. -/
def beginActivation (k : Fin 6) (i : Nat) (s : State) : State :=
  let s1 := activateButton k i s
  if (slotAt k s1).hold = 0 then completeActivation k s1 else s1

/-- The hold of a slot is counted at a field start (R94): the field start at which the activation began does not
count. -/
def countHold (s : State) (k : Fin 6) : State :=
  let sl := slotAt k s
  match activatedIndex sl with
  | none => s
  | some i =>
    let begun : Bool :=
      match sl.buttons[i]? with
      | none => true
      | some b => b.since == fieldNow s
    if sl.st ≠ .ready ∨ begun then s
    else
      let s1 := setSlot k { sl with hold := sl.hold - 1 } s
      if sl.hold ≤ 1 then finishActivation k i s1 else s1

/-! ## Page timeouts (R107, R108) -/

/-- The page timeout of a slot is written. -/
def setTimer (k : Fin 6) (timer : Half) (mark : Bool) (s : State) : State :=
  setSlot k { slotAt k s with timer := timer, mark := mark } s

/-- The slot of the focus page, if the focus is SHOWN and its slot READY. -/
def focusSlot (s : State) : Option (Fin 6) :=
  match focusEntry s with
  | none => none
  | some e => if e.st = .shown then readySlot e.page s else none

/-- The timeout counter of a slot is counting (R107). -/
def timerCounts (k : Fin 6) (s : State) : Bool :=
  focusSlot s == some k && !holdRunning (slotAt k s) && (slotAt k s).latch != 0

/-- The timeout of the page in a slot expires (R108). -/
def expireTimeout (k : Fin 6) (s : State) : State :=
  let sl := slotAt k s
  match sl.page, sl.defn with
  | some r, some d =>
    let a : Acting := ⟨r, indexTimeout⟩
    let s1 := reportOutcome a d.timeoutAct true 0 (runOutcome a d.timeoutAct s)
    match readySlot r s1 with
    | none => s1
    | some j => setSlot j { slotAt j s1 with timer := (slotAt j s1).latch } s1
  | _, _ => s

/-- The page timeout of a slot at a field start (R107). -/
def countTimeout (s : State) (k : Fin 6) : State :=
  if timerCounts k s then
    let sl := slotAt k s
    if sl.mark then setTimer k sl.latch false s
    else if sl.timer = 0 then setTimer k sl.latch false s
    else
      let s1 := setTimer k (sl.timer - 1) false s
      if sl.timer = 1 then expireTimeout k s1 else s1
  else s

/-- The page timeouts of a field start: only the focus page's can count (R107). -/
def timeoutsField (s : State) : State :=
  match focusSlot s with
  | none => s
  | some k => countTimeout s k

/-- A key delivered to a page reloads its timeout counter and clears the mark (R86, R108). -/
def reloadTimeout (k : Fin 6) (s : State) : State := setTimer k (slotAt k s).latch false s

end Sys2Proof.Machine
end

