-- ==== Sys2Proof/Machine/Keys.lean ====
section
/-! DEFINITION. The key queue: delivery and routing of keys (R83 to R86, R90 to R93). -/

namespace Sys2Proof.Machine

open Sys2Proof

/-- The key of a key kind byte (R188). -/
def key? (b : Byte) : Option Key :=
  match b.toNat with
  | 0 => some .up
  | 1 => some .down
  | 2 => some .left
  | 3 => some .right
  | 4 => some .enter
  | 5 => some .back
  | 6 => some .next
  | 7 => some .prev
  | 8 => some .pause
  | _ => none

/-- The code of a key (R188). -/
def keyCode (k : Key) : Half :=
  match k with
  | .up => 0
  | .down => 1
  | .left => 2
  | .right => 3
  | .enter => 4
  | .back => 5
  | .next => 6
  | .prev => 7
  | .pause => 8

/-- The KEY_UNUSED reasons (R191). -/
def reasonNoFocus : Word := 0

def reasonNoSlides : Word := 1

def reasonNoBack : Word := 2

def reasonNoSelection : Word := 3

/-- A KEY_UNUSED notice (R85). -/
def keyUnused (focus : Option PageRef) (k : Key) (reason : Word) (s : State) : State :=
  post .keyUnused (focus.map PageRef.owner) (focus.map PageRef.id) noIndex (keyCode k) reason false s

/-- The head key can be delivered (R84): there is no focus, or the focus is SHOWN with a READY slot and no
activation hold running. -/
def deliverable (s : State) : Bool :=
  match focusEntry s with
  | none => true
  | some _ =>
    match focusSlot s with
    | none => false
    | some k => !holdRunning (slotAt k s)

/-- NEXT, PREV or PAUSE is handed to the Slide Sequencer, or ends unused (R85, R86). -/
def slideKey (focus : Option PageRef) (allowed : Bool) (k : Key) (act : State → State) (s : State) : State :=
  if allowed ∧ s.seqr.st ≠ .stopped then act s else keyUnused focus k reasonNoSlides s

/-- A key delivered when there is no focus (R85). -/
def keyNoFocus (k : Key) (s : State) : State :=
  match k with
  | .next => slideKey none true k (stepShow false) s
  | .prev => slideKey none true k (stepShow true) s
  | .pause => slideKey none true k togglePause s
  | .up => keyUnused none k reasonNoFocus s
  | .down => keyUnused none k reasonNoFocus s
  | .left => keyUnused none k reasonNoFocus s
  | .right => keyUnused none k reasonNoFocus s
  | .enter => keyUnused none k reasonNoFocus s
  | .back => keyUnused none k reasonNoFocus s

/-- The button at an index has AUTO_ACTIVATE (R29). -/
def autoActivates (d : PageDef) (i : Nat) : Bool :=
  match d.buttons[i]? with
  | none => false
  | some b => b.autoActivate

/-- A directional key on a page (R90 to R92): the selection moves along the walk, and an AUTO_ACTIVATE button
then activates. -/
def moveSelection (k : Fin 6) (d : PageDef) (dir : Direction) (s : State) : State :=
  match selectionIndex (slotAt k s) with
  | none => s
  | some i =>
    match neighbourWalk d (slotAt k s) dir i with
    | none => s
    | some c =>
      let s1 := becomeSelection k c s
      if autoActivates d c then beginActivation k c s1 else s1

/-- ENTER on a page (R86, R93). -/
def enterKey (r : PageRef) (k : Fin 6) (s : State) : State :=
  match selectionIndex (slotAt k s) with
  | none => keyUnused (some r) .enter reasonNoSelection s
  | some i => beginActivation k i s

/-- BACK on a page (R86): its BACK outcome, or KEY_UNUSED where it is absent. -/
def backKey (r : PageRef) (d : PageDef) (s : State) : State :=
  if d.backAct.kind = .nothing then keyUnused (some r) .back reasonNoBack s
  else
    let a : Acting := ⟨r, indexBack⟩
    reportOutcome a d.backAct true 0 (runOutcome a d.backAct s)

/-- A key delivered to the focus page in its slot (R86). -/
def keyOnPage (r : PageRef) (k : Fin 6) (d : PageDef) (key : Key) (s : State) : State :=
  let s1 := reloadTimeout k s
  match key with
  | .up => moveSelection k d .up s1
  | .down => moveSelection k d .down s1
  | .left => moveSelection k d .left s1
  | .right => moveSelection k d .right s1
  | .enter => enterKey r k s1
  | .back => backKey r d s1
  | .next => slideKey (some r) d.passSlideKeys key (stepShow false) s1
  | .prev => slideKey (some r) d.passSlideKeys key (stepShow true) s1
  | .pause => slideKey (some r) d.passSlideKeys key togglePause s1

/-- A key is delivered to whatever the rules find at this moment (R84 to R86). -/
def deliverKey (key : Key) (s : State) : State :=
  match focusEntry s with
  | none => keyNoFocus key s
  | some e =>
    match readySlot e.page s with
    | none => s
    | some k =>
      match (slotAt k s).defn with
      | none => s
      | some d => keyOnPage e.page k d key s

/-- Keys are delivered one after another while the conditions hold and the queue is not empty, at most as many as
the first number (R84). -/
def deliverUpTo : Nat → State → State
  | 0, s => s
  | n + 1, s =>
    match s.nav.keys with
    | [] => s
    | k :: ks =>
      if deliverable s then deliverUpTo n (deliverKey k (s.setNav { s.nav with keys := ks })) else s

/-- Key delivery is tried (R84). A delivery never adds a key, so the length of the queue is enough. (DEDUCED,
assumption log 2.) -/
def deliverKeys (s : State) : State := deliverUpTo s.nav.keys.length s

/-- What the Navigation Unit does at a field start (R94, R107): holds, page timeouts, key delivery. -/
def navigationField (s : State) : State :=
  deliverKeys (timeoutsField (allSlots.foldl countHold s))

end Sys2Proof.Machine
end

