-- ==== Sys2Proof/Machine/Cues.lean ====
section
/-! DEFINITION. The Cue Unit: stream time, comparisons, conditions, evaluation and firing (R129 to R142). -/

namespace Sys2Proof.Machine

open Sys2Proof

/-! ## Stream time (R129 to R132) -/

/-- The running flag is written (R130). -/
def setRunning (on : Bool) (s : State) : State := s.setCues { s.cues with running := on }

/-- The time advances at a field start if the running flag is set (R130). -/
def advanceTime (s : State) : State :=
  if s.cues.running then s.setCues { s.cues with time := s.cues.time + s.cues.ticks.setWidth 32 } else s

/-- Time t has reached time T (R132). -/
def hasReached (t target : Word) : Bool := decide ((t - target).toNat < 2 ^ 31)

/-- Time t is in the range from a to b (R132). -/
def inRange (t a b : Word) : Bool := decide ((t - a).toNat ≤ (b - a).toNat)

/-- A condition is TRUE (R133). -/
def condTrue (s : State) (c : Cond) : Bool :=
  match c.kind with
  | .absent => false
  | .timeAt => hasReached s.cues.time c.p
  | .timeIn => inRange s.cues.time c.p c.q
  | .timeOut => !inRange s.cues.time c.p c.q
  | .varEq => (variableAt c.var s &&& c.q) == (c.p &&& c.q)
  | .varNe => (variableAt c.var s &&& c.q) != (c.p &&& c.q)

/-! ## Cue slots -/

/-- A cue slot (R133). -/
def cueSlot (i : Fin 16) (s : State) : CueSlot := s.cues.slots[i]

/-- A cue slot is written. -/
def setCueSlot (i : Fin 16) (v : CueSlot) (s : State) : State :=
  s.setCues { s.cues with slots := s.cues.slots.set i v }

/-- The owner of a cue slot (R133). -/
def cueOwner (i : Fin 16) : Owner := if i.val < 8 then .disc else .player

/-- The cue id of a slot in its owner's space (R133). -/
def cueId (i : Fin 16) : Nat := if i.val < 8 then i.val else i.val - 8

/-- The page that a cue's action names, or none for the kinds that name no page (R142). -/
def cuePage (i : Fin 16) (a : Action) : Option PageRef :=
  match a.kind with
  | .bringUp => some ⟨cueOwner i, Fin.ofNat 32 a.target.toNat⟩
  | .hide => some ⟨cueOwner i, Fin.ofNat 32 a.target.toNat⟩
  | .select => some ⟨cueOwner i, Fin.ofNat 32 a.target.toNat⟩
  | _ => none

/-- A notice of a cue (R142). -/
def cueNotice (kind : NoticeKind) (i : Fin 16) (a : Action) (code : Half) (detail : Word) (flag : Bool)
    (s : State) : State :=
  post kind (some (cueOwner i)) ((cuePage i a).map PageRef.id) (BitVec.ofNat 16 (cueId i)) code detail
    flag s

/-- What carrying out a cue's action leads to: the state, or the code and detail of its OUTCOME_FAULT. -/
inductive CueResult where
  | done (s : State)
  | faulted (code : Half) (detail : Word)
deriving DecidableEq, Repr

/-- A SHOW action (R140). -/
def cueShow (r : PageRef) (s : State) : CueResult :=
  if isMenuPage r s then
    match showEntry r s with
    | none => .faulted outcomeStackFull 0
    | some t => .done t
  else .faulted outcomeBadTarget (BitVec.ofNat 32 r.id.val)

/-- A HIDE action (R140). -/
def cueHide (r : PageRef) (s : State) : CueResult :=
  if isMenuPage r s then .done (startLeaving r s)
  else .faulted outcomeBadTarget (BitVec.ofNat 32 r.id.val)

/-- A SELECT action (R141). -/
def cueSelect (r : PageRef) (button : Word) (s : State) : CueResult :=
  if isMenuPage r s then
    match readySlot r s with
    | none => .faulted outcomeNotReady button
    | some k => .done (selectButton k (button.setWidth 8) s)
  else .faulted outcomeBadTarget (BitVec.ofNat 32 r.id.val)

/-- A cue's action is carried out (R140, R141). -/
def runCueAction (i : Fin 16) (a : Action) (s : State) : CueResult :=
  let r : PageRef := ⟨cueOwner i, Fin.ofNat 32 a.target.toNat⟩
  match a.kind with
  | .bringUp => cueShow r s
  | .hide => cueHide r s
  | .select => cueSelect r a.value s
  | .setvar =>
    if a.target.toNat < 12 then .done (setVariable (Fin.ofNat 16 a.target.toNat) a.value s)
    else .faulted outcomeReadOnly (a.target.setWidth 32)
  | .slide =>
    if slidesRunFor (cueOwner i) s then .done (slideOperation a.target.toNat s)
    else .faulted outcomeNoSlides (a.target.setWidth 32)
  | .nothing => .done s
  | .goto => .done s
  | .call => .done s
  | .goBack => .done s

/-- The CUE_FIRED notice, where the action has REPORT (R139, R142). -/
def reportCue (i : Fin 16) (a : Action) (detail : Word) (s : State) : State :=
  if a.report then cueNotice .cueFired i a a.code detail false s else s

/-- A cue fires: action, report, state (R139). -/
def fireCue (i : Fin 16) (c : CueRecord) (s : State) : State :=
  let s1 := match runCueAction i c.action s with
    | .done t => reportCue i c.action 0 t
    | .faulted code detail =>
      reportCue i c.action 1 (cueNotice .outcomeFault i c.action code detail true s)
  setCueSlot i ⟨if c.repeats then .resting else .fired, some c⟩ s1

/-- A slot takes at most one step in an evaluation (R136). -/
def evaluateCue (s : State) (i : Fin 16) : State :=
  let sl := cueSlot i s
  match sl.cue with
  | none => s
  | some c =>
    match sl.st with
    | .watching =>
      if condTrue s c.level1 then
        if c.level2.kind = .absent then fireCue i c s else setCueSlot i { sl with st := .armed } s
      else s
    | .armed => if condTrue s c.level2 then fireCue i c s else s
    | .resting => if condTrue s c.level1 then s else setCueSlot i { sl with st := .watching } s
    | .fired => s
    | .idle => s

/-- The slots in the order in which they are evaluated, 15 down to 0 (R137). -/
def cueOrder : List (Fin 16) := (List.finRange 16).reverse

/-- The evaluation of all slots (R136, R137). -/
def evaluateCues (s : State) : State := cueOrder.foldl evaluateCue s

/-- What the Cue Unit does at a field start (R130, R136): the time, then the cues while the part is
configured. Key delivery is tried when the evaluation is done (DEDUCED, assumption log 12). -/
def cueField (s : State) : State :=
  let s1 := advanceTime s
  if s1.link.configured then deliverKeys (evaluateCues s1) else s1

/-! ## Segments, deletion, erase (R131, R134, R135, R138) -/

/-- A disc slot that is ARMED, RESTING or FIRED goes back to WATCHING (R138). -/
def rewatch (c : CueSlot) : CueSlot :=
  match c.st with
  | .armed => { c with st := .watching }
  | .resting => { c with st := .watching }
  | .fired => { c with st := .watching }
  | .watching => c
  | .idle => c

/-- A TIME payload reaches the Cue Unit (R131). -/
def takeTime (lane : Owner) (p : List Byte) (s : State) : State :=
  if p.length ≠ 5 then segmentFault lane kindTime faultBadLength 0 0 s
  else
    let slots := if (byteAt p 4).getLsbD 0 then mapWhere (fun i => decide (i < 8)) rewatch s.cues.slots
      else s.cues.slots
    s.setCues { s.cues with time := wordAt p 0, slots := slots }

/-- A CUE payload reaches the Cue Unit (R134, R135). -/
def takeCue (lane : Owner) (p : List Byte) (s : State) : State :=
  match cueFault p with
  | some (code, detail) => segmentFault lane kindCue code ((byteAt p 0).setWidth 16) detail s
  | none =>
    setCueSlot (cueIndex lane (Fin.ofNat 8 (byteAt p 0).toNat)) ⟨.watching, some (parseCue p)⟩ s

/-- DELETE of a cue (R135). -/
def deleteCue (i : Fin 16) (s : State) : State :=
  if (cueSlot i s).st = .idle then s else setCueSlot i ⟨.idle, none⟩ s

/-- The index names a cue slot of the owner (R133). -/
def ownsCue (o : Owner) (i : Nat) : Bool :=
  match o with
  | .disc => decide (i < 8)
  | .player => decide (8 ≤ i)

/-- An owner erase sets the owner's slots to IDLE (R135). -/
def eraseCues (o : Owner) (s : State) : State :=
  s.setCues { s.cues with slots := mapWhere (ownsCue o) (fun _ => ⟨.idle, none⟩) s.cues.slots }

end Sys2Proof.Machine
end

