-- ==== Sys2Proof/Machine/Palettes.lean ====
section
/-! DEFINITION. The Palette Table: PALETTE segments, palette deletion, owner erase (R23 to R26). -/

namespace Sys2Proof.Machine

open Sys2Proof

/-- The records of a PALETTE segment are written into a copy in list order; the last record that names an
index decides (R24). -/
def writeRecords (copy : Vector Colour 256) (rs : List (Byte × Colour)) : Vector Colour 256 :=
  rs.foldl (fun v r => v.set r.1.toNat r.2 r.1.isLt) copy

/-- The palette after an accepted PALETTE segment (R24): the live copy is not touched. -/
def acceptedPalette (rs : List (Byte × Colour)) (p : Palette) : Palette :=
  { p with pending := writeRecords p.pending rs, changed := true }

/-- A PALETTE payload reaches the Palette Table (R24, R35). -/
def takePalette (lane : Owner) (p : List Byte) (s : State) : State :=
  match paletteFault p with
  | some (code, detail) => segmentFault lane kindPalette code ((byteAt p 0).setWidth 16) detail s
  | none =>
    let i := paletteIndex lane (Fin.ofNat 8 (byteAt p 0).toNat)
    raiseRecompose (s.setPals (s.pals.set i (acceptedPalette (paletteRecords p) s.pals[i])))

/-- DELETE of a palette (R26): both copies take the reset entry, at once. -/
def deletePalette (i : Fin 16) (s : State) : State :=
  let s1 := beforeLiveChange s
  raiseRecompose (s1.setPals (s1.pals.set i paletteReset))

/-- The index names a palette of the owner (R23). -/
def ownsPalette (o : Owner) (i : Nat) : Bool :=
  match o with
  | .disc => decide (i < 8)
  | .player => decide (8 ≤ i)

/-- An owner erase does the same to all eight palettes of the owner, with one recompose request (R26). -/
def erasePalettes (o : Owner) (s : State) : State :=
  let s1 := beforeLiveChange s
  raiseRecompose (s1.setPals (mapWhere (ownsPalette o) (fun _ => paletteReset) s1.pals))

end Sys2Proof.Machine
end

