-- ==== Sys2Proof/Machine/Pages.lean ====
section
/-! DEFINITION. Load done, page definitions and deletions, owner erase (R33 to R42, R57, R104, R173, R174,
R186). -/

namespace Sys2Proof.Machine

open Sys2Proof

/-! ## Load done (R57, R104) -/

/-- A held enable change of a button of the loaded page is made (R104 step 1). -/
def makeHeldEnable (k : Fin 6) (held : List (Byte × Bool)) (s : State) (i : Nat) : State :=
  match slotButtonId (slotAt k s) i with
  | none => s
  | some id =>
    match held.find? (fun h => h.1 == id) with
    | none => s
    | some h => changeEnable k i h.2 s

/-- The held enables, in the page's list order (R104 step 1). -/
def makeHeldEnables (k : Fin 6) (held : List (Byte × Bool)) (s : State) : State :=
  (List.range (slotAt k s).buttons.length).foldl (makeHeldEnable k held) s

/-- The return selection held for a page is made and is held no longer (R104 step 2, R105). -/
def makeReturnSel (k : Fin 6) (r : PageRef) (s : State) : State :=
  match s.nav.returnSel.find? (fun x => x.1 == r) with
  | none => s
  | some x => selectIfEnabled k x.2 (dropReturnSel (fun y => y == r) s)

/-- The held SELECT is made (R104 step 3). -/
def makeHeldSelect (k : Fin 6) (held : Option Byte) (s : State) : State :=
  match held with
  | none => s
  | some id => selectButton k id s

/-- The load-done changes of the Navigation Unit (R104), with the changes held for the page of the controller
request where that is this page. -/
def loadDoneChanges (k : Fin 6) (r : PageRef) (asked : Bool) (s : State) : State :=
  if asked then
    let nav := s.nav
    makeHeldSelect k nav.heldSelect
      (makeReturnSel k r (makeHeldEnables k nav.heldEnables (dropHeld s)))
  else makeReturnSel k r s

/-- The working copy is complete and recorded (R56, R57). The load reads the definition as R37 holds it; of a page
that is not defined, which no requester asks for, it would read an empty record (DESIGN CHOICE, assumption log
37). -/
def placeLoaded (k : Fin 6) (r : PageRef) (s : State) : State :=
  let s1 := setSlot k (loadedSlot r (pageDefinition r s) (pageRecord r s) (fieldNow s)) s
  let s2 := setPageEntry r { pageEntry r s1 with slot := some k } s1
  let ours : Bool :=
    match s2.exch.current with
    | none => false
    | some t => t.slot == k && t.stage == .load
  s2.setExch { s2.exch with
    ctrlReq := if s2.exch.ctrlReq = some r then none else s2.exch.ctrlReq
    current := if ours then none else s2.exch.current }

/-- Load done of a page in a slot, handed on to the other blocks (R57, DEDUCED, assumption log 13). -/
def finishLoad (k : Fin 6) (r : PageRef) (s : State) : State :=
  let asked := s.exch.ctrlReq == some r
  let s1 := loadDoneChanges k r asked (placeLoaded k r s)
  let s2 := raiseRecompose (stackLoaded r s1)
  deliverKeys (takeUp (sequencerLoaded r s2))

/-- Load done of a slot (R57); a slot that is not LOADING has none. -/
def completeLoad (k : Fin 6) (s : State) : State :=
  let sl := slotAt k s
  match sl.page with
  | none => s
  | some r => if sl.st = .loading then finishLoad k r s else s

/-! ## Definition and redefinition (R33 to R40) -/

/-- The staged payload is written into the page image (R39, R40 step 1). -/
def writeImage (r : PageRef) (p : List Byte) (s : State) : State :=
  s.setMem (s.mem.writeBytes (imageAddr r) p)

/-- The directory entry after a definition is accepted (R39, R40): a resident slot stays. -/
def acceptedEntry (d : PageDef) (len : Nat) (e : PageEntry) : PageEntry :=
  { e with defined := true, kind := d.kind, len := len, saved := false }

/-- AUTO_SHOW asks for a SHOW in mode PLAIN (R39); a full stack is reported (R68). -/
def autoShowPage (r : PageRef) (s : State) : State :=
  (showEntry r s).getD
    (post .outcomeFault (some r.owner) (some r.id) noIndex outcomeStackFull 0 false s)

/-- A change of kind removes the page's entry at once (R81). -/
def stackRedefined (r : PageRef) (former : PageKind) (s : State) : State :=
  if (pageEntry r s).kind = former then s else removeEntry r (some hiddenRemoved) s

/-- A page is defined for the first time (R39). -/
def definePage (r : PageRef) (p : List Byte) (s : State) : State :=
  let d := parsePage p
  let s1 := setPageEntry r { acceptedEntry d p.length (pageEntry r s) with slot := none }
    (writeImage r p s)
  if d.autoShow ∧ d.kind = .menu then autoShowPage r s1 else s1

/-- A page is redefined (R40). -/
def redefinePage (r : PageRef) (p : List Byte) (s : State) : State :=
  let d := parsePage p
  let former := (pageEntry r s).kind
  let s1 := setPageEntry r (acceptedEntry d p.length (pageEntry r s)) (writeImage r p s)
  let s2 := dropReturnSel (fun x => x == r) (exchangeRedefined r s1)
  let s3 := stackRedefined r former s2
  let s4 := if d.autoShow ∧ d.kind = .menu ∧ entryOf r s3 = none then autoShowPage r s3 else s3
  sequencerPageChanged r s4

/-- A PAGE payload reaches the Page Directory (R33 to R40). -/
def takePage (lane : Owner) (p : List Byte) (s : State) : State :=
  match pageFault lane p with
  | some (code, detail) => segmentFault lane kindPage code ((byteAt p 0).setWidth 16) detail s
  | none =>
    let r : PageRef := ⟨lane, Fin.ofNat 32 (byteAt p 0).toNat⟩
    deliverKeys (if (pageEntry r s).defined then redefinePage r p s else definePage r p s)

/-! ## Deletion (R41, R60, R81) -/

/-- DELETE of a page (R41). -/
def deletePage (r : PageRef) (s : State) : State :=
  if (pageEntry r s).defined then
    let s1 := setPageEntry r { pageEntry r s with defined := false, saved := false, len := 0 } s
    let s2 := takeUp (dropReturnSel (fun x => x == r) (exchangeDrop (fun x => x == r) s1))
    let s3 := setPageEntry r { pageEntry r s2 with slot := none } s2
    deliverKeys (sequencerPageChanged r (removeEntry r (some hiddenRemoved) s3))
  else s

/-! ## Owner erase (R42, R61, R82, R111, R126, R173, R186) -/

/-- The index names a directory entry of the owner (R36). -/
def ownsPage (o : Owner) (i : Nat) : Bool :=
  match o with
  | .disc => decide (i < 32)
  | .player => decide (32 ≤ i)

/-- The owner's directory entries take their reset values (R42). -/
def erasePageEntries (o : Owner) (s : State) : State :=
  s.setPages (mapWhere (ownsPage o) (fun _ => pageEntryReset) s.pages)

/-- The pages of an owner are erased: directory, exchange, stack, Sequencer, navigation (R42, R61, R82, R111,
R126; DESIGN CHOICE, assumption log 14). -/
def erasePages (o : Owner) (s : State) : State :=
  let mine (r : PageRef) : Bool := r.owner == o
  let s1 := dropReturnSel mine (exchangeDrop mine s)
  handOn (takeUp (eraseSlides o (eraseStack o (erasePageEntries o s1))))

/-- An owner erase as one event (R173, R186). -/
def eraseOwner (o : Owner) (s : State) : State :=
  deliverKeys (eraseCues o (erasePages o (erasePalettes o (eraseObjects o s))))

/-! ## EDITION and DELETE (R173, R174) -/

/-- An EDITION payload reaches the Segment Receiver (R173). -/
def takeEdition (lane : Owner) (p : List Byte) (s : State) : State :=
  if p.length ≠ 2 then segmentFault lane kindEdition faultBadLength 0 p.length s
  else eraseOwner .disc (s.setRecv { s.recv with edition := halfAt p 0 })

/-- The id that a DELETE fault carries: as read, 0 when the payload is too short to hold it (R174). -/
def deleteIdField (p : List Byte) : Half := if 3 ≤ p.length then halfAt p 1 else 0

/-- An accepted DELETE is handed to the block of its item kind (R174). -/
def deleteItem (lane : Owner) (item : Byte) (id : Nat) (s : State) : State :=
  if item = kindObject then
    match objectIndex lane id with
    | none => s
    | some i => deleteObject i s
  else if item = kindPalette then deletePalette (paletteIndex lane (Fin.ofNat 8 id)) s
  else if item = kindPage then deletePage ⟨lane, Fin.ofNat 32 id⟩ s
  else if item = kindSlideList then deleteList lane (Fin.ofNat 2 id) s
  else if item = kindCue then deleteCue (cueIndex lane (Fin.ofNat 8 id)) s
  else s

/-- A DELETE payload reaches the Segment Receiver (R174). -/
def takeDelete (lane : Owner) (p : List Byte) (s : State) : State :=
  match deleteFault lane p with
  | some (code, detail) => segmentFault lane kindDelete code (deleteIdField p) detail s
  | none => deleteItem lane (byteAt p 0) (halfAt p 1).toNat s

end Sys2Proof.Machine
end

