-- ==== Sys2Proof/Machine/Lanes.lean ====
section
/-! DEFINITION. The Stream Port, the two lanes, the relay buffer and the arbitration between the lanes (R164 to
R172). -/

namespace Sys2Proof.Machine

open Sys2Proof

/-! ## Stream Port (R164) -/

/-- The size of the FIFO (R164). -/
def fifoSize : Nat := 4096

/-- The count at which HOLD turns on (R164). -/
def holdOnCount : Nat := 3072

/-- The count at which HOLD turns off (R164). -/
def holdOffCount : Nat := 1024

/-- A byte joins the tail of the FIFO (R164). -/
def joinByte (b : Byte) (p : StreamPort) : StreamPort :=
  let fifo := p.fifo ++ [b]
  ⟨fifo, p.hold || decide (holdOnCount ≤ fifo.length)⟩

/-- The FIFO after its head has been taken (R164). -/
def takeByte (rest : List Byte) (p : StreamPort) : StreamPort :=
  ⟨rest, p.hold && !decide (rest.length ≤ holdOffCount)⟩

/-! ## Segments handed to their owners (R167, R171) -/

/-- A whole segment reaches the block that owns its kind (R167). -/
def handSegment (lane : Owner) (kind : Byte) (p : List Byte) (s : State) : State :=
  if kind = kindEdition then takeEdition lane p s
  else if kind = kindTime then takeTime lane p s
  else if kind = kindPalette then takePalette lane p s
  else if kind = kindObject then takePart lane p s
  else if kind = kindPage then takePage lane p s
  else if kind = kindSlideList then takeSlideList lane p s
  else if kind = kindCue then takeCue lane p s
  else if kind = kindDelete then takeDelete lane p s
  else s

/-- A SEGMENT_FAULT of the receiver: id 0, detail the stated length (R168). -/
def receiverFault (lane : Owner) (kind code : Byte) (len : Nat) (s : State) : State :=
  segmentFault lane kind code 0 len s

/-- A whole segment is judged and handed over as one event (R168, R171). -/
def wholeSegment (lane : Owner) (kind : Byte) (p : List Byte) (s : State) : State :=
  match headerFault lane kind p.length with
  | some code => receiverFault lane kind code p.length s
  | none => handSegment lane kind p s

/-! ## The DISC lane (R166 to R168) -/

/-- The parse state of the DISC lane is written. -/
def setLane (l : LaneState) (s : State) : State := s.setRecv { s.recv with disc := l }

/-- The lane looks for a marker with nothing remembered. -/
def laneIdle : LaneState := .hunt false

/-- The stated length of a header (R166). -/
def headerLength (got : List Byte) : Nat := (halfAt got 1).toNat

/-- The DISC lane holds a pending start: a complete header (R166). -/
def discPending (s : State) : Bool :=
  match s.recv.disc with
  | .header got => decide (3 ≤ got.length)
  | _ => false

/-- The receiver is free: no segment is being served (R172). -/
def receiverFree (s : State) : Bool :=
  match s.recv.disc with
  | .payload _ _ _ _ _ => false
  | .skip _ _ _ _ => false
  | _ => true

/-- The end of a payload on the DISC lane: the owner acts, the lane returns to HUNT (R167). The data of an OBJECT
part has been handed over already; LAST completes the object (R12). -/
def endPayload (kind : Byte) (got : List Byte) (part : Option PartInFlight) (s : State) : State :=
  let s1 :=
    match part with
    | some f => if f.last then completeObject f.entry s else s
    | none => if kind = kindObject then s else handSegment .disc kind got s
  setLane laneIdle s1

/-- The end of a skip on the DISC lane, where BAD_KIND is posted (R167, R168). -/
def endSkip (kind : Byte) (len : Nat) (badKind : Bool) (s : State) : State :=
  setLane laneIdle (if badKind then receiverFault .disc kind faultBadKind len s else s)

/-- The lane goes on in PAYLOAD, or the segment ends with its last byte (R167). -/
def inPayload (kind : Byte) (len left : Nat) (got : List Byte) (part : Option PartInFlight) (s : State) :
    State :=
  if left = 0 then endPayload kind got part s else setLane (.payload kind len left got part) s

/-- The lane goes on in SKIP, or the segment ends (R167). -/
def inSkip (kind : Byte) (len left : Nat) (badKind : Bool) (s : State) : State :=
  if left = 0 then endSkip kind len badKind s else setLane (.skip kind len left badKind) s

/-- The receiver serves the DISC lane: its header is judged (R167, R168, R172). -/
def serveDisc (got : List Byte) (s : State) : State :=
  let kind := byteAt got 0
  let len := headerLength got
  let s1 := s.setRecv { s.recv with lastServed := .disc }
  match headerFault .disc kind len with
  | none => inPayload kind len len [] none s1
  | some code =>
    if code = faultBadKind then inSkip kind len len true s1
    else inSkip kind len len false (receiverFault .disc kind code len s1)

/-- The receiver serves the PLAYER lane as one event (R171, R172). -/
def servePlayer (s : State) : State :=
  let r := s.relay
  let s1 := s.setRecv { s.recv with lastServed := .player }
  (wholeSegment .player r.kind r.data s1).setRelay relayReset

/-- The header bytes of the DISC lane's pending start. -/
def pendingHeader (s : State) : List Byte :=
  match s.recv.disc with
  | .header got => got
  | _ => []

/-- The free receiver serves one lane with a pending start: with both pending, the lane that was not served last
(R172). -/
def serveOne (s : State) : State :=
  if !receiverFree s then s
  else if discPending s ∧ (s.relay.st ≠ .complete ∨ s.recv.lastServed = .player) then
    serveDisc (pendingHeader s) s
  else if s.relay.st = .complete then servePlayer s
  else s

/-- Pending starts are served as long as the receiver is free: each lane can hold one (R172). (DEDUCED,
assumption log 2.) -/
def serve (s : State) : State := serveOne (serveOne s)

/-- A byte of an OBJECT payload (R167, R168): the bytes up to the fixed fields are held back; then the part begins;
then each byte goes to the entry. -/
def objectByte (len left : Nat) (got : List Byte) (part : Option PartInFlight) (b : Byte) (s : State) :
    State :=
  match part with
  | some f => inPayload kindObject len left got part (feedByte f.entry b s)
  | none =>
    let held := got ++ [b]
    let first := (byteAt held 2).getLsbD 0
    if held.length = 3 ∧ first = true ∧ len < 12 then
      inSkip kindObject len left false (receiverFault .disc kindObject faultBadLength len s)
    else if 3 ≤ held.length ∧ held.length = partFixed first then
      let h := parsePart held
      match beginPart .disc h s with
      | (s1, none) => inSkip kindObject len left false s1
      | (s1, some i) => inPayload kindObject len left held (some ⟨i, h.last⟩) s1
    else inPayload kindObject len left held none s

/-- One byte of a payload (R167). -/
def payloadByte (kind : Byte) (len left : Nat) (got : List Byte) (part : Option PartInFlight) (b : Byte)
    (s : State) : State :=
  if kind = kindObject then objectByte len (left - 1) got part b s
  else inPayload kind len (left - 1) (got ++ [b]) part s

/-- One byte in HUNT (R166). -/
def huntByte (marker : Bool) (b : Byte) : LaneState :=
  if b = 0x3C ∧ marker = true then .header [] else .hunt (b == 0xC3)

/-- The lane takes a byte (R166, R167). -/
def laneByte (b : Byte) (s : State) : State :=
  match s.recv.disc with
  | .hunt marker => setLane (huntByte marker b) s
  | .header got => setLane (.header (got ++ [b])) s
  | .payload kind len left got part => payloadByte kind len left got part b s
  | .skip kind len left badKind => inSkip kind len (left - 1) badKind s

/-- The DISC lane takes the head of the FIFO, unless a start is pending or the FIFO is empty; the receiver then
serves what it can (R166, R167, R172). -/
def takeLaneByte (s : State) : State :=
  if discPending s then s
  else
    match s.stream.fifo with
    | [] => s
    | b :: rest => serve (laneByte b (s.setStream (takeByte rest s.stream)))

/-- The DISC lane abandons what it holds (R165): the Object Store is told of a part in flight (R13). -/
def abandonLane (s : State) : State :=
  let s1 :=
    match s.recv.disc with
    | .payload _ _ _ _ (some f) => overrunPart f.entry s
    | _ => s
  setLane laneIdle s1

/-- An overrun (R165). -/
def overrun (s : State) : State :=
  let s1 := (setStreamOverrun s).setStream ⟨[], false⟩
  serve (abandonLane s1)

/-- A byte is presented to the Stream Port (R164, R165). -/
def presentByte (b : Byte) (s : State) : State :=
  if !s.link.configured then s
  else if s.stream.fifo.length < fifoSize then s.setStream (joinByte b s.stream)
  else overrun s

/-! ## The relay buffer (R169, R170) -/

/-- SEG_OPEN opens a segment in the EMPTY buffer (R169). -/
def openSegment (kind : Byte) (len : Half) (s : State) : State :=
  serve (s.setRelay ⟨if len = 0 then .complete else .filling, kind, len, []⟩)

/-- SEG_DATA appends bytes up to the stated length (R170). -/
def appendSegment (bytes : List Byte) (s : State) : State :=
  let r := s.relay
  let data := r.data ++ bytes.take (r.len.toNat - r.data.length)
  let full := decide (r.len.toNat ≤ data.length)
  serve (s.setRelay ⟨if full then .complete else .filling, r.kind, r.len, data⟩)

end Sys2Proof.Machine
end

