-- ==== Sys2Proof/Machine/Link.lean ====
section
/-! DEFINITION. The Control Link: command frames and their replies, what each command does, the answers of the read
frames (R175 to R187, R190, R191). -/

namespace Sys2Proof.Machine

open Sys2Proof

/-! ## Reply codes (R190) -/

/-- The number of a reply code (R190). -/
def replyNumber (c : ReplyCode) : Byte :=
  match c with
  | .ok => 0x00
  | .pending => 0x01
  | .notConfigured => 0x02
  | .badCommand => 0x03
  | .badLength => 0x04
  | .badArgument => 0x05
  | .notDefined => 0x06
  | .stackFull => 0x07
  | .queueFull => 0x08
  | .wrongState => 0x09
  | .empty => 0x0A
  | .busy => 0x0B
  | .resetDone => 0x0C

/-! ## Answers of the read frames (R179, R180, R191) -/

/-- The number of a notice kind (R191). -/
def noticeKindNumber (k : NoticeKind) : BitVec 5 :=
  match k with
  | .actionReport => 1
  | .pageShown => 2
  | .pageHidden => 3
  | .keyUnused => 4
  | .outcomeFault => 5
  | .returnEmpty => 6
  | .stackWrap => 7
  | .cueFired => 8
  | .slideAdvanced => 9
  | .slideEnd => 10
  | .slideStopped => 11
  | .objectReady => 12
  | .objectFault => 13
  | .segmentFault => 14

/-- The owner bit of a notice record; free where it names no owner (R191, DESIGN CHOICE, assumption log 11). -/
def ownerBit (o : Option Owner) : Bool :=
  match o with
  | none => Config.noOwnerBit
  | some .disc => false
  | some .player => true

/-- The 16 bytes of a notice record (R191). -/
def noticeBytes (n : Notice) : List Byte :=
  [BitVec.ofBool (ownerBit n.owner) ++ (BitVec.ofBool n.owner.isNone ++
      (BitVec.ofBool n.flag ++ noticeKindNumber n.kind)),
    match n.page with
    | none => 0xFF
    | some p => BitVec.ofNat 8 p.val] ++
  halfBytes n.index ++ halfBytes n.code ++ wordBytes n.detail ++
  halfBytes (n.field.setWidth 16) ++ wordBytes n.time

/-- The READ_REPLY answer (R179, R190). -/
def replyAnswer (s : State) : List Byte :=
  match s.link.processing with
  | some cmd => [replyNumber .pending, cmd, 0]
  | none =>
    let r := s.link.reply
    [replyNumber r.code, r.cmd, BitVec.ofNat 8 r.data.length] ++ r.data

/-- The code of a Sequencer state (R190). -/
def seqStateCode (st : SeqState) : Byte :=
  match st with
  | .stopped => 0
  | .waiting => 1
  | .holding => 2
  | .transitioning => 3
  | .paused => 4
  | .ended => 5

/-- A flag as a byte. -/
def flagByte (b : Bool) : Byte := if b then 1 else 0

/-- The focus owner and page of the status record (R180, R190). -/
def focusBytes (s : State) : List Byte :=
  match focusEntry s with
  | none => [0xFF, 0xFF]
  | some e => [ownerCode e.page.owner, BitVec.ofNat 8 e.page.id.val]

/-- The format of the status record (R180, R190). -/
def formatByte (s : State) : Byte :=
  match s.comp.format with
  | none => 0xFF
  | some f => if s.link.configured then formatCode f else 0xFF

/-- The READ_STATUS answer: OK and the 25 bytes of the status record (R180, R190). -/
def statusAnswer (s : State) : List Byte :=
  [replyNumber .ok, flagByte s.link.configured, formatByte s, conditionMask s.link.conds,
    BitVec.ofNat 8 s.link.notices.length, BitVec.ofNat 8 s.nav.keys.length,
    BitVec.ofNat 8 s.stack.entries.length] ++ focusBytes s ++
  [seqStateCode s.seqr.st, ownerCode s.seqr.owner, BitVec.ofNat 8 s.seqr.list.val,
    BitVec.ofNat 8 s.seqr.index] ++
  halfBytes (BitVec.ofNat 16 (freeGranules s)) ++ halfBytes s.recv.edition ++
  wordBytes s.disp.counter ++ wordBytes s.cues.time ++ [flagByte s.cues.running]

/-- The READ_NOTICE answer (R179). -/
def noticeAnswer (s : State) : List Byte :=
  match s.link.notices with
  | [] => [replyNumber .empty]
  | n :: _ => replyNumber .ok :: noticeBytes n

/-- The answer that a read frame with this code byte shifts out. -/
def readAnswer (cmd : Byte) (s : State) : List Byte :=
  if cmd = 0x01 then replyAnswer s else if cmd = 0x02 then statusAnswer s else noticeAnswer s

/-! ## Frame assembly (R175) -/

/-- Select falls: a new frame is assembled (R175). -/
def selectFalls (s : State) : State :=
  s.setLink { s.link with frameBytes := [], frameIgnored := false }

/-- What LSDO has carried with the byte that now comes in (R175, R179): the link byte with the code byte; then 0x00,
but in a read frame the answer after the length byte, and 0x00 when it is out. What a read frame carries with its
length byte is not stated (a free value, DESIGN CHOICE, assumption log 38). -/
def shiftOut (s : State) : Wire :=
  match s.link.frameBytes with
  | [] => ⟨linkByte s, none, []⟩
  | [cmd] => { s.link.wire with lengthByte := some (if isReadCode cmd then Config.readLengthByte else 0) }
  | cmd :: _ :: rest =>
    { s.link.wire with
      tail := s.link.wire.tail ++ [if isReadCode cmd then (readAnswer cmd s).getD rest.length 0 else 0] }

/-- A byte is received (R175): it joins the assembly, unless the frame has been discarded. -/
def receiveByte (s : State) (b : Byte) : State :=
  if s.link.frameIgnored then s
  else s.setLink { s.link with frameBytes := s.link.frameBytes ++ [b], wire := shiftOut s }

/-- Select falls and these bytes are received (R175). -/
def receiveFrame (bytes : List Byte) (s : State) : State := bytes.foldl receiveByte (selectFalls s)

/-- Select rises: no frame is in assembly any more (R175, R176). -/
def selectRises (s : State) : State :=
  s.setLink { s.link with frameBytes := [], frameIgnored := false }

/-- A frame crosses the link from select falling to select rising. One row is one whole frame. (DESIGN CHOICE,
assumption log 9.) -/
def frameCrosses (bytes : List Byte) (s : State) : State := selectRises (receiveFrame bytes s)

/-! ## Commands and replies (R176 to R178) -/

/-- What carrying out a command gives: the state, its reply code, its answer data. -/
structure Answer where
  state : State
  code : ReplyCode
  data : List Byte
deriving DecidableEq, Repr

/-- A command carried out with reply OK and no data. -/
def done (s : State) : Answer := ⟨s, .ok, []⟩

/-- A command refused: nothing changes. -/
def refusedWith (code : ReplyCode) (s : State) : Answer := ⟨s, code, []⟩

/-- A reply is placed (R178): the slot is replaced, no command is in processing any more. -/
def placeReply (cmd : Byte) (code : ReplyCode) (data : List Byte) (s : State) : State :=
  s.setLink { s.link with processing := none, reply := ⟨cmd, code, data, false⟩ }

/-- The commands that are not refused while the part is UNCONFIGURED (R176). -/
def runsUnconfigured (cmd : Byte) : Bool := cmd == 0x00 || cmd == 0x06 || cmd == 0x05

/-- A complete command frame that has the shape, the code and the length R176 asks for: its code byte, its length
byte and its payload cross the link; `body` carries it out and places its reply. -/
def commandFrame (cmd : Byte) (payload : List Byte) (body : State → State) (s : State) : State :=
  if s.resetLow then s
  else
    let s1 := frameCrosses (cmd :: BitVec.ofNat 8 payload.length :: payload) s
    if s1.link.processing.isSome then setLinkOverrun s1
    else if !s1.link.configured && !runsUnconfigured cmd then placeReply cmd .notConfigured [] s1
    else body s1

/-- A command whose reply is placed in the same step (R177, DESIGN CHOICE, assumption log 3). -/
def command (cmd : Byte) (payload : List Byte) (act : State → Answer) : State → State :=
  commandFrame cmd payload (fun s =>
    let a := act s
    placeReply cmd a.code a.data a.state)

/-! ## Resets (R184, R185) -/

/-- The power-on values of every block (R184); the graphics memory, the queue of waiting commands, the model's
own counter, the level of RESET_N and the record of LSDO stay. (DESIGN CHOICE, assumption log 4.) -/
def resetBlocks (s : State) : State :=
  ((((State.reset.setMem s.mem).setPending s.pending).setFresh s.fresh).setResetLow s.resetLow).setLink
    { State.reset.link with wire := s.link.wire }

/-! ## Common arguments (R186) -/

/-- The owner and page arguments of a command; none where one is out of range (R186). -/
def pageArgument (owner page : Byte) : Option PageRef :=
  match decodeOwner owner, pageId? page with
  | some o, some p => some ⟨o, p⟩
  | _, _ => none

/-- A command on a page, refused with BAD_ARGUMENT where the owner or the page id is out of range (R186). -/
def onPage (owner page : Byte) (act : PageRef → State → Answer) (s : State) : Answer :=
  match pageArgument owner page with
  | none => refusedWith .badArgument s
  | some r => act r s

/-- A command on a MENU page: NOT_DEFINED on an undefined page, WRONG_STATE on a SLIDE page (R69, R72, R103,
R109). -/
def onMenuPage (r : PageRef) (act : State → Answer) (s : State) : Answer :=
  if (pageEntry r s).defined = false then refusedWith .notDefined s
  else if (pageEntry r s).kind = .slide then refusedWith .wrongState s
  else act s

/-! ## The commands (R184, R186) -/

/-- CLEAR_CONDITIONS (R182). -/
def doClearConditions (mask : Byte) (s : State) : Answer := done (withConditions (clearMasked mask) s)

/-- SETUP (R129, R153, R164, R184): accepted, it stays in processing until the planes are cleared. -/
def setupBody (format : Byte) (ticks : Half) (s : State) : State :=
  match format? format with
  | none => placeReply 0x06 .badArgument [] s
  | some f =>
    if ticks = 0 then placeReply 0x06 .badArgument [] s
    else
      let s1 := s.setStream (if s.link.configured then s.stream else ⟨s.stream.fifo, false⟩)
      let s2 := s1.setCues { s1.cues with ticks := ticks }
      let s3 := stopScan (composerSetup f s2)
      s3.setLink { s3.link with
        configured := true, processing := some 0x06, reply := { s3.link.reply with pending := true } }

/-- The clearing of a SETUP is done: its reply, OK, is placed (R153, R184). -/
def finishSetup (s : State) : State :=
  if s.comp.clearing then
    let s1 := s.setComp { s.comp with clearing := false }
    if s1.link.processing = some 0x06 then placeReply 0x06 .ok [] s1 else s1
  else s

/-- OUTPUT (R163, R184). -/
def doOutput (value : Byte) (s : State) : Answer :=
  if value = 0 then done (s.setDisp { s.disp with output := false })
  else if value = 1 then
    let s1 := s.setDisp { s.disp with output := true }
    done (if s.disp.output then s1 else raiseRecompose s1)
  else refusedWith .badArgument s

/-- KEY (R83). -/
def doKey (kind : Byte) (s : State) : Answer :=
  match key? kind with
  | none => refusedWith .badArgument s
  | some k =>
    if 8 ≤ s.nav.keys.length then refusedWith .queueFull s
    else done (deliverKeys (s.setNav { s.nav with keys := s.nav.keys ++ [k] }))

/-- The answer of a SHOW: STACK_FULL where the stack has no room (R68). -/
def shownOr (t : Option State) (s : State) : Answer :=
  match t with
  | none => refusedWith .stackFull s
  | some t => done (deliverKeys t)

/-- SHOW (R69, R77, R186): mode 0 PLAIN, mode 1 CALL. -/
def doShow (owner page mode : Byte) (s : State) : Answer :=
  if 1 < mode.toNat then refusedWith .badArgument s
  else
    onPage owner page (fun r =>
      onMenuPage r (fun t => shownOr (if mode = 0 then showEntry r t else showCalling r t) t)) s

/-- HIDE (R72). -/
def doHide (owner page : Byte) (s : State) : Answer :=
  onPage owner page (fun r => onMenuPage r (fun t => done (deliverKeys (startLeaving r t)))) s

/-- HIDE_BAND (R73). -/
def doHideBand (owner : Byte) (s : State) : Answer :=
  match decodeOwner owner with
  | none => refusedWith .badArgument s
  | some o => done (deliverKeys (hideBandEntries o s))

/-- A change asked for a page that is not in a READY slot is held, and the page becomes the controller request;
BUSY where the request names another page (R51, R104). -/
def holdChange (r : PageRef) (change : Navigation → Navigation) (s : State) : Answer :=
  match s.exch.ctrlReq with
  | some x =>
    if x = r then done (s.setNav (change s.nav)) else refusedWith .busy s
  | none =>
    done (takeUp ((s.setNav (change { s.nav with heldEnables := [], heldSelect := none })).setExch
      { s.exch with ctrlReq := some r }))

/-- The held selection is the button of the latest SELECT (R104). -/
def holdSelect (button : Byte) (n : Navigation) : Navigation := { n with heldSelect := some button }

/-- A held enable change replaces an earlier one of the same button (R104). -/
def holdEnable (button : Byte) (enable : Bool) (n : Navigation) : Navigation :=
  { n with heldEnables := n.heldEnables.filter (fun h => h.1 != button) ++ [(button, enable)] }

/-- SELECT (R106). -/
def doSelect (owner page button : Byte) (s : State) : Answer :=
  onPage owner page (fun r =>
    onMenuPage r (fun t =>
      if 64 ≤ button.toNat then refusedWith .badArgument t
      else
        match readySlot r t with
        | some k => done (deliverKeys (selectButton k button t))
        | none => holdChange r (holdSelect button) t)) s

/-- SET_BUTTON (R103). -/
def doSetButton (owner page button enable : Byte) (s : State) : Answer :=
  onPage owner page (fun r =>
    onMenuPage r (fun t =>
      if 64 ≤ button.toNat then refusedWith .badArgument t
      else
        match readySlot r t with
        | some k =>
          match slotButton (slotAt k t) button with
          | none => refusedWith .badArgument t
          | some i => done (deliverKeys (changeEnable k i (enable != 0) t))
        | none => holdChange r (holdEnable button (enable != 0)) t)) s

/-- SET_TIMEOUT (R109). (DEDUCED, assumption log 17.) -/
def doSetTimeout (owner page : Byte) (value : Half) (restart : Byte) (s : State) : Answer :=
  onPage owner page (fun r =>
    onMenuPage r (fun t =>
      match readySlot r t with
      | none => refusedWith .wrongState t
      | some k =>
        let sl := slotAt k t
        done (setSlot k
          (if restart = 0 then { sl with latch := value, mark := sl.mark || !timerCounts k t }
          else { sl with latch := value, timer := value, mark := false }) t))) s

/-- The code of an entry state (R190). -/
def entryStateCode (st : EntryState) : Byte :=
  match st with
  | .entering => 0
  | .shown => 1
  | .leaving => 2

/-- The code of a button state (R190). -/
def buttonStateCode (st : ButtonState) : Byte :=
  match st with
  | .disabled => 0
  | .normal => 1
  | .selected => 2
  | .activated => 3

/-- The id and state of each button in list order (R187, R190). -/
def buttonBytes (sl : Slot) : List Byte :=
  match sl.defn with
  | none => []
  | some d => (List.zipWith (fun b l => [b.id, buttonStateCode l.st]) d.buttons sl.buttons).flatten

/-- The answer data of READ_PAGE (R187, R190). -/
def readPageData (r : PageRef) (k : Fin 6) (s : State) : List Byte :=
  let sl := slotAt k s
  let place : List Byte :=
    match positionOf r s, entryOf r s with
    | some i, some e => [BitVec.ofNat 8 i, entryStateCode e.st]
    | _, _ => [0xFF, 0xFF]
  place ++ [sl.selection.getD 0xFF] ++ halfBytes sl.timer ++ halfBytes sl.latch ++
    [BitVec.ofNat 8 sl.buttons.length] ++ buttonBytes sl

/-- READ_PAGE (R187). -/
def doReadPage (owner page : Byte) (s : State) : Answer :=
  onPage owner page (fun r t =>
    if (pageEntry r t).defined = false then refusedWith .notDefined t
    else
      match readySlot r t with
      | none => refusedWith .wrongState t
      | some k => ⟨t, .ok, readPageData r k t⟩) s

/-- SET_VAR (R110). -/
def doSetVar (num : Byte) (value : Word) (s : State) : Answer :=
  if 16 ≤ num.toNat then refusedWith .badArgument s
  else done (setVariable (Fin.ofNat 16 num.toNat) value s)

/-- GET_VAR (R110). -/
def doGetVar (num : Byte) (s : State) : Answer :=
  if 16 ≤ num.toNat then refusedWith .badArgument s
  else ⟨s, .ok, wordBytes (variableAt (Fin.ofNat 16 num.toNat) s)⟩

/-- SLIDE_START (R116). -/
def doSlideStart (owner list index : Byte) (s : State) : Answer :=
  match decodeOwner owner with
  | none => refusedWith .badArgument s
  | some o =>
    if 2 ≤ list.toNat then refusedWith .badArgument s
    else
      match slideList o (Fin.ofNat 2 list.toNat) s with
      | none => refusedWith .notDefined s
      | some l =>
        if l.entries.length ≤ index.toNat then refusedWith .badArgument s
        else done (startShow o (Fin.ofNat 2 list.toNat) index.toNat s)

/-- SLIDE_STOP (R125). -/
def doSlideStop (s : State) : Answer :=
  done (if s.seqr.st = .stopped then s else stopShow stoppedCommand s)

/-- A show that can be paused or resumed: neither STOPPED nor ENDED (R123). -/
def pausable (s : State) : Bool := s.seqr.st != .stopped && s.seqr.st != .ended

/-- SLIDE_PAUSE (R123). -/
def doSlidePause (s : State) : Answer :=
  if pausable s then done (pauseShow s) else refusedWith .wrongState s

/-- SLIDE_RESUME (R123). -/
def doSlideResume (s : State) : Answer :=
  if pausable s then done (resumeShow s) else refusedWith .wrongState s

/-- SLIDE_STEP (R122): 0x01 is +1, 0xFF is -1. -/
def doSlideStep (step : Byte) (s : State) : Answer :=
  if step ≠ 0x01 ∧ step ≠ 0xFF then refusedWith .badArgument s
  else if s.seqr.st = .stopped then refusedWith .wrongState s
  else done (stepShow (step == 0xFF) s)

/-- SET_HOLD (R124). -/
def doSetHold (value : Half) (restart : Byte) (s : State) : Answer :=
  if s.seqr.st = .stopped then refusedWith .wrongState s
  else
    done (updateSeq (fun q =>
      if restart = 0 then { q with latch := value, latchMark := q.latchMark || q.st == .paused }
      else { q with latch := value, counter := value, latchMark := false }) s)

/-- SEG_OPEN (R169). -/
def doSegOpen (kind : Byte) (length : Half) (s : State) : Answer :=
  if s.relay.st ≠ .empty then refusedWith .busy s
  else if 4096 < length.toNat then refusedWith .badLength s
  else done (openSegment kind length s)

/-- SEG_DATA (R170). -/
def doSegData (bytes : List Byte) (s : State) : Answer :=
  if s.relay.st ≠ .filling then refusedWith .wrongState s
  else
    ⟨appendSegment bytes s,
      if s.relay.len.toNat < s.relay.data.length + bytes.length then .badLength else .ok, []⟩

/-- ERASE_PLAYER (R186). -/
def doErasePlayer (s : State) : Answer := done (eraseOwner .player (s.setRelay relayReset))

/-! ## Read frames (R179) -/

/-- A read frame of n bytes (R179): its code byte, and bytes that are not used. A frame without bytes has no effect
(R175). -/
def readFrame (cmd : Byte) (n : Nat) (s : State) : State :=
  if s.resetLow ∨ n = 0 then s else frameCrosses (cmd :: List.replicate (n - 1) 0) s

/-- How many bytes a READ_NOTICE frame has when the last byte of the notice record has been shifted out: the code
byte, the length byte, and 17 bytes of answer (R179). -/
def noticeFrameBytes : Nat := 19

/-- READ_NOTICE removes the notice it has answered in full (R179). -/
def readNoticeFrame (n : Nat) (s : State) : State :=
  let s1 := readFrame 0x03 n s
  if s.resetLow = false ∧ noticeFrameBytes ≤ n then
    s1.setLink { s1.link with notices := s1.link.notices.tail }
  else s1

/-! ## Frames that are no commands (R175, R176) -/

/-- 5 ms have passed without a byte (R175): the frame is discarded, LINK_TIMEOUT is set, later bytes are ignored
until select rises. (DESIGN CHOICE, assumption log 36.) A READ_NOTICE frame that times out keeps its notice at the head
of the queue, also where the notice's last byte has gone out already: R175's sentence is followed, where R179's first
one would remove it (DESIGN CHOICE, assumption log 40). -/
def timeOutFrame (bytes : List Byte) (s : State) : State :=
  if s.resetLow then s
  else
    let s1 := receiveFrame bytes s
    setLinkTimeout (s1.setLink { s1.link with frameBytes := [], frameIgnored := true })

/-- The reply of a frame that fails the checks of R176 before its configuration: frame shape, code, payload
length. -/
def badFrameCode (frame : List Byte) : ReplyCode :=
  if !frameShapeOk frame then .badLength
  else if !isCommandCode (byteAt frame 0) then .badCommand
  else .badLength

/-- A complete command frame that R176 refuses before its configuration check; it is dropped while a command is in
processing (R177). -/
def badFrame (frame : List Byte) (s : State) : State :=
  if s.resetLow then s
  else
    let s1 := frameCrosses frame s
    if s1.link.processing.isSome then setLinkOverrun s1
    else placeReply (byteAt frame 0) (badFrameCode frame) [] s1

end Sys2Proof.Machine
end

