-- ==== Sys2Proof/Machine/Field.lean ====
section
/-! DEFINITION. What each command does to the machine outside its queue, and the field start (R143) with the events
that fall due at one (R65, R94, R95, R107, R108, R119, R121, R147; DESIGN CHOICE, assumption log 1). -/

namespace Sys2Proof.Machine

open Sys2Proof

/-- The outcome of a command: the block always goes on. -/
abbrev Result := Host.Outcome State Fault Refusal

/-- While RESET_N is low only POWER_ON, RESET_N and RESET_N_RELEASE change the part (R175, R185, assumption log
15). (DESIGN CHOICE, assumption log 15.) -/
def awake (f : State → State) (s : State) : State := if s.resetLow then s else f s

/-! ## The sub-blocks at a field start -/

/-- What a sub-block does at the present field start. -/
def runBlock (b : FieldBlock) (s : State) : State :=
  match b with
  | .pageStack => deliverKeys (stackField s)
  | .navigation => navigationField s
  | .sequencer => sequencerField s
  | .cues => cueField s
  | .composer => composerField s

/-- A sub-block acts at the present field start if it has not acted yet (DESIGN CHOICE, assumption log 1). -/
def actBlock (s : State) (b : FieldBlock) : State :=
  if s.due.contains b then runBlock b (s.setDue (s.due.erase b)) else s

/-- The sub-blocks that act at a field start, besides the Display Port. -/
def allBlocks : List FieldBlock := [.pageStack, .navigation, .sequencer, .cues, .composer]

/-- The Display Port counts a field start (R143), and every other block has to act at it. -/
def countField (s : State) : State :=
  (s.setDisp { s.disp with counter := s.disp.counter + 1 }).setDue allBlocks

/-- The sub-block whose field-start work a row is an event of; none for the other rows. -/
def eventBlock (i : Instr) : Option FieldBlock :=
  match i with
  | .fadeInEnd => some .pageStack
  | .fadeOutEnd => some .pageStack
  | .activationComplete => some .navigation
  | .pageTimeoutExpiry => some .navigation
  | .holdRunOut => some .sequencer
  | .transitionEnd => some .sequencer
  | .key _ => none
  | .showPage _ _ _ => none
  | .hidePage _ _ => none
  | .hideBand _ => none
  | .select _ _ _ => none
  | .setButton _ _ _ _ => none
  | .setTimeout _ _ _ _ => none
  | .readPage _ _ => none
  | .setVar _ _ => none
  | .getVar _ => none
  | .slideStart _ _ _ => none
  | .slideStop => none
  | .slidePause => none
  | .slideResume => none
  | .slideStep _ => none
  | .setHold _ _ => none
  | .keyDelivery => none
  | .loadDone _ => none
  | .powerOn => none
  | .resetN => none
  | .fieldStart _ => none
  | .passComplete => none
  | .saveDone => none
  | .streamByte _ => none
  | .discLaneByte => none
  | .segmentServe => none
  | .edition _ _ => none
  | .time _ _ => none
  | .palette _ _ => none
  | .objectFirstPart _ _ _ _ _ _ _ _ => none
  | .objectPart _ _ _ _ _ => none
  | .page _ _ => none
  | .slidelist _ _ => none
  | .cue _ _ => none
  | .delete _ _ => none
  | .linkTimeout _ => none
  | .unknownCommand _ => none
  | .readReply _ => none
  | .readStatus _ => none
  | .readNotice _ => none
  | .nop => none
  | .clearConditions _ => none
  | .reset => none
  | .setup _ _ => none
  | .setupClearDone => none
  | .output _ => none
  | .timeRun => none
  | .timeHold => none
  | .segOpen _ _ => none
  | .segData _ => none
  | .erasePlayer => none
  | .resetNRelease => none

/-- The sub-block whose event stands next in the queue of commands. -/
def nextEvent (s : State) : Option FieldBlock := s.pending.head?.bind eventBlock

/-- The sub-blocks whose field-start work has rows of its own. -/
def eventBlocks : List FieldBlock := [.pageStack, .navigation, .sequencer]

/-- The field start is over for every sub-block, unless an event of it stands next in the queue: no other command runs
before the blocks have acted (R65, R94, R107, R121, DESIGN CHOICE, assumption log 1). -/
def settleField (s : State) : State :=
  if (nextEvent s).isSome then s else eventBlocks.foldl actBlock s

/-- A field start with an order of the sub-blocks (R143, DESIGN CHOICE, assumption log 1): what was still due at
the one before acts first; the Cue Unit and the Composer always act; the Display Port decides what it scans out
(R163). (DESIGN CHOICE, assumption log 28.) -/
def fieldStart (order : List FieldBlock) (s : State) : State :=
  let s1 := countField (s.due.foldl actBlock s)
  settleField (decideScan ((order ++ [FieldBlock.cues, FieldBlock.composer]).foldl actBlock s1))

/-! ## Events of a field start as rows of their own -/

/-- The entry that the examination of a field start comes to next: the lowest due one, whichever way it fades
(R65). -/
def nextFade (s : State) : Option Entry :=
  s.stack.entries.find? (fun e => fadeInDue s e || fadeOutDue s e)

/-- The lowest due entry is examined if the test finds it due. -/
def examineNext (test : State → Entry → Bool) (s : State) : State :=
  match nextFade s with
  | none => s
  | some e => if test s e then examineEntry s e.page else s

/-- One fade of the examination from bottom to top, where the Page Stack has still to act at this field start; the
examination is finished unless another fade event stands next (R65, R66, DESIGN CHOICE, assumption log 1). -/
def fadeEvent (test : State → Entry → Bool) (s : State) : State :=
  settleField (
    if s.due.contains .pageStack then
      let s1 := examineNext test s
      if nextEvent s1 = some .pageStack then s1 else actBlock s1 .pageStack
    else s)

/-- The hold of a slot runs out at the present field start (R94). -/
def holdDue (s : State) (k : Fin 6) : Bool :=
  let sl := slotAt k s
  match activatedIndex sl with
  | none => false
  | some i =>
    match sl.buttons[i]? with
    | none => false
    | some b => sl.st == .ready && b.since != fieldNow s && decide (sl.hold ≤ 1)

/-- An activation with a hold of 0 that has not completed stands in a READY slot (R93, DEDUCED, assumption log 2). -/
def holdOver (s : State) (k : Fin 6) : Bool :=
  (slotAt k s).st == .ready && holdRunning (slotAt k s) && (slotAt k s).hold == 0

/-- An activation completes (R95): at the field start at which its hold runs out, or at once where its hold
is 0. -/
def activationEvent (s : State) : State :=
  settleField (
    if s.due.contains .navigation ∧ (allSlots.any (holdDue s)) = true then actBlock s .navigation
    else
      match allSlots.find? (holdOver s) with
      | none => s
      | some k => deliverKeys (completeActivation k s))

/-- The page timeout of the focus runs out at the present field start, once its holds are counted (R107). -/
def timeoutDue (s : State) : Bool :=
  let s1 := allSlots.foldl countHold s
  match focusSlot s1 with
  | none => false
  | some k => timerCounts k s1 && !(slotAt k s1).mark && (slotAt k s1).timer == 1

/-- A page timeout expires (R108) at the field start at which its counter reaches 0. -/
def timeoutEvent (s : State) : State :=
  settleField (if s.due.contains .navigation ∧ timeoutDue s = true then actBlock s .navigation else s)

/-- The slide hold runs out at the present field start (R121). -/
def slideHoldDue (s : State) : Bool :=
  s.seqr.st == .holding && !s.seqr.holdFresh && s.seqr.latch != 0 && s.seqr.counter == 1

/-- A slide hold runs out (R121). -/
def holdRunOutEvent (s : State) : State :=
  settleField (if s.due.contains .sequencer ∧ slideHoldDue s = true then actBlock s .sequencer else s)

/-- A transition has run its length at the present field start (R119, R121). -/
def transitionDue (s : State) : Bool :=
  match s.seqr.trans with
  | none => false
  | some t => s.seqr.st == .transitioning && decide (t.length ≤ fieldsSince (fieldNow s) t.start)

/-- A transition ends at a field start (R119). -/
def transitionEvent (s : State) : State :=
  settleField (if s.due.contains .sequencer ∧ transitionDue s = true then actBlock s .sequencer else s)

/-! ## Rows -/

/-- FIELD_START (R143). -/
def execFieldStart (order : List FieldBlock) (s : State) : Result := .next (awake (fieldStart order) s)

/-- PASS_COMPLETE (R151). -/
def execPassComplete (s : State) : Result := .next (awake completePass s)

/-- FADE_IN_END (R65). -/
def execFadeInEnd (s : State) : Result := .next (awake (fadeEvent fadeInDue) s)

/-- FADE_OUT_END (R65). -/
def execFadeOutEnd (s : State) : Result := .next (awake (fadeEvent fadeOutDue) s)

/-- ACTIVATION_COMPLETE (R95). -/
def execActivationComplete (s : State) : Result := .next (awake activationEvent s)

/-- PAGE_TIMEOUT_EXPIRY (R108). -/
def execPageTimeoutExpiry (s : State) : Result := .next (awake timeoutEvent s)

/-- HOLD_RUN_OUT (R121). -/
def execHoldRunOut (s : State) : Result := .next (awake holdRunOutEvent s)

/-- TRANSITION_END (R119). -/
def execTransitionEnd (s : State) : Result := .next (awake transitionEvent s)

/-- KEY_DELIVERY (R84). -/
def execKeyDelivery (s : State) : Result := .next (awake deliverKeys s)

end Sys2Proof.Machine
end

