-- ==== Sys2Proof/Machine/Power.lean ====
section
/-! DEFINITION. Rows of the pins and of the part's own state: power, RESET_N, RESET, SETUP, OUTPUT, NOP,
CLEAR_CONDITIONS (R175, R182, R184, R185). -/

namespace Sys2Proof.Machine

open Sys2Proof

/-- POWER_ON (R184): every block takes its power-on value. (DESIGN CHOICE, assumption log 30.) -/
def execPowerOn (s : State) : Result := .next (resetBlocks s)

/-- RESET_N goes low (R185): every block takes its power-on value. -/
def execResetN (s : State) : Result := .next ((resetBlocks s).setResetLow true)

/-- RESET_N rises (R175): frames are assembled from the first falling edge of select on. (DESIGN CHOICE,
assumption log 9.) -/
def releaseReset (s : State) : State :=
  if s.resetLow then
    (s.setResetLow false).setLink { s.link with frameBytes := [], frameIgnored := true }
  else s

/-- RESET_N_RELEASE (R175). -/
def execResetNRelease (s : State) : Result := .next (releaseReset s)

/-- What RESET does at the end of its frame (R185): every block takes its power-on value, the reply slot takes
RESET_DONE. -/
def softReset (s : State) : State := placeReply 0x05 .resetDone [] (resetBlocks s)

/-- RESET (R185). -/
def runReset : State → State := commandFrame 0x05 [] softReset

/-- RESET (R185). -/
def execReset (s : State) : Result := .next (runReset s)

/-- SETUP (R184). -/
def runSetup (format : Byte) (ticks : Half) : State → State :=
  commandFrame 0x06 ([format] ++ halfBytes ticks) (setupBody format ticks)

/-- SETUP (R184). -/
def execSetup (format : Byte) (ticks : Half) (s : State) : Result := .next (runSetup format ticks s)

/-- SETUP_CLEAR_DONE (R153). -/
def execSetupClearDone (s : State) : Result := .next (awake finishSetup s)

/-- NOP (R184). -/
def runNop : State → State := command 0x00 [] done

/-- NOP (R184). -/
def execNop (s : State) : Result := .next (runNop s)

/-- CLEAR_CONDITIONS (R182). -/
def runClearConditions (mask : Byte) : State → State := command 0x04 [mask] (doClearConditions mask)

/-- CLEAR_CONDITIONS (R182). -/
def execClearConditions (mask : Byte) (s : State) : Result := .next (runClearConditions mask s)

/-- OUTPUT (R163, R184). -/
def runOutput (value : Byte) : State → State := command 0x07 [value] (doOutput value)

/-- OUTPUT (R163, R184). -/
def execOutput (value : Byte) (s : State) : Result := .next (runOutput value s)

end Sys2Proof.Machine
end

