-- ==== Sys2Proof/WellFormed.lean ====
section
/-! DEFINITION. Which commands the ports can carry: payloads that a length field can state, frames that are
what their row says. -/

namespace Sys2Proof

/-- The longest payload a lane can carry: a two-byte length on the DISC lane (R166), 4,096 bytes in the
relay buffer (R169). -/
def lanePayloadMax (lane : Owner) : Nat :=
  match lane with
  | .disc => 65535
  | .player => 4096

/-- The payload fits the lane. -/
def laneFits (lane : Owner) (n : Nat) : Bool := n ≤ lanePayloadMax lane

/-- A completed command frame that R176 refuses for its shape, its code or its payload length. -/
def isBadFrame (frame : List Byte) : Bool :=
  1 ≤ frame.length && !isReadCode (byteAt frame 0) &&
    !(frameShapeOk frame && (decodeFrame (byteAt frame 0) (frame.drop 2)).isSome)

/-- The command can be presented at a port as it stands. -/
def Instr.wf (i : Instr) : Bool :=
  match i with
  | .fieldStart order => decide order.Nodup
  | .edition lane p => laneFits lane p.length
  | .time lane p => laneFits lane p.length
  | .palette lane p => laneFits lane p.length
  | .objectFirstPart lane _ _ _ _ _ _ d => laneFits lane (12 + d.length)
  | .objectPart lane _ _ _ d => laneFits lane (4 + d.length)
  | .page lane p => laneFits lane p.length
  | .slidelist lane p => laneFits lane p.length
  | .cue lane p => laneFits lane p.length
  | .delete lane p => laneFits lane p.length
  | .unknownCommand f => isBadFrame f
  | .segData b => b.length ≤ 250
  | .powerOn => true
  | .resetN => true
  | .passComplete => true
  | .fadeInEnd => true
  | .fadeOutEnd => true
  | .activationComplete => true
  | .pageTimeoutExpiry => true
  | .holdRunOut => true
  | .transitionEnd => true
  | .keyDelivery => true
  | .saveDone => true
  | .loadDone _ => true
  | .streamByte _ => true
  | .discLaneByte => true
  | .segmentServe => true
  | .linkTimeout _ => true
  | .readReply _ => true
  | .readStatus _ => true
  | .readNotice _ => true
  | .nop => true
  | .clearConditions _ => true
  | .reset => true
  | .setup _ _ => true
  | .setupClearDone => true
  | .output _ => true
  | .key _ => true
  | .showPage _ _ _ => true
  | .hidePage _ _ => true
  | .hideBand _ => true
  | .select _ _ _ => true
  | .setButton _ _ _ _ => true
  | .setTimeout _ _ _ _ => true
  | .readPage _ _ => true
  | .setVar _ _ => true
  | .getVar _ => true
  | .timeRun => true
  | .timeHold => true
  | .slideStart _ _ _ => true
  | .slideStop => true
  | .slidePause => true
  | .slideResume => true
  | .slideStep _ => true
  | .setHold _ _ => true
  | .segOpen _ _ => true
  | .erasePlayer => true
  | .resetNRelease => true

end Sys2Proof
end

