-- ==== Sys2Proof/Machine/Commands.lean ====
section
/-! DEFINITION. Rows of the command frames that work the sub-blocks (R186), of the read frames (R179), of a frame that
times out (R175) and of a frame that is refused (R176). -/

namespace Sys2Proof.Machine

open Sys2Proof

/-- KEY (R83). -/
def runKey (kind : Byte) : State → State := command 0x10 [kind] (doKey kind)

/-- KEY (R83). -/
def execKey (kind : Byte) (s : State) : Result := .next (runKey kind s)

/-- SHOW (R69, R77). -/
def runShowPage (owner page mode : Byte) : State → State := command 0x11 [owner, page, mode] (doShow owner page mode)

/-- SHOW (R69, R77). -/
def execShowPage (owner page mode : Byte) (s : State) : Result := .next (runShowPage owner page mode s)

/-- HIDE (R72). -/
def runHidePage (owner page : Byte) : State → State := command 0x12 [owner, page] (doHide owner page)

/-- HIDE (R72). -/
def execHidePage (owner page : Byte) (s : State) : Result := .next (runHidePage owner page s)

/-- HIDE_BAND (R73). -/
def runHideBand (owner : Byte) : State → State := command 0x13 [owner] (doHideBand owner)

/-- HIDE_BAND (R73). -/
def execHideBand (owner : Byte) (s : State) : Result := .next (runHideBand owner s)

/-- SELECT (R106). -/
def runSelect (owner page button : Byte) : State → State :=
  command 0x14 [owner, page, button] (doSelect owner page button)

/-- SELECT (R106). -/
def execSelect (owner page button : Byte) (s : State) : Result := .next (runSelect owner page button s)

/-- SET_BUTTON (R103). -/
def runSetButton (owner page button enable : Byte) : State → State :=
  command 0x15 [owner, page, button, enable] (doSetButton owner page button enable)

/-- SET_BUTTON (R103). -/
def execSetButton (owner page button enable : Byte) (s : State) : Result :=
  .next (runSetButton owner page button enable s)

/-- SET_TIMEOUT (R109). -/
def runSetTimeout (owner page : Byte) (value : Half) (restart : Byte) : State → State :=
  command 0x16 ([owner, page] ++ halfBytes value ++ [restart]) (doSetTimeout owner page value restart)

/-- SET_TIMEOUT (R109). -/
def execSetTimeout (owner page : Byte) (value : Half) (restart : Byte) (s : State) : Result :=
  .next (runSetTimeout owner page value restart s)

/-- READ_PAGE (R187). -/
def runReadPage (owner page : Byte) : State → State := command 0x17 [owner, page] (doReadPage owner page)

/-- READ_PAGE (R187). -/
def execReadPage (owner page : Byte) (s : State) : Result := .next (runReadPage owner page s)

/-- SET_VAR (R110). -/
def runSetVar (num : Byte) (value : Word) : State → State :=
  command 0x20 ([num] ++ wordBytes value) (doSetVar num value)

/-- SET_VAR (R110). -/
def execSetVar (num : Byte) (value : Word) (s : State) : Result := .next (runSetVar num value s)

/-- GET_VAR (R110). -/
def runGetVar (num : Byte) : State → State := command 0x21 [num] (doGetVar num)

/-- GET_VAR (R110). -/
def execGetVar (num : Byte) (s : State) : Result := .next (runGetVar num s)

/-- TIME_RUN (R130). -/
def runTimeRun : State → State := command 0x22 [] (fun s => done (setRunning true s))

/-- TIME_RUN (R130). -/
def execTimeRun (s : State) : Result := .next (runTimeRun s)

/-- TIME_HOLD (R130). -/
def runTimeHold : State → State := command 0x23 [] (fun s => done (setRunning false s))

/-- TIME_HOLD (R130). -/
def execTimeHold (s : State) : Result := .next (runTimeHold s)

/-- SLIDE_START (R116). -/
def runSlideStart (owner list index : Byte) : State → State :=
  command 0x30 [owner, list, index] (doSlideStart owner list index)

/-- SLIDE_START (R116). -/
def execSlideStart (owner list index : Byte) (s : State) : Result := .next (runSlideStart owner list index s)

/-- SLIDE_STOP (R125). -/
def runSlideStop : State → State := command 0x31 [] doSlideStop

/-- SLIDE_STOP (R125). -/
def execSlideStop (s : State) : Result := .next (runSlideStop s)

/-- SLIDE_PAUSE (R123). -/
def runSlidePause : State → State := command 0x32 [] doSlidePause

/-- SLIDE_PAUSE (R123). -/
def execSlidePause (s : State) : Result := .next (runSlidePause s)

/-- SLIDE_RESUME (R123). -/
def runSlideResume : State → State := command 0x33 [] doSlideResume

/-- SLIDE_RESUME (R123). -/
def execSlideResume (s : State) : Result := .next (runSlideResume s)

/-- SLIDE_STEP (R122). -/
def runSlideStep (step : Byte) : State → State := command 0x34 [step] (doSlideStep step)

/-- SLIDE_STEP (R122). -/
def execSlideStep (step : Byte) (s : State) : Result := .next (runSlideStep step s)

/-- SET_HOLD (R124). -/
def runSetHold (value : Half) (restart : Byte) : State → State :=
  command 0x35 (halfBytes value ++ [restart]) (doSetHold value restart)

/-- SET_HOLD (R124). -/
def execSetHold (value : Half) (restart : Byte) (s : State) : Result := .next (runSetHold value restart s)

/-- SEG_OPEN (R169). -/
def runSegOpen (kind : Byte) (length : Half) : State → State :=
  command 0x40 ([kind] ++ halfBytes length) (doSegOpen kind length)

/-- SEG_OPEN (R169). -/
def execSegOpen (kind : Byte) (length : Half) (s : State) : Result := .next (runSegOpen kind length s)

/-- SEG_DATA (R170). -/
def runSegData (bytes : List Byte) : State → State := command 0x41 bytes (doSegData bytes)

/-- SEG_DATA (R170). -/
def execSegData (bytes : List Byte) (s : State) : Result := .next (runSegData bytes s)

/-- ERASE_PLAYER (R186). -/
def runErasePlayer : State → State := command 0x42 [] doErasePlayer

/-- ERASE_PLAYER (R186). -/
def execErasePlayer (s : State) : Result := .next (runErasePlayer s)

/-! ## Read frames -/

/-- READ_REPLY (R179). -/
def execReadReply (n : Nat) (s : State) : Result := .next (readFrame 0x01 n s)

/-- READ_STATUS (R179, R180). -/
def execReadStatus (n : Nat) (s : State) : Result := .next (readFrame 0x02 n s)

/-- READ_NOTICE (R179). -/
def execReadNotice (n : Nat) (s : State) : Result := .next (readNoticeFrame n s)

/-! ## Frames that are no commands -/

/-- LINK_TIMEOUT (R175). -/
def execLinkTimeout (bytes : List Byte) (s : State) : Result := .next (timeOutFrame bytes s)

/-- The command that a complete frame carries is carried out; a row that is no command frame leaves the part as it
is. -/
def runCommand (i : Instr) (s : State) : State :=
  match i with
  | .nop => runNop s
  | .clearConditions m => runClearConditions m s
  | .reset => runReset s
  | .setup f t => runSetup f t s
  | .output v => runOutput v s
  | .key k => runKey k s
  | .showPage o p m => runShowPage o p m s
  | .hidePage o p => runHidePage o p s
  | .hideBand o => runHideBand o s
  | .select o p b => runSelect o p b s
  | .setButton o p b e => runSetButton o p b e s
  | .setTimeout o p v r => runSetTimeout o p v r s
  | .readPage o p => runReadPage o p s
  | .setVar n v => runSetVar n v s
  | .getVar n => runGetVar n s
  | .timeRun => runTimeRun s
  | .timeHold => runTimeHold s
  | .slideStart o l i => runSlideStart o l i s
  | .slideStop => runSlideStop s
  | .slidePause => runSlidePause s
  | .slideResume => runSlideResume s
  | .slideStep d => runSlideStep d s
  | .setHold v r => runSetHold v r s
  | .segOpen k l => runSegOpen k l s
  | .segData b => runSegData b s
  | .erasePlayer => runErasePlayer s
  | .powerOn => s
  | .resetN => s
  | .fieldStart _ => s
  | .passComplete => s
  | .fadeInEnd => s
  | .fadeOutEnd => s
  | .activationComplete => s
  | .pageTimeoutExpiry => s
  | .holdRunOut => s
  | .transitionEnd => s
  | .keyDelivery => s
  | .saveDone => s
  | .loadDone _ => s
  | .streamByte _ => s
  | .discLaneByte => s
  | .segmentServe => s
  | .edition _ _ => s
  | .time _ _ => s
  | .palette _ _ => s
  | .objectFirstPart _ _ _ _ _ _ _ _ => s
  | .objectPart _ _ _ _ _ => s
  | .page _ _ => s
  | .slidelist _ _ => s
  | .cue _ _ => s
  | .delete _ _ => s
  | .linkTimeout _ => s
  | .unknownCommand _ => s
  | .readReply _ => s
  | .readStatus _ => s
  | .readNotice _ => s
  | .setupClearDone => s
  | .resetNRelease => s

/-- A completed read frame by its code byte (R179). -/
def runRead (cmd : Byte) (n : Nat) (s : State) : State :=
  if cmd = 0x03 then readNoticeFrame n s else readFrame cmd n s

/-- Select has risen after these bytes (R176): a bad frame is refused; a frame that is good after all is what its
bytes say (DEDUCED, assumption log 27); a frame without bytes has no effect (R175). -/
def completeFrame (frame : List Byte) (s : State) : State :=
  match frame with
  | [] => s
  | cmd :: _ =>
    if isReadCode cmd then runRead cmd frame.length s
    else if isBadFrame frame then badFrame frame s
    else
      match decodeFrame cmd (frame.drop 2) with
      | none => badFrame frame s
      | some i => runCommand i s

/-- UNKNOWN_COMMAND (R176). -/
def execUnknownCommand (frame : List Byte) (s : State) : Result := .next (completeFrame frame s)

end Sys2Proof.Machine
end

