-- ==== Sys2Proof/Machine/Segments.lean ====
section
/-! DEFINITION. Rows of the exchange's completions, the stream, the lanes and the segments (R55, R57, R164 to
R174). -/

namespace Sys2Proof.Machine

open Sys2Proof

/-- SAVE_DONE (R55). -/
def execSaveDone (s : State) : Result := .next (awake completeSave s)

/-- LOAD_DONE (R57). -/
def execLoadDone (slot : Fin 6) (s : State) : Result := .next (awake (completeLoad slot) s)

/-- STREAM_BYTE (R164). -/
def execStreamByte (b : Byte) (s : State) : Result := .next (awake (presentByte b) s)

/-- DISC_LANE_BYTE (R166, R167). -/
def execDiscLaneByte (s : State) : Result := .next (awake takeLaneByte s)

/-- SEGMENT_SERVE (R172). -/
def execSegmentServe (s : State) : Result := .next (awake serve s)

/-- A whole segment arrives on a lane as one command (R167, R171); the part takes none while it is UNCONFIGURED
(R164, R176, DESIGN CHOICE, assumption log 16). -/
def arriveSegment (lane : Owner) (kind : Byte) (p : List Byte) (s : State) : State :=
  if s.link.configured then wholeSegment lane kind p s else s

/-- EDITION (R173). -/
def execEdition (lane : Owner) (payload : List Byte) (s : State) : Result :=
  .next (awake (arriveSegment lane kindEdition payload) s)

/-- TIME (R131). -/
def execTime (lane : Owner) (payload : List Byte) (s : State) : Result :=
  .next (awake (arriveSegment lane kindTime payload) s)

/-- PALETTE (R24). -/
def execPalette (lane : Owner) (payload : List Byte) (s : State) : Result :=
  .next (awake (arriveSegment lane kindPalette payload) s)

/-- The flags byte of an OBJECT part (R189). -/
def partFlags (first last : Bool) : Byte :=
  (0 : BitVec 6) ++ (BitVec.ofBool last ++ BitVec.ofBool first)

/-- The payload of a FIRST part (R189). -/
def firstPartPayload (id : Half) (last : Bool) (seq : Byte) (width height : Half) (total : Word)
    (data : List Byte) : List Byte :=
  halfBytes id ++ [partFlags true last, seq] ++ halfBytes width ++ halfBytes height ++ wordBytes total ++
    data

/-- The payload of a later part (R189). -/
def laterPartPayload (id : Half) (last : Bool) (seq : Byte) (data : List Byte) : List Byte :=
  halfBytes id ++ [partFlags false last, seq] ++ data

/-- OBJECT_FIRST_PART (R10). -/
def execObjectFirstPart (lane : Owner) (id : Half) (last : Bool) (seq : Byte) (width height : Half)
    (total : Word) (data : List Byte) (s : State) : Result :=
  .next (awake (arriveSegment lane kindObject (firstPartPayload id last seq width height total data)) s)

/-- OBJECT_PART (R12). -/
def execObjectPart (lane : Owner) (id : Half) (last : Bool) (seq : Byte) (data : List Byte) (s : State) :
    Result :=
  .next (awake (arriveSegment lane kindObject (laterPartPayload id last seq data)) s)

/-- PAGE (R40). -/
def execPage (lane : Owner) (payload : List Byte) (s : State) : Result :=
  .next (awake (arriveSegment lane kindPage payload) s)

/-- SLIDELIST (R113). -/
def execSlidelist (lane : Owner) (payload : List Byte) (s : State) : Result :=
  .next (awake (arriveSegment lane kindSlideList payload) s)

/-- CUE (R135). -/
def execCue (lane : Owner) (payload : List Byte) (s : State) : Result :=
  .next (awake (arriveSegment lane kindCue payload) s)

/-- DELETE (R174). -/
def execDelete (lane : Owner) (payload : List Byte) (s : State) : Result :=
  .next (awake (arriveSegment lane kindDelete payload) s)

end Sys2Proof.Machine
end

