-- ==== Sys2Proof/Machine/Dispatch.lean ====
section
/-! DEFINITION. The meaning of every row of spec/opcode_table.json. -/

namespace Sys2Proof.Machine

open Sys2Proof

def exec (i : Instr) (s : State) : Host.Outcome State Fault Refusal :=
  match i with
  | .powerOn => Sys2Proof.Machine.execPowerOn s
  | .resetN => Sys2Proof.Machine.execResetN s
  | .fieldStart order => Sys2Proof.Machine.execFieldStart order s
  | .passComplete => Sys2Proof.Machine.execPassComplete s
  | .fadeInEnd => Sys2Proof.Machine.execFadeInEnd s
  | .fadeOutEnd => Sys2Proof.Machine.execFadeOutEnd s
  | .activationComplete => Sys2Proof.Machine.execActivationComplete s
  | .pageTimeoutExpiry => Sys2Proof.Machine.execPageTimeoutExpiry s
  | .holdRunOut => Sys2Proof.Machine.execHoldRunOut s
  | .transitionEnd => Sys2Proof.Machine.execTransitionEnd s
  | .keyDelivery => Sys2Proof.Machine.execKeyDelivery s
  | .saveDone => Sys2Proof.Machine.execSaveDone s
  | .loadDone slot => Sys2Proof.Machine.execLoadDone slot s
  | .streamByte b => Sys2Proof.Machine.execStreamByte b s
  | .discLaneByte => Sys2Proof.Machine.execDiscLaneByte s
  | .segmentServe => Sys2Proof.Machine.execSegmentServe s
  | .edition lane payload => Sys2Proof.Machine.execEdition lane payload s
  | .time lane payload => Sys2Proof.Machine.execTime lane payload s
  | .palette lane payload => Sys2Proof.Machine.execPalette lane payload s
  | .objectFirstPart lane id last seq width height total data => Sys2Proof.Machine.execObjectFirstPart lane id last seq width height total data s
  | .objectPart lane id last seq data => Sys2Proof.Machine.execObjectPart lane id last seq data s
  | .page lane payload => Sys2Proof.Machine.execPage lane payload s
  | .slidelist lane payload => Sys2Proof.Machine.execSlidelist lane payload s
  | .cue lane payload => Sys2Proof.Machine.execCue lane payload s
  | .delete lane payload => Sys2Proof.Machine.execDelete lane payload s
  | .linkTimeout bytes => Sys2Proof.Machine.execLinkTimeout bytes s
  | .unknownCommand frame => Sys2Proof.Machine.execUnknownCommand frame s
  | .readReply n => Sys2Proof.Machine.execReadReply n s
  | .readStatus n => Sys2Proof.Machine.execReadStatus n s
  | .readNotice n => Sys2Proof.Machine.execReadNotice n s
  | .nop => Sys2Proof.Machine.execNop s
  | .clearConditions mask => Sys2Proof.Machine.execClearConditions mask s
  | .reset => Sys2Proof.Machine.execReset s
  | .setup format ticks => Sys2Proof.Machine.execSetup format ticks s
  | .setupClearDone => Sys2Proof.Machine.execSetupClearDone s
  | .output value => Sys2Proof.Machine.execOutput value s
  | .key kind => Sys2Proof.Machine.execKey kind s
  | .showPage owner page mode => Sys2Proof.Machine.execShowPage owner page mode s
  | .hidePage owner page => Sys2Proof.Machine.execHidePage owner page s
  | .hideBand owner => Sys2Proof.Machine.execHideBand owner s
  | .select owner page button => Sys2Proof.Machine.execSelect owner page button s
  | .setButton owner page button enable => Sys2Proof.Machine.execSetButton owner page button enable s
  | .setTimeout owner page value restart => Sys2Proof.Machine.execSetTimeout owner page value restart s
  | .readPage owner page => Sys2Proof.Machine.execReadPage owner page s
  | .setVar num value => Sys2Proof.Machine.execSetVar num value s
  | .getVar num => Sys2Proof.Machine.execGetVar num s
  | .timeRun => Sys2Proof.Machine.execTimeRun s
  | .timeHold => Sys2Proof.Machine.execTimeHold s
  | .slideStart owner list index => Sys2Proof.Machine.execSlideStart owner list index s
  | .slideStop => Sys2Proof.Machine.execSlideStop s
  | .slidePause => Sys2Proof.Machine.execSlidePause s
  | .slideResume => Sys2Proof.Machine.execSlideResume s
  | .slideStep step => Sys2Proof.Machine.execSlideStep step s
  | .setHold value restart => Sys2Proof.Machine.execSetHold value restart s
  | .segOpen kind length => Sys2Proof.Machine.execSegOpen kind length s
  | .segData bytes => Sys2Proof.Machine.execSegData bytes s
  | .erasePlayer => Sys2Proof.Machine.execErasePlayer s
  | .resetNRelease => Sys2Proof.Machine.execResetNRelease s

end Sys2Proof.Machine
end

