-- ==== Sys2Proof/Safety.lean ====
section
/-! DEFINITION. The terms the statements are made in: what a group of blocks leaves as it is, a link that takes a
command, the invariants that every step keeps. -/

namespace Sys2Proof.Machine

open Sys2Proof

/-! ## What stays -/

/-- What a page directory entry says of the definition (R36). -/
def pageFacts (e : PageEntry) : PageEntry := { e with saved := false, slot := none }

/-- The machine without what the Page Exchange, the Page Stack, the Navigation Unit and the Slide Sequencer work on:
slots, saved flags and residency, stack, keys and variables, the show, the recompose request, the notices. Two states
with the same `still` agree in everything else: every byte of the graphics memory, objects, palettes, page definitions,
slide lists, cues, stream time, planes, formats, lanes, relay buffer, link. -/
def still (s : State) : State :=
  { s with
    exch := State.reset.exch
    stack := State.reset.stack
    nav := State.reset.nav
    seqr := sequencerReset s.seqr.lists
    comp := { s.comp with recompose := false }
    pages := s.pages.map pageFacts
    link := { s.link with
      notices := [], conds := { s.link.conds with noticeOverflow := false } } }

/-- `still` without what a command frame leaves on the link: the reply, the frame in assembly, LSDO, LINK_OVERRUN. -/
def stillOffLink (s : State) : State :=
  { still s with
    link := { (still s).link with
      processing := none
      reply := State.reset.link.reply
      frameBytes := []
      frameIgnored := false
      wire := State.reset.link.wire
      conds := { (still s).link.conds with linkOverrun := false } } }

/-- The commands and events that work on pages, buttons, keys, variables and slides and on nothing else. -/
def isInteractive (i : Instr) : Bool :=
  match i with
  | .key _ => true
  | .showPage _ _ _ => true
  | .hidePage _ _ => true
  | .hideBand _ => true
  | .select _ _ _ => true
  | .setButton _ _ _ _ => true
  | .setTimeout _ _ _ _ => true
  | .readPage _ _ => true
  | .setVar _ _ => true
  | .getVar _ => true
  | .slideStart _ _ _ => true
  | .slideStop => true
  | .slidePause => true
  | .slideResume => true
  | .slideStep _ => true
  | .setHold _ _ => true
  | .keyDelivery => true
  | .loadDone _ => true
  | .powerOn => false
  | .resetN => false
  | .fieldStart _ => false
  | .passComplete => false
  | .fadeInEnd => false
  | .fadeOutEnd => false
  | .activationComplete => false
  | .pageTimeoutExpiry => false
  | .holdRunOut => false
  | .transitionEnd => false
  | .saveDone => false
  | .streamByte _ => false
  | .discLaneByte => false
  | .segmentServe => false
  | .edition _ _ => false
  | .time _ _ => false
  | .palette _ _ => false
  | .objectFirstPart _ _ _ _ _ _ _ _ => false
  | .objectPart _ _ _ _ _ => false
  | .page _ _ => false
  | .slidelist _ _ => false
  | .cue _ _ => false
  | .delete _ _ => false
  | .linkTimeout _ => false
  | .unknownCommand _ => false
  | .readReply _ => false
  | .readStatus _ => false
  | .readNotice _ => false
  | .nop => false
  | .clearConditions _ => false
  | .reset => false
  | .setup _ _ => false
  | .setupClearDone => false
  | .output _ => false
  | .timeRun => false
  | .timeHold => false
  | .segOpen _ _ => false
  | .segData _ => false
  | .erasePlayer => false
  | .resetNRelease => false

/-! ## Command frames and segments -/

/-- RESET_N is high and no command is in processing: a complete command frame is judged (R176, R177). -/
def linkFree (s : State) : Bool := !s.resetLow && s.link.processing.isNone

/-- A complete command frame is judged, and the part is CONFIGURED (R176). -/
def linkOpen (s : State) : Bool := linkFree s && s.link.configured

/-- A segment that arrives on a lane is judged: RESET_N is high and the part is CONFIGURED (R164). -/
def laneOpen (s : State) : Bool := !s.resetLow && s.link.configured

/-- What LSDO carries in a frame of n bytes that is no read frame (R175): the link byte, then 0x00. -/
def commandWire (n : Nat) (s : State) : Wire :=
  ⟨linkByte s, if 2 ≤ n then some 0 else none, List.replicate (n - 2) 0⟩

/-- What LSDO carries in a read frame of n bytes (R175, R179): the link byte, an open value with the length byte (log
38), after it the answer and then 0x00. -/
def readWire (answer : List Byte) (n : Nat) (s : State) : Wire :=
  ⟨linkByte s, if 2 ≤ n then some Config.readLengthByte else none,
    (answer ++ List.replicate (n - 2) 0).take (n - 2)⟩

/-- What LSDO carries in a frame of these bytes. -/
def frameWire (bytes : List Byte) (s : State) : Wire :=
  if isReadCode (byteAt bytes 0) then readWire (readAnswer (byteAt bytes 0) s) bytes.length s
  else commandWire bytes.length s

/-- A frame has crossed the link: what LSDO carried in it is recorded, and the assembly holds nothing (R175). -/
def frameCrossed (w : Wire) (s : State) : State :=
  s.setLink { s.link with wire := w, frameBytes := [], frameIgnored := false }

/-- A command frame with n payload bytes has crossed the link (R175): the link byte and then 0x00 went out. -/
def crossed (n : Nat) (s : State) : State := frameCrossed (commandWire (n + 2) s) s

/-- The command frame has crossed and its reply stands in the slot (R178); nothing else has changed. -/
def answered (cmd : Byte) (code : ReplyCode) (data : List Byte) (n : Nat) (s : State) : State :=
  placeReply cmd code data (crossed n s)

/-- A command frame that R176 refuses has crossed the link and its reply stands in the slot; nothing else has
changed. -/
def answeredFrame (frame : List Byte) (code : ReplyCode) (data : List Byte) (s : State) : State :=
  placeReply (byteAt frame 0) code data (frameCrossed (commandWire frame.length s) s)

/-- The state after power-on, RESET_N or a soft reset (R184): reset values everywhere, but for the graphics memory,
the level of RESET_N, the queue of commands, the model's counter and the record of LSDO. -/
def powerOnState (s : State) : State :=
  { State.reset with
    mem := s.mem
    resetLow := s.resetLow
    fresh := s.fresh
    pending := s.pending
    link := { State.reset.link with wire := s.link.wire } }

/-- The lane, the kind and the payload of a row that is a whole segment (R167). -/
def segmentOf (i : Instr) : Option (Owner × Byte × List Byte) :=
  match i with
  | .edition lane p => some (lane, 0x01, p)
  | .time lane p => some (lane, 0x02, p)
  | .palette lane p => some (lane, 0x10, p)
  | .objectFirstPart lane id last seq w h total d =>
    some (lane, 0x11, firstPartPayload id last seq w h total d)
  | .objectPart lane id last seq d => some (lane, 0x11, laterPartPayload id last seq d)
  | .page lane p => some (lane, 0x12, p)
  | .slidelist lane p => some (lane, 0x13, p)
  | .cue lane p => some (lane, 0x14, p)
  | .delete lane p => some (lane, 0x1F, p)
  | .powerOn => none
  | .resetN => none
  | .fieldStart _ => none
  | .passComplete => none
  | .fadeInEnd => none
  | .fadeOutEnd => none
  | .activationComplete => none
  | .pageTimeoutExpiry => none
  | .holdRunOut => none
  | .transitionEnd => none
  | .keyDelivery => none
  | .saveDone => none
  | .loadDone _ => none
  | .streamByte _ => none
  | .discLaneByte => none
  | .segmentServe => none
  | .linkTimeout _ => none
  | .unknownCommand _ => none
  | .readReply _ => none
  | .readStatus _ => none
  | .readNotice _ => none
  | .nop => none
  | .clearConditions _ => none
  | .reset => none
  | .setup _ _ => none
  | .setupClearDone => none
  | .output _ => none
  | .key _ => none
  | .showPage _ _ _ => none
  | .hidePage _ _ => none
  | .hideBand _ => none
  | .select _ _ _ => none
  | .setButton _ _ _ _ => none
  | .setTimeout _ _ _ _ => none
  | .readPage _ _ => none
  | .setVar _ _ => none
  | .getVar _ => none
  | .timeRun => none
  | .timeHold => none
  | .slideStart _ _ _ => none
  | .slideStop => none
  | .slidePause => none
  | .slideResume => none
  | .slideStep _ => none
  | .setHold _ _ => none
  | .segOpen _ _ => none
  | .segData _ => none
  | .erasePlayer => none
  | .resetNRelease => none

/-- A SEGMENT_FAULT notice as R191 lays it out: the lane, the kind and the code, the id, the detail. -/
def segmentFaultNotice (lane : Owner) (kind code : Byte) (id : Half) (detail : Nat) (s : State) : State :=
  post .segmentFault (some lane) none id (kind ++ code) (BitVec.ofNat 32 detail) false s

/-! ## Payload checks -/

/-- A payload is refused with BAD_FIELD at the lowest offset at which a field is bad, and passes where no field is (R34,
R113, R134). -/
def refusedAtFirst (bad : Nat → Prop) (fault : Option Refused) : Prop :=
  (fault = none ↔ ∀ o, ¬ bad o) ∧ ∀ o, fault = some (0x03, o) ↔ bad o ∧ ∀ x, x < o → ¬ bad x

/-- The bad fields of a SLIDELIST payload with n entries (R113): list id, mode, page ids, transition kinds. -/
def slideListBad (p : List Byte) (n o : Nat) : Prop :=
  ((o = 0 ∨ o = 1) ∧ 2 ≤ (byteAt p o).toNat) ∨
  ∃ i, i < n ∧ ((o = 3 + 5 * i ∧ 32 ≤ (byteAt p o).toNat) ∨ (o = 6 + 5 * i ∧ 4 ≤ (byteAt p o).toNat))

/-- The bad fields of a CUE payload (R134): cue id, the kind and variable of each condition, kind, target and button of
the action. -/
def cueBad (p : List Byte) (o : Nat) : Prop :=
  let kind := (byteAt p 22).toNat
  let target := (halfAt p 24).toNat
  (o = 0 ∧ 8 ≤ (byteAt p 0).toNat) ∨ (o = 2 ∧ (byteAt p 2 = 0 ∨ 6 ≤ (byteAt p 2).toNat)) ∨
  (o = 12 ∧ 6 ≤ (byteAt p 12).toNat) ∨
  ((o = 3 ∨ o = 13) ∧ (byteAt p (o - 1) = 4 ∨ byteAt p (o - 1) = 5) ∧ 16 ≤ (byteAt p o).toNat) ∨
  (o = 22 ∧ kind ∉ [0, 4, 5, 6, 7, 8]) ∨
  (o = 24 ∧ ((kind ∈ [4, 5, 8] ∧ 32 ≤ target) ∨ (kind = 6 ∧ 16 ≤ target) ∨ (kind = 7 ∧ 4 ≤ target))) ∨
  (o = 26 ∧ kind = 5 ∧ 64 ≤ (wordAt p 26).toNat)

/-- The bad fields of a page outcome at offset a (R31, R32, R34): a kind that pages may not have; the target of a SELECT,
a SETVAR, a SLIDE. -/
def outcomeBad (p : List Byte) (a o : Nat) : Prop :=
  let kind := (byteAt p a).toNat
  let target := (halfAt p (a + 2)).toNat
  (o = a ∧ 8 ≤ kind) ∨
  (o = a + 2 ∧ ((kind = 5 ∧ 64 ≤ target) ∨ (kind = 6 ∧ 16 ≤ target) ∨ (kind = 7 ∧ 4 ≤ target)))

/-- The bad fields of the placement record at offset a (R34). -/
def placementBad (owner : Owner) (p : List Byte) (a o : Nat) : Prop :=
  (o = a ∧ objectIds owner ≤ (halfAt p o).toNat) ∨ ((o = a + 2 ∨ o = a + 4) ∧ 4096 ≤ (halfAt p o).toNat)

/-- The bad fields of the button record at offset a (R34): position, visuals, links, test, outcomes; the id apart. -/
def buttonBad (owner : Owner) (p : List Byte) (a o : Nat) : Prop :=
  ((o = a + 2 ∨ o = a + 4) ∧ 4096 ≤ (halfAt p o).toNat) ∨
  (∃ v, v ∈ [a + 6, a + 9, a + 12, a + 15] ∧ halfAt p v ≠ 0xFFFF ∧
    ((o = v ∧ objectIds owner ≤ (halfAt p v).toNat) ∨ (o = v + 2 ∧ (byteAt p o).toNat % 16 = 0))) ∨
  (∃ l, l ∈ [a + 18, a + 20, a + 22, a + 24] ∧
    ((o = l ∧ 3 ≤ (byteAt p l).toNat) ∨ (o = l + 1 ∧ byteAt p l = 1 ∧ 64 ≤ (byteAt p o).toNat))) ∨
  (o = a + 26 ∧ 8 ≤ (byteAt p o).toNat) ∨ (o = a + 27 ∧ 16 ≤ (byteAt p o).toNat) ∨
  (o = a + 28 ∧ (byteAt p o).toNat ∉ [8, 16, 32]) ∨ outcomeBad p (a + 29) o ∨ outcomeBad p (a + 39) o

/-- The bad fields of a PAGE payload with np placements and nb buttons (R34). -/
def pageBad (owner : Owner) (p : List Byte) (np nb o : Nat) : Prop :=
  let button (i : Nat) : Nat := 32 + 15 * np + 49 * i
  (∃ limit, (o, limit) ∈ [(0, 32), (1, 2), (2, 8), (7, 64)] ∧ limit ≤ (byteAt p o).toNat) ∨
  (o = 3 ∧ 64 ≤ (byteAt p 3).toNat ∧ byteAt p 3 ≠ 0xFF) ∨ outcomeBad p 10 o ∨ outcomeBad p 20 o ∨
  (o = 31 ∧ byteAt p 1 = 1 ∧ nb ≠ 0) ∨
  (∃ i, i < np ∧ placementBad owner p (32 + 15 * i) o) ∨
  ∃ i, i < nb ∧ (buttonBad owner p (button i) o ∨
    (o = button i ∧ (64 ≤ (byteAt p o).toNat ∨ ∃ j, j < i ∧ byteAt p (button j) = byteAt p o)))

/-! ## The exchange queue -/

/-- The exchange queue (R48): no page twice, every request with a requester, never the incoming page. -/
def queueSound (s : State) : Prop :=
  (s.exch.queue.map Request.page).Nodup ∧
  (∀ q ∈ s.exch.queue, (q.byStack || q.bySequencer) = true) ∧
  ∀ t, s.exch.current = some t → ∀ q ∈ s.exch.queue, q.page ≠ t.page

/-! ## Owner erase -/

/-- The slides of the erased owner's show, which leave the SLIDE band with it (R82, R126); none where its show does not
run. -/
def slidesErased (o : Owner) (s : State) : List PageRef := if slidesRunFor o s then slidePages s else []

/-- The page belongs to the other owner and is no slide of the erased owner's show. -/
def outlives (o : Owner) (s : State) (r : PageRef) : Bool := r.owner != o && !(slidesErased o s).contains r

/-- The lists of an owner are undefined (R113). -/
def listsErased (o : Owner) (s : State) : Vector (Option SlideList) 4 :=
  (s.seqr.lists.set (listIndex o 0) none).set (listIndex o 1) none

/-- A running show of the erased owner stops with reason ERASED (R126, R128). -/
def erasedShowNotice (o : Owner) (s : State) : State :=
  if slidesRunFor o s then
    post .slideStopped (some o) none (BitVec.ofNat 16 s.seqr.index) 3 (BitVec.ofNat 32 s.seqr.list.val) false s
  else s

/-- An entry without its place among the LEAVING entries, which closes up when one goes (R62). -/
def unordered (e : Entry) : Entry := { e with order := 0 }

/-- A working copy without the activation that may run in it: its page, definition, selection, dirty flag, page
timeout. -/
def slotFacts (sl : Slot) : Slot := { sl with buttons := [], hold := 0 }

/-- The request is for a page that outlives the erase and that the erased owner's show does not want. -/
def keptRequest (o : Owner) (s : State) (q : Request) : Bool :=
  outlives o s q.page && !(slidesRunFor o s && s.seqr.wanted == some q.page)

/-- Of everything but the pages: all of the owner is gone and all of the other owner is as it was (R21, R26, R113,
R135); and the page directory holds no page of the owner (R42). The graphics memory, with every page image, save record
and heap pixel, stays: only where a pass is DRAWING may its back plane take what the pass draws (log 6). The recompose
request is raised. The regions are released in the order of log 14. -/
structure ErasedFor (o : Owner) (s t : State) : Prop where
  memory : ∀ a : Addr, a.toNat < planeBase (otherPlane s.comp.front) ∨
    planeBase (otherPlane s.comp.front) + 8294400 ≤ a.toNat → t.mem.read a = s.mem.read a
  memoryWhole : s.comp.pass ≠ .drawing → t.mem = s.mem
  recompose : t.comp.recompose = true
  objects : ∀ i : Fin 512, t.objs.dir[i] = if entryOwner i = o then objEntryReset else s.objs.dir[i]
  free : t.objs.free = if s.comp.pass = .drawing then s.objs.free
    else ((ownerEntries o s).flatMap entryRegions).foldl (fun f r => giveBack r f) s.objs.free
  deferred : t.objs.deferred = if s.comp.pass = .drawing then
      s.objs.deferred ++ (ownerEntries o s).flatMap entryRegions
    else s.objs.deferred
  palettes : ∀ (w : Owner) (p : Fin 8),
    t.pals[paletteIndex w p] = if w = o then paletteReset else s.pals[paletteIndex w p]
  pages : ∀ r : PageRef, pageFacts (pageEntry r t) =
    if r.owner = o then pageEntryReset else pageFacts (pageEntry r s)
  lists : ∀ (w : Owner) (i : Fin 2), slideList w i t = if w = o then none else slideList w i s
  cueSlots : ∀ (w : Owner) (i : Fin 8), cueSlot (cueIndex w i) t =
    if w = o then ⟨.idle, none⟩ else cueSlot (cueIndex w i) s
  time : t.cues.time = s.cues.time ∧ t.cues.running = s.cues.running ∧ t.cues.ticks = s.cues.ticks

/-- Of the pages, before the keys that wait are delivered: nothing of the owner stands on the stack, in its return
stack, in a slot it was resident in, in the exchange queue, in the controller request, among the held changes and
return selections, and its show has stopped; a load of its page is over and a save in favour of it is cancelled. What
the other owner had there stays (R61, R82, R111, R126). A slot keeps its working copy, unless the exchange then takes it
as a victim, which it never does with a page on the stack (R47, R52). Queued requests keep their order; only the exchange
takes some from the head, where their page is resident or begins to load (R52). An exchange in progress goes on, past the
save of an erased victim, and takes none. -/
structure ErasedPagesFor (o : Owner) (s u : State) : Prop where
  stackGone : ∀ e ∈ u.stack.entries, e.page.owner ≠ o
  stackKept : (u.stack.entries.filter (fun e => outlives o s e.page)).map unordered =
    (s.stack.entries.filter (fun e => outlives o s e.page)).map unordered
  frames : ∀ w, framesOf w u = if w = o then [] else framesOf w s
  queueGone : ∀ q ∈ u.exch.queue, q.page.owner ≠ o
  incomingGone : ∀ x, u.exch.current = some x → x.page.owner = o → x.stage = .save ∧ x.cancelled = true
  slotsGone : ∀ (r : PageRef) (k : Fin 6), r.owner = o → residentSlot r s = some k →
    (slotAt k s).page = some r → (slotAt k u).page ≠ some r
  queueKept : queueSound s →
    u.exch.queue.filter (keptRequest o s) <:+ s.exch.queue.filter (keptRequest o s)
  queueServed : queueSound s → ∀ q ∈ s.exch.queue, keptRequest o s q = true → q ∈ u.exch.queue ∨
    isResident q.page s = true ∨ ∃ x, u.exch.current = some x ∧ x.page = q.page
  exchangeKept : ∀ x, s.exch.current = some x → x.page.owner ≠ o → x.cancelled = false →
    u.exch.current = some (if x.stage = .save ∧ (slotAt x.slot s).page.map PageRef.owner = some o then
      { x with stage := .load } else x) ∧
    (queueSound s → u.exch.queue.filter (keptRequest o s) = s.exch.queue.filter (keptRequest o s))
  slotsKept : ∀ (r : PageRef) (k : Fin 6), outlives o s r = true → residentSlot r s = some k →
    (slotAt k s).page = some r → (slotAt k s).st ≠ .empty → (∀ x, s.exch.current = some x → x.slot ≠ k) →
    (slotFacts (slotAt k u) = slotFacts (slotAt k s) ∧
      ∀ i, enabledAt (slotAt k u) i = enabledAt (slotAt k s) i) ∨
    (hasEntry r s = false ∧ s.exch.current ≠ u.exch.current ∧ ∃ x, u.exch.current = some x ∧ x.slot = k)
  savedKept : ∀ r : PageRef, r.owner ≠ o → (pageEntry r u).saved = (pageEntry r s).saved
  request : u.exch.ctrlReq =
    if s.exch.ctrlReq.map PageRef.owner = some o then none else s.exch.ctrlReq
  held : (u.nav.heldEnables, u.nav.heldSelect) =
    if s.exch.ctrlReq.map PageRef.owner = some o then ([], none) else (s.nav.heldEnables, s.nav.heldSelect)
  returnGone : ∀ x ∈ u.nav.returnSel, x.1.owner ≠ o
  returnKept : u.nav.returnSel.filter (fun x => outlives o s x.1) =
    s.nav.returnSel.filter (fun x => outlives o s x.1)
  keysAndVariables : u.nav.keys = s.nav.keys ∧ u.nav.vars = s.nav.vars
  slides : u.seqr = if slidesRunFor o s then sequencerReset (listsErased o s)
    else { s.seqr with lists := listsErased o s }

/-! ## Buttons -/

/-- The button at a list index is the SELECTED or the ACTIVATED one. -/
def isChosen (b : ButtonLive) : Bool := b.st == .selected || b.st == .activated

/-- A working copy as R43 and R87 describe it: one state for each button of the page, ids that differ, the selection
names the button that is SELECTED or ACTIVATED, and there is no other such button. -/
def slotSound (sl : Slot) : Prop :=
  match sl.defn with
  | none => sl.buttons = [] ∧ sl.selection = none
  | some d =>
    sl.buttons.length = d.buttons.length ∧ (d.buttons.map Button.id).Nodup ∧
    (∀ id, sl.selection = some id → ∃ i, slotButton sl id = some i) ∧
    ∀ i, (∃ b, sl.buttons[i]? = some b ∧ isChosen b = true) ↔ selectionIndex sl = some i

/-- Where n links in a direction lead from the button at a list index (R90). -/
def linkPath (d : PageDef) (dir : Direction) : Nat → Nat → Option Nat
  | 0, i => some i
  | n + 1, i => (linkPath d dir n i).bind (linkTarget d dir)

/-! ## Graphics memory -/

/-- The address lies in a region between two offsets (R2). -/
def inRegion (r : Region) (from_ upto : Nat) (a : Addr) : Bool :=
  decide (heapBase + 256 * r.start + from_ ≤ a.toNat) && decide (a.toNat < heapBase + 256 * r.start + upto)

/-! ## Invariants -/

/-- Field-start work is outstanding only while RESET_N is high and an event of a field start stands next in the queue,
and then only of the blocks whose work has events (log 1). -/
def fieldWorkSound (s : State) : Bool :=
  s.due.isEmpty || (!s.resetLow && (nextEvent s).isSome && decide s.due.Nodup && s.due.all eventBlocks.contains)

/-- The graphics memory is in its canonical form. -/
def memorySound (s : State) : Bool := s.mem.wf

/-- The relay buffer (R169): a FILLING buffer holds fewer bytes than its stated length, a COMPLETE one as many, an EMPTY
one none; never more than 4,096. -/
def relaySound (r : Relay) : Bool :=
  decide (r.len.toNat ≤ 4096) &&
    match r.st with
    | .empty => r.data.isEmpty
    | .filling => decide (r.data.length < r.len.toNat)
    | .complete => decide (r.data.length = r.len.toNat)

/-- The sizes the manual gives: 32 notices (R181), 8 keys (R83), 5 stack entries (R62), 8 frames a return stack (R75),
4,096 bytes of FIFO (R164) and of relay buffer (R169). -/
def sizesSound (s : State) : Bool :=
  decide (s.link.notices.length ≤ 32) && decide (s.nav.keys.length ≤ 8) &&
  decide (s.stack.entries.length ≤ 5) && decide (s.stack.discFrames.length ≤ 8) &&
  decide (s.stack.playerFrames.length ≤ 8) && decide (s.stream.fifo.length ≤ 4096) && relaySound s.relay

/-- HOLD and the count of the FIFO (R164): empty with HOLD on while UNCONFIGURED; else on from 3,072 bytes up and off
up to 1,024. -/
def holdSound (s : State) : Bool :=
  if s.link.configured then
    (!decide (3072 ≤ s.stream.fifo.length) || s.stream.hold) &&
      (!decide (s.stream.fifo.length ≤ 1024) || !s.stream.hold)
  else s.stream.fifo.isEmpty && s.stream.hold

/-- A cue slot (R133, R136): a record stands in it while it is not IDLE, and it is ARMED only with a level-2
condition. -/
def cueSlotSound (c : CueSlot) : Bool :=
  match c.cue with
  | none => c.st == .idle
  | some r => c.st != .idle && (c.st != .armed || r.level2.kind != .absent)

/-- Every cue slot is sound. -/
def cuesSound (s : State) : Prop := ∀ i : Fin 16, cueSlotSound (cueSlot i s) = true

/-- While the Sequencer is not STOPPED its list is defined and its index is less than the list's length (R114). -/
def showSound (s : State) : Prop :=
  s.seqr.st ≠ .stopped →
    ∃ l, slideList s.seqr.owner s.seqr.list s = some l ∧ s.seqr.index < l.entries.length

/-- Regions wait on the deferred-free list only during a pass, and a snapshot stands only then (R6, R144, R151). -/
def passSound (s : State) : Prop :=
  s.comp.pass ≠ .drawing → s.objs.deferred = [] ∧ s.comp.snapshot = none

end Sys2Proof.Machine
end

