-- ==== Sys2Proof/Certificates/Slice0/Obligations.lean ====
section
/-! DEFINITION. The statements about the ND2240. -/

open Sys2Proof Sys2Proof.Machine

/-! ## The queue of commands -/

/-- A step carries out the command at the front of the queue with the queue's rest; on an empty queue the block
idles (log 5). -/
def Obligations.StepRunsFrontCommand : Prop :=
  (∀ c cs s, s.pending = c :: cs → step s = exec c (s.setPending cs)) ∧
  ∀ s, s.pending = [] → step s = .next s

/-- Every command goes on to a next state and leaves the commands that wait alone. Every step keeps this (log 1):
field-start work of a block is outstanding only while an event of a field start stands next in the queue, so that
no other command runs between a field start and the work the blocks do at it (R65, R94, R107, R121). -/
def Obligations.EveryCommandLeavesTheQueue : Prop :=
  (∀ c s, ∃ t, exec c s = .next t ∧ t.pending = s.pending) ∧
  ∀ s t, fieldWorkSound s = true → step s = .next t → fieldWorkSound t = true

/-! ## The control link -/

/-- NOP and CLEAR_CONDITIONS (R182, R184): reply OK; a condition stays set exactly where its mark in the mask is
clear; nothing else changes. -/
def Obligations.NopAndClearConditions : Prop :=
  (∀ s, linkFree s = true → exec .nop s = .next (answered 0x00 .ok [] 0 s)) ∧
  ∀ s mask, linkOpen s = true →
    exec (.clearConditions mask) s = .next ((answered 0x04 .ok [] 1 s).setLink
      { (answered 0x04 .ok [] 1 s).link with
        conds := ⟨s.link.conds.late && !mask.getLsbD 0, s.link.conds.noticeOverflow && !mask.getLsbD 1,
          s.link.conds.linkTimeout && !mask.getLsbD 2, s.link.conds.linkOverrun && !mask.getLsbD 3,
          s.link.conds.streamOverrun && !mask.getLsbD 4, s.link.conds.heapFull && !mask.getLsbD 5⟩ })

/-- A command frame that completes while another is in processing is dropped with LINK_OVERRUN (R177); on an
UNCONFIGURED part every command but NOP, SETUP and RESET is refused with NOT_CONFIGURED (R176). Nothing else
changes. -/
def Obligations.LinkTurnsCommandsAway : Prop :=
  ∀ i frame s, encodeFrame i = some frame → s.resetLow = false →
    (s.link.processing.isSome = true →
      exec i s = .next ((crossed (frame.length - 2) s).setLink
        { (crossed (frame.length - 2) s).link with
          conds := { s.link.conds with linkOverrun := true } })) ∧
    (s.link.processing = none → s.link.configured = false → i ≠ .nop → i ≠ .reset →
      (∀ f t, i ≠ .setup f t) →
      exec i s = .next (answered (byteAt frame 0) .notConfigured [] (frame.length - 2) s))

/-- Frames that are no command. One that fails the first three checks of R176 gets BAD_LENGTH for its shape,
BAD_COMMAND for its code, BAD_LENGTH for its payload length, in this order, and is not carried out. One that times
out is discarded (R175): LINK_TIMEOUT is set and no reply is placed. Nothing else changes. The record of the frame
in assembly is the model's (log 9); so is that a READ_NOTICE frame which times out after the notice's last byte keeps the
notice (log 40). -/
def Obligations.BrokenFramesAreNotCarriedOut : Prop :=
  (∀ frame s, isBadFrame frame = true → linkFree s = true →
      exec (.unknownCommand frame) s = .next (answeredFrame frame
        (if frame.length < 2 ∨ 250 < (byteAt frame 1).toNat ∨ frame.length ≠ 2 + (byteAt frame 1).toNat then
          .badLength
        else if payloadLength (byteAt frame 0) = none ∧ byteAt frame 0 ≠ 0x41 then .badCommand
        else .badLength) [] s)) ∧
  (∀ bytes s, s.resetLow = false →
      exec (.linkTimeout bytes) s = .next (s.setLink { s.link with
        conds := { s.link.conds with linkTimeout := true }
        frameBytes := []
        frameIgnored := true
        wire := if bytes = [] then s.link.wire else frameWire bytes s }))

/-- The read frames (R179, R180, R190, R191): after the link byte and the length byte LSDO carries the answer and then
0x00. READ_REPLY answers the reply slot or PENDING, READ_STATUS the status record, READ_NOTICE the oldest notice or
EMPTY; the notice leaves the queue exactly when its last byte has been shifted out, the 19th of the frame. A notice is
16 bytes (R191): kind, branch or source, no owner, owner; page; index; code; detail; the field counter modulo 65,536;
the time; each field most significant byte first. Free values of the model are bits 3 to 7 of the link byte (log 10),
the owner bit of a notice without an owner (log 11) and the byte carried with the length byte (log 38); the record of
LSDO is the model's (log 25). -/
def Obligations.ReadFramesAnswer : Prop :=
  (∀ x : Notice,
    let at_ (i : Nat) : Nat := (byteAt (noticeBytes x) i).toNat
    let half (i : Nat) : Nat := at_ i * 256 + at_ (i + 1)
    (noticeBytes x).length = 16 ∧
    at_ 0 % 32 = (match x.kind with
      | .actionReport => 1
      | .pageShown => 2
      | .pageHidden => 3
      | .keyUnused => 4
      | .outcomeFault => 5
      | .returnEmpty => 6
      | .stackWrap => 7
      | .cueFired => 8
      | .slideAdvanced => 9
      | .slideEnd => 10
      | .slideStopped => 11
      | .objectReady => 12
      | .objectFault => 13
      | .segmentFault => 14) ∧
    (byteAt (noticeBytes x) 0).getLsbD 5 = x.flag ∧ (byteAt (noticeBytes x) 0).getLsbD 6 = x.owner.isNone ∧
    (∀ o, x.owner = some o → (byteAt (noticeBytes x) 0).getLsbD 7 = (o == .player)) ∧
    at_ 1 = (match x.page with
      | none => 0xFF
      | some p => p.val) ∧
    half 2 = x.index.toNat ∧ half 4 = x.code.toNat ∧ half 6 * 65536 + half 8 = x.detail.toNat ∧
    half 10 = x.field.toNat % 65536 ∧ half 12 * 65536 + half 14 = x.time.toNat) ∧
  (∀ n s, s.resetLow = false → n ≠ 0 →
      exec (.readReply n) s = .next (frameCrossed ⟨linkByte s, if 2 ≤ n then some Config.readLengthByte else none,
        ((match s.link.processing with
          | some cmd => [0x01, cmd, 0]
          | none => [replyNumber s.link.reply.code, s.link.reply.cmd,
              BitVec.ofNat 8 s.link.reply.data.length] ++ s.link.reply.data) ++
          List.replicate (n - 2) 0).take (n - 2)⟩ s) ∧
      exec (.readStatus n) s = .next (frameCrossed ⟨linkByte s, if 2 ≤ n then some Config.readLengthByte else none,
        ([0x00, if s.link.configured then 1 else 0,
          (match s.comp.format with
            | none => 0xFF
            | some f => if s.link.configured then formatCode f else 0xFF),
          conditionMask s.link.conds, BitVec.ofNat 8 s.link.notices.length,
          BitVec.ofNat 8 s.nav.keys.length, BitVec.ofNat 8 s.stack.entries.length] ++
          (match focusEntry s with
            | none => [0xFF, 0xFF]
            | some e => [ownerCode e.page.owner, BitVec.ofNat 8 e.page.id.val]) ++
          [seqStateCode s.seqr.st, ownerCode s.seqr.owner, BitVec.ofNat 8 s.seqr.list.val,
            BitVec.ofNat 8 s.seqr.index] ++
          halfBytes (BitVec.ofNat 16 ((s.objs.free.map Region.count).sum)) ++ halfBytes s.recv.edition ++
          wordBytes s.disp.counter ++ wordBytes s.cues.time ++ [if s.cues.running then 1 else 0] ++
          List.replicate (n - 2) 0).take (n - 2)⟩ s)) ∧
  (∀ n s, s.resetLow = false → n ≠ 0 →
      (s.link.notices = [] → exec (.readNotice n) s = .next (frameCrossed
        ⟨linkByte s, if 2 ≤ n then some Config.readLengthByte else none,
          (0x0A :: List.replicate (n - 2) 0).take (n - 2)⟩ s)) ∧
      ∀ x rest, s.link.notices = x :: rest →
        (noticeBytes x).length = 16 ∧
        exec (.readNotice n) s = .next ((s.setLink { s.link with
          notices := if 19 ≤ n then rest else x :: rest
          wire := ⟨linkByte s, if 2 ≤ n then some Config.readLengthByte else none,
            ((0x00 :: noticeBytes x) ++ List.replicate (n - 2) 0).take (n - 2)⟩
          frameBytes := []
          frameIgnored := false })))

/-! ## Resets and settings -/

/-- POWER_ON, RESET_N and RESET leave every block at its reset value and the graphics memory as it was (R184, R185);
RESET_N holds its level low until RESET_N_RELEASE (R175, log 15), RESET answers RESET_DONE (R178). The reset values
that the manual does not give are the model's choice (log 25), and so is that POWER_ON may come at any
moment (log 30). -/
def Obligations.ResetsGiveResetValues : Prop :=
  (∀ s, exec .powerOn s = .next (powerOnState s)) ∧
  (∀ s, exec .resetN s = .next ((powerOnState s).setResetLow true)) ∧
  (∀ s, linkFree s = true → exec .reset s = .next ((powerOnState s).setLink
    { State.reset.link with wire := ⟨linkByte s, some 0, []⟩, reply := ⟨0x05, .resetDone, [], false⟩ })) ∧
  (∀ s, s.resetLow = true → exec .resetNRelease s = .next { s with
    resetLow := false, link := { s.link with frameBytes := [], frameIgnored := true } }) ∧
  ∀ s, s.resetLow = false → exec .resetNRelease s = .next s

/-- SETUP (R129, R153, R164, R184). Accepted: the part is CONFIGURED and the command in processing; ticks and
format are taken; a pass is abandoned and its deferred regions are free; every pixel of both planes is transparent
black and the rest of the graphics memory is as it was; HOLD turns off where the part was UNCONFIGURED; scan-out
stops. With a format code above 3 or with 0 ticks it is refused and changes nothing. The reply OK is placed when
the clearing is done. That the planes are cleared at once in the model is log 21. -/
def Obligations.SetupConfiguresAndClears : Prop :=
  (∀ s format ticks f, linkFree s = true → format? format = some f → ticks ≠ 0 →
      ∃ t, exec (.setup format ticks) s = .next t ∧
        t.link = { (crossed 3 s).link with
          configured := true, processing := some 0x06, reply := { s.link.reply with pending := true } } ∧
        t.cues = { s.cues with ticks := ticks } ∧
        t.stream = (if s.link.configured then s.stream else ⟨s.stream.fifo, false⟩) ∧
        t.comp = { s.comp with pass := .idle, snapshot := none, animation := false, recompose := true,
                               format := some f, clearing := true, progress := ⟨0, []⟩ } ∧
        t.disp = { s.disp with scanning := false } ∧
        t.objs = (if s.comp.pass = .drawing then (returnDeferred s).objs else s.objs) ∧
        (∀ p x y, x < 1920 → y < 1080 → readPixel t.mem p x y = transparentBlack) ∧
        (∀ a : Addr, imageBase ≤ a.toNat → t.mem.read a = s.mem.read a) ∧
        t.recv = s.recv ∧ t.relay = s.relay ∧ t.pals = s.pals ∧ t.pages = s.pages ∧ t.exch = s.exch ∧
        t.stack = s.stack ∧ t.nav = s.nav ∧ t.seqr = s.seqr ∧ t.due = s.due ∧ t.fresh = s.fresh) ∧
  ((∀ s format ticks, linkFree s = true → (4 ≤ format.toNat ∨ ticks = 0) →
      exec (.setup format ticks) s = .next (answered 0x06 .badArgument [] 3 s)) ∧
    ∀ s, s.resetLow = false → s.comp.clearing = true → s.link.processing = some 0x06 →
      exec .setupClearDone s =
        .next (placeReply 0x06 .ok [] (s.setComp { s.comp with clearing := false })))

/-- OUTPUT, TIME_RUN, TIME_HOLD, SET_VAR and GET_VAR (R110, R130, R163, R184): each writes its own item or answers
it; OUTPUT set from off to on raises the recompose request (R145); arguments out of range are refused. Each
completes in its own step (log 3). -/
def Obligations.SettingsAreWritten : Prop :=
  ∀ s, linkOpen s = true →
    exec (.output 0) s = .next ((answered 0x07 .ok [] 1 s).setDisp { s.disp with output := false }) ∧
    exec (.output 1) s = .next (((answered 0x07 .ok [] 1 s).setDisp { s.disp with output := true }).setComp
      { s.comp with recompose := s.comp.recompose || !s.disp.output }) ∧
    (∀ v, 2 ≤ v.toNat → exec (.output v) s = .next (answered 0x07 .badArgument [] 1 s)) ∧
    exec .timeRun s = .next ((answered 0x22 .ok [] 0 s).setCues { s.cues with running := true }) ∧
    exec .timeHold s = .next ((answered 0x23 .ok [] 0 s).setCues { s.cues with running := false }) ∧
    (∀ num value (h : num.toNat < 16), exec (.setVar num value) s =
      .next ((answered 0x20 .ok [] 5 s).setNav { s.nav with vars := s.nav.vars.set num.toNat value h })) ∧
    (∀ num value, 16 ≤ num.toNat → exec (.setVar num value) s = .next (answered 0x20 .badArgument [] 5 s)) ∧
    (∀ num (_ : num.toNat < 16), exec (.getVar num) s =
      .next (answered 0x21 .ok (wordBytes (s.nav.vars[num.toNat])) 1 s)) ∧
    ∀ num, 16 ≤ num.toNat → exec (.getVar num) s = .next (answered 0x21 .badArgument [] 1 s)

/-! ## Stream port and lanes -/

/-- STREAM_BYTE (R164, R165): dropped while UNCONFIGURED; joins the tail of a FIFO with room, HOLD turning on at 3,072;
a full FIFO is emptied with STREAM_OVERRUN, HOLD off, the DISC lane in HUNT with what it held abandoned, and a waiting
PLAYER segment is then served (R172). Of an OBJECT part in flight (R13, R15) the decode is abandoned, its region
released, deferred during a pass, the entry has its former state again and the skipping mark, and OBJECT_FAULT OVERRUN
carries the expected sequence number; without a decode nothing happens. -/
def Obligations.StreamBytesJoinTheFifo : Prop :=
  (∀ s (i : Fin 512),
    let e := objEntry i s
    (e.incoming = none → overrunPart i s = s) ∧
    ∀ inc lane (id : Half), e.incoming = some inc → objectIndex lane id.toNat = some i →
      overrunPart i s = post .objectFault (some lane) none id 2 (e.expectSeq.setWidth 32) false (s.setObjs {
        dir := s.objs.dir.set i { e with
          st := if e.st = .replacing then .ready else .empty
          incoming := none, expectSeq := 0, expectBytes := 0, damage := false, skipping := true }
        free := if s.comp.pass = .drawing then s.objs.free else giveBack inc.region s.objs.free
        deferred := if s.comp.pass = .drawing then s.objs.deferred ++ [inc.region] else s.objs.deferred })) ∧
  ∀ b s, s.resetLow = false →
    (s.link.configured = false → exec (.streamByte b) s = .next s) ∧
    (s.link.configured = true → s.stream.fifo.length < 4096 → exec (.streamByte b) s =
      .next (s.setStream ⟨s.stream.fifo ++ [b],
        if 3072 ≤ s.stream.fifo.length + 1 then true else s.stream.hold⟩)) ∧
    (s.link.configured = true → s.stream.fifo.length = 4096 →
      let lost := (s.setLink { s.link with conds := { s.link.conds with streamOverrun := true } }).setStream
        ⟨[], false⟩
      (∀ f k len left got, s.recv.disc = .payload k len left got (some f) → exec (.streamByte b) s =
        .next (serve ((overrunPart f.entry lost).setRecv
          { (overrunPart f.entry lost).recv with disc := .hunt false }))) ∧
      ((∀ f k len left got, s.recv.disc ≠ .payload k len left got (some f)) → exec (.streamByte b) s =
        .next (serve (lost.setRecv { s.recv with disc := .hunt false }))))

/-- DISC_LANE_BYTE (R164, R166, R167, R168, R172): the lane takes the head of the FIFO, HOLD turning off at 1,024; in
HUNT it looks for 0xC3 0x3C; in HEADER it collects, and the third byte makes a pending start, which is served; with a
pending start it takes nothing; in PAYLOAD of a kind that collects it collects and hands the whole over at the end; of
an OBJECT it holds back the bytes up to the fixed fields, refuses a FIRST part of fewer than 12 bytes, begins the part,
and hands each later byte to the entry; a payload that ends with its fixed fields, or before them, ends the segment
there, the part with LAST completing its object (R12); in SKIP it discards, and after the last byte BAD_KIND is posted
where the kind was unknown. Serving in the same step is log 2. -/
def Obligations.DiscLaneTakesBytes : Prop :=
  ∀ s b rest, s.resetLow = false → s.stream.fifo = b :: rest →
    let t := s.setStream ⟨rest, if rest.length ≤ 1024 then false else s.stream.hold⟩
    (∀ m, s.recv.disc = .hunt m → s.relay.st ≠ .complete → exec .discLaneByte s =
      .next (t.setRecv { s.recv with disc :=
        if b = 0x3C ∧ m = true then .header [] else .hunt (b == 0xC3) })) ∧
    (∀ got, s.recv.disc = .header got → got.length < 2 → s.relay.st ≠ .complete →
      exec .discLaneByte s = .next (t.setRecv { s.recv with disc := .header (got ++ [b]) })) ∧
    (∀ got, s.recv.disc = .header got → 3 ≤ got.length → exec .discLaneByte s = .next s) ∧
    (∀ k len left got, s.recv.disc = .payload k len left got none → k ≠ 0x11 → 2 ≤ left →
      exec .discLaneByte s =
        .next (t.setRecv { s.recv with disc := .payload k len (left - 1) (got ++ [b]) none })) ∧
    (∀ k len got, s.recv.disc = .payload k len 1 got none → k ≠ 0x11 → s.relay.st ≠ .complete →
      exec .discLaneByte s = .next (setLane (.hunt false) (handSegment .disc k (got ++ [b]) t))) ∧
    (∀ k len left bad, s.recv.disc = .skip k len left bad → 2 ≤ left →
      exec .discLaneByte s = .next (t.setRecv { s.recv with disc := .skip k len (left - 1) bad })) ∧
    (∀ k kind length, s.recv.disc = .header [k, kind] → length = [k, kind, b] →
      (s.relay.st ≠ .complete → exec .discLaneByte s =
        .next (serveDisc length (t.setRecv { s.recv with disc := .header length }))) ∧
      (s.relay.st = .complete → exec .discLaneByte s =
        .next (serve (t.setRecv { s.recv with disc := .header length })))) ∧
    (∀ k len bad, s.recv.disc = .skip k len 1 bad → s.relay.st ≠ .complete →
      exec .discLaneByte s = .next (setLane (.hunt false)
        (if bad = true then segmentFaultNotice .disc k 0x00 0 len t else t))) ∧
    (∀ len left got f, s.recv.disc = .payload 0x11 len left got (some f) → 2 ≤ left →
      exec .discLaneByte s =
        .next (setLane (.payload 0x11 len (left - 1) got (some f)) (feedByte f.entry b t))) ∧
    (∀ len got f, s.recv.disc = .payload 0x11 len 1 got (some f) → s.relay.st ≠ .complete →
      exec .discLaneByte s = .next (setLane (.hunt false)
        (if f.last = true then completeObject f.entry (feedByte f.entry b t) else feedByte f.entry b t))) ∧
    (∀ len left got, s.recv.disc = .payload 0x11 len left got none → 2 ≤ left →
      let held := got ++ [b]
      let first := (byteAt held 2).getLsbD 0
      let fixed := if first = true then 12 else 4
      (held.length = 3 → first = true → len < 12 → exec .discLaneByte s = .next (setLane
        (.skip 0x11 len (left - 1) false) (segmentFaultNotice .disc 0x11 0x02 0 len t))) ∧
      (held.length < fixed → ¬ (held.length = 3 ∧ first = true ∧ len < 12) →
        exec .discLaneByte s = .next (t.setRecv { s.recv with
          disc := .payload 0x11 len (left - 1) held none })) ∧
      (4 ≤ held.length → held.length = fixed → exec .discLaneByte s = .next (
        match beginPart .disc (parsePart held) t with
        | (u, none) => setLane (.skip 0x11 len (left - 1) false) u
        | (u, some i) => setLane (.payload 0x11 len (left - 1) held (some ⟨i, byteAt held 2 &&& 2 = 2⟩)) u))) ∧
    ∀ len got, s.recv.disc = .payload 0x11 len 1 got none →
      let held := got ++ [b]
      let first := (byteAt held 2).getLsbD 0
      let fixed := if first = true then 12 else 4
      let ended (u : State) : Host.Outcome State Fault Refusal := .next (serve (setLane (.hunt false) u))
      (held.length = 3 → first = true → len < 12 →
        exec .discLaneByte s = ended (segmentFaultNotice .disc 0x11 0x02 0 len t)) ∧
      (held.length < fixed → ¬ (held.length = 3 ∧ first = true ∧ len < 12) → exec .discLaneByte s = ended t) ∧
      (4 ≤ held.length → held.length = fixed → exec .discLaneByte s = ended (
        match beginPart .disc (parsePart held) t with
        | (u, none) => u
        | (u, some i) => if byteAt held 2 &&& 2 = 2 then completeObject i u else u))

/-- SEGMENT_SERVE (R172): a busy receiver serves nothing; a lane that waits alone is served; when both wait, the
lane that was not served last goes first, and the other goes next once the receiver is free. Serving one lane and
then the other in one step is log 2. What serving does (R167, R168, R171): the header is judged by the table, the lane
becomes the last one served; on DISC an accepted header turns the lane to PAYLOAD and a refused one to SKIP, with its
notice at once but for BAD_KIND, a stated length of 0 ending the segment at once; a PLAYER segment is handed over whole
or discarded with its notice, and the relay buffer is EMPTY. Handing over is what each segment row does. -/
def Obligations.LanesAreServedInTurn : Prop :=
  (∀ s, s.resetLow = false →
    (receiverFree s = false → exec .segmentServe s = .next s) ∧
    (receiverFree s = true → discPending s = false → s.relay.st ≠ .complete →
      exec .segmentServe s = .next s) ∧
    (receiverFree s = true → discPending s = false → s.relay.st = .complete →
      exec .segmentServe s = .next (servePlayer s)) ∧
    (discPending s = true → s.relay.st ≠ .complete →
      exec .segmentServe s = .next (serveDisc (pendingHeader s) s)) ∧
    (discPending s = true → s.relay.st = .complete → s.recv.lastServed = .disc →
      exec .segmentServe s = .next (serveDisc (pendingHeader s) (servePlayer s))) ∧
    (discPending s = true → s.relay.st = .complete → s.recv.lastServed = .player →
      exec .segmentServe s =
        .next (if receiverFree (serveDisc (pendingHeader s) s) = true then
            servePlayer (serveDisc (pendingHeader s) s)
          else serveDisc (pendingHeader s) s))) ∧
  (∀ lane (kind : Byte) len, headerFault lane kind len =
    if kind ∉ [(0x01 : Byte), 0x02, 0x10, 0x11, 0x12, 0x13, 0x14, 0x1F] then some 0x00
    else if lane = .player ∧ (kind = 0x01 ∨ kind = 0x02) then some 0x01
    else if (kind = 0x12 ∧ (len < 32 ∨ 4080 < len)) ∨ ((kind = 0x10 ∨ kind = 0x13) ∧ len < 3) ∨
        (kind = 0x11 ∧ len < 4) then some 0x02
    else none) ∧
  (∀ s got,
    let kind := byteAt got 0
    let len := (halfAt got 1).toNat
    let served := s.setRecv { s.recv with lastServed := .disc }
    (headerFault .disc kind len = none → len ≠ 0 →
      serveDisc got s = setLane (.payload kind len len [] none) served) ∧
    (headerFault .disc kind len = none → len = 0 →
      serveDisc got s = setLane (.hunt false) (handSegment .disc kind [] served)) ∧
    (headerFault .disc kind len = some 0x00 → serveDisc got s =
      if len = 0 then setLane (.hunt false) (segmentFaultNotice .disc kind 0x00 0 0 served)
      else setLane (.skip kind len len true) served) ∧
    ∀ code, headerFault .disc kind len = some code → code ≠ 0x00 → serveDisc got s =
      setLane (if len = 0 then .hunt false else .skip kind len len false)
        (segmentFaultNotice .disc kind code 0 len served)) ∧
  (∀ s, s.relay.data.length = s.relay.len.toNat →
    let served := s.setRecv { s.recv with lastServed := .player }
    (headerFault .player s.relay.kind s.relay.len.toNat = none → servePlayer s =
      (handSegment .player s.relay.kind s.relay.data served).setRelay relayReset) ∧
    ∀ code, headerFault .player s.relay.kind s.relay.len.toNat = some code → servePlayer s =
      (segmentFaultNotice .player s.relay.kind code 0 s.relay.len.toNat served).setRelay relayReset) ∧
  ∀ i lane kind p s, segmentOf i = some (lane, kind, p) → laneOpen s = true →
    headerFault lane kind p.length = none → exec i s = .next (handSegment lane kind p s)

/-- SEG_OPEN, SEG_DATA and ERASE_PLAYER (R169, R170, R171, R186): the replies and the relay buffer in every case; a
buffer that turns COMPLETE is a pending start, served at once where the receiver is free (R172). ERASE_PLAYER discards
the buffer whatever it holds, erases the player owner and answers OK; what the erase does is OwnerErasesClearOneOwner. -/
def Obligations.RelayBufferFills : Prop :=
  ∀ s, linkOpen s = true →
    (exec .erasePlayer s = .next (placeReply 0x42 .ok [] (eraseOwner .player ((crossed 0 s).setRelay relayReset))) ∧
      ∃ t, exec .erasePlayer s = .next t ∧ t.relay = ⟨.empty, 0, 0, []⟩ ∧ t.recv = s.recv ∧
        t.link.reply = ⟨0x42, .ok, [], false⟩ ∧ t.link.processing = none) ∧
    (∀ k n, s.relay.st ≠ .empty → exec (.segOpen k n) s = .next (answered 0x40 .busy [] 3 s)) ∧
    (∀ k n, s.relay.st = .empty → 4096 < n.toNat →
      exec (.segOpen k n) s = .next (answered 0x40 .badLength [] 3 s)) ∧
    (∀ k n, s.relay.st = .empty → n.toNat ≤ 4096 → exec (.segOpen k n) s =
      .next (placeReply 0x40 .ok [] (serve ((crossed 3 s).setRelay
        ⟨if n = 0 then .complete else .filling, k, n, []⟩)))) ∧
    (∀ bs, s.relay.st ≠ .filling →
      exec (.segData bs) s = .next (answered 0x41 .wrongState [] bs.length s)) ∧
    (∀ bs, s.relay.st = .filling → s.relay.data.length + bs.length < s.relay.len.toNat →
      exec (.segData bs) s = .next (placeReply 0x41 .ok [] (serve ((crossed bs.length s).setRelay
        { s.relay with data := s.relay.data ++ bs })))) ∧
    (∀ bs, s.relay.st = .filling → s.relay.data.length + bs.length = s.relay.len.toNat →
      exec (.segData bs) s = .next (placeReply 0x41 .ok [] (serve ((crossed bs.length s).setRelay
        { s.relay with st := .complete, data := s.relay.data ++ bs })))) ∧
    ∀ bs, s.relay.st = .filling → s.relay.data.length < s.relay.len.toNat →
      s.relay.len.toNat < s.relay.data.length + bs.length →
      exec (.segData bs) s = .next (placeReply 0x41 .badLength [] (serve ((crossed bs.length s).setRelay
        { s.relay with
          st := .complete
          data := s.relay.data ++ bs.take (s.relay.len.toNat - s.relay.data.length) })))

/-! ## Segments -/

/-- The judging of a header (R168) of a whole segment: EDITION and TIME on the PLAYER lane get OWNER, a PAGE above
4,080 bytes and a PALETTE, PAGE or SLIDELIST below its fixed part get BAD_LENGTH, each with id 0 and the stated
length; nothing else changes. On an UNCONFIGURED part no segment is taken (R164, log 16). -/
def Obligations.HeadersAreJudged : Prop :=
  ∀ i lane kind p s, segmentOf i = some (lane, kind, p) → s.resetLow = false →
    (s.link.configured = false → exec i s = .next s) ∧
    (s.link.configured = true →
      (lane = .player → (kind = 0x01 ∨ kind = 0x02) →
        exec i s = .next (segmentFaultNotice lane kind 0x01 0 p.length s)) ∧
      ((kind = 0x12 ∧ (4080 < p.length ∨ p.length < 32)) ∨ (kind = 0x10 ∧ p.length < 3) ∨
          (kind = 0x13 ∧ p.length < 3) →
        exec i s = .next (segmentFaultNotice lane kind 0x02 0 p.length s)))

/-- TIME (R131, R138): the time takes the value of the segment; with DISCONTINUITY the disc cues that are ARMED,
RESTING or FIRED go back to WATCHING; a payload of another length is refused with detail 0. -/
def Obligations.TimeSegmentSetsTime : Prop :=
  ∀ p s, laneOpen s = true →
    (p.length ≠ 5 → exec (.time .disc p) s = .next (segmentFaultNotice .disc 0x02 0x02 0 0 s)) ∧
    (p.length = 5 → ∃ t, exec (.time .disc p) s = .next t ∧ t = s.setCues t.cues ∧
      t.cues.time = wordAt p 0 ∧ t.cues.running = s.cues.running ∧ t.cues.ticks = s.cues.ticks ∧
      ∀ i : Fin 16, cueSlot i t =
        if (byteAt p 4).getLsbD 0 = true ∧ i.val < 8 ∧ ((cueSlot i s).st = .armed ∨
            (cueSlot i s).st = .resting ∨ (cueSlot i s).st = .fired) then
          ⟨.watching, (cueSlot i s).cue⟩
        else cueSlot i s)

/-- PALETTE (R24): the record count, the payload length and the palette id are checked in this order; an accepted
segment writes its records into the pending copy, the last record of an index deciding, sets the changed flag,
raises the recompose request, and touches neither the live copy nor another palette. -/
def Obligations.PaletteSegmentWritesPending : Prop :=
  ∀ lane p s, laneOpen s = true → 3 ≤ p.length →
    let n := (halfAt p 1).toNat
    let id : Half := (byteAt p 0).setWidth 16
    ((n = 0 ∨ 256 < n) →
      exec (.palette lane p) s = .next (segmentFaultNotice lane 0x10 0x03 id 1 s)) ∧
    (1 ≤ n → n ≤ 256 → p.length ≠ 3 + 5 * n →
      exec (.palette lane p) s = .next (segmentFaultNotice lane 0x10 0x02 id 0 s)) ∧
    (1 ≤ n → n ≤ 256 → p.length = 3 + 5 * n → 8 ≤ (byteAt p 0).toNat →
      exec (.palette lane p) s = .next (segmentFaultNotice lane 0x10 0x03 id 0 s)) ∧
    ∀ j : Fin 8, 1 ≤ n → n ≤ 256 → p.length = 3 + 5 * n → (byteAt p 0).toNat = j.val →
      ∃ q : Palette, exec (.palette lane p) s =
          .next (raiseRecompose (s.setPals (s.pals.set (paletteIndex lane j) q))) ∧
        q.live = (s.pals[paletteIndex lane j]).live ∧ q.changed = true ∧
        ∀ e : Fin 256, q.pending[e] =
          match (paletteRecords p).reverse.find? (fun r => r.1.toNat == e.val) with
          | none => (s.pals[paletteIndex lane j]).pending[e]
          | some r => r.2

/-- CUE (R134, R135): an accepted segment puts its record into the slot of the lane owner's id, WATCHING whatever
it held. SLIDELIST (R113, R126): an accepted segment replaces the list of the lane owner's id; a show that runs
this list stops and every field of R114 takes its reset value. A refused segment changes nothing but the notices. The
checks: of a CUE its length, then its fields; of a SLIDELIST its entry count, its length, then its fields; the first bad
field in payload order gives BAD_FIELD and its offset (log 19 for the offsets). -/
def Obligations.CueAndSlideListSegmentsDefine : Prop :=
  (∀ p, (p.length ≠ 32 → cueFault p = some (0x02, 0)) ∧
    (p.length = 32 → refusedAtFirst (cueBad p) (cueFault p))) ∧
  (∀ p,
    let n := (byteAt p 2).toNat
    (n = 0 ∨ 128 < n → slideListFault p = some (0x03, 2)) ∧
    (1 ≤ n → n ≤ 128 → p.length ≠ 3 + 5 * n → slideListFault p = some (0x02, 0)) ∧
    (1 ≤ n → n ≤ 128 → p.length = 3 + 5 * n → refusedAtFirst (slideListBad p n) (slideListFault p))) ∧
  (∀ lane p s, laneOpen s = true →
      (∀ code detail, cueFault p = some (code, detail) → exec (.cue lane p) s =
        .next (segmentFaultNotice lane 0x14 code ((byteAt p 0).setWidth 16) detail s)) ∧
      ∀ id : Fin 8, cueFault p = none → (byteAt p 0).toNat = id.val → exec (.cue lane p) s =
        .next (s.setCues { s.cues with
          slots := s.cues.slots.set (cueIndex lane id) ⟨.watching, some (parseCue p)⟩ })) ∧
  (∀ lane p s, laneOpen s = true → 3 ≤ p.length →
      (∀ code detail, slideListFault p = some (code, detail) → exec (.slidelist lane p) s =
        .next (segmentFaultNotice lane 0x13 code ((byteAt p 0).setWidth 16) detail s)) ∧
      ∀ id : Fin 2, slideListFault p = none → (byteAt p 0).toNat = id.val →
        (¬ (s.seqr.st ≠ .stopped ∧ s.seqr.owner = lane ∧ s.seqr.list = id) →
          exec (.slidelist lane p) s = .next (s.setSeqr { s.seqr with
            lists := s.seqr.lists.set (listIndex lane id) (some (parseSlideList p)) })) ∧
        (s.seqr.st ≠ .stopped → s.seqr.owner = lane → s.seqr.list = id →
          ∃ t, exec (.slidelist lane p) s = .next t ∧
            t.seqr = sequencerReset (s.seqr.lists.set (listIndex lane id) (some (parseSlideList p)))))

/-- PAGE (R34, R37, R39, R40, R59, R68, R81, R127): a refused payload changes nothing but the notices; the checks are
the count limits, the length, then every field of the table in payload order (log 19 for the offsets). An accepted one
is stored byte for byte in the page image and the directory entry takes its kind and length; beside that no byte of the
graphics memory and nothing outside the exchange, the stack, the navigation and the show changes. A page that was not
defined is not resident. Of a page that was: its activation and the changes held for it are discarded, its controller
request is cleared, a save of it is abandoned and the exchange goes to LOAD or, where it is cancelled, ends and takes up
its next work (R52); its READY slot reloads in place; a queued request, an incoming page and a slot that reloads already
stay, which will load the new image. A change of kind removes its stack entry as REMOVED. AUTO_SHOW of a MENU record then
shows the page as SHOW PLAIN does, where it has no entry: after a cut where 5 entries stand, and with OUTCOME_FAULT
STACK_FULL where none is LEAVING. At last the show is told (DeleteRemovesTheItem says what it does) and keys are
delivered (log 12). That a slot keeps its other fields during a reload in place is the model's choice (log 31). -/
def Obligations.PageSegmentDefinesAPage : Prop :=
  (∀ lane p,
    let np := (byteAt p 30).toNat
    let nb := (byteAt p 31).toNat
    (33 ≤ np → pageFault lane p = some (0x03, 30)) ∧
    (np ≤ 32 → 25 ≤ nb → pageFault lane p = some (0x03, 31)) ∧
    (np ≤ 32 → nb ≤ 24 → p.length ≠ 32 + 15 * np + 49 * nb → pageFault lane p = some (0x02, 0)) ∧
    (np ≤ 32 → nb ≤ 24 → p.length = 32 + 15 * np + 49 * nb →
      refusedAtFirst (pageBad lane p np nb) (pageFault lane p))) ∧
  (∀ lane p s, laneOpen s = true → 32 ≤ p.length → p.length ≤ 4080 →
    (∀ code detail, pageFault lane p = some (code, detail) → exec (.page lane p) s =
      .next (segmentFaultNotice lane 0x12 code ((byteAt p 0).setWidth 16) detail s)) ∧
    ∀ id : Fin 32, pageFault lane p = none → (byteAt p 0).toNat = id.val →
      let r : PageRef := ⟨lane, id⟩
      let kind : PageKind := if byteAt p 1 = 1 then .slide else .menu
      let autoShow := (byteAt p 4).getLsbD 0 = true ∧ kind = .menu
      let defined (slot : Option (Fin 6)) : State := (s.setMem (s.mem.writeBytes (imageAddr r) p)).setPages
        (s.pages.set (pageIndex r) ⟨true, kind, p.length, false, slot⟩)
      (∃ t, exec (.page lane p) s = .next t ∧ still t = still (defined none) ∧
        (s.mem.wf = true → t.mem.readBytes (imageAddr r) p.length = p)) ∧
      ((pageEntry r s).defined = false → exec (.page lane p) s =
        .next (deliverKeys (if autoShow then autoShowPage r (defined none) else defined none))) ∧
      ((pageEntry r s).defined = true →
        let told := dropReturnSel (fun x => x == r) (exchangeRedefined r (defined (pageEntry r s).slot))
        let standing := if (pageEntry r s).kind = kind then told else removeEntry r (some 3) told
        exec (.page lane p) s = .next (deliverKeys (sequencerPageChanged r
          (if autoShow ∧ entryOf r standing = none then autoShowPage r standing else standing))))) ∧
  (∀ s r,
    (entryOf r s = none → s.stack.entries.length < 5 →
      autoShowPage r s = addEntering r (topOfBand (menuBand r.owner) s) s) ∧
    (∀ y, entryOf r s = none → 5 ≤ s.stack.entries.length → oldestLeaving s = some y →
      let u := removeEntry y.page (some hiddenCut) s
      autoShowPage r s = addEntering r (topOfBand (menuBand r.owner) u) u) ∧
    (entryOf r s = none → 5 ≤ s.stack.entries.length → (∀ y ∈ s.stack.entries, y.st ≠ .leaving) →
      autoShowPage r s = post .outcomeFault (some r.owner) (some r.id) 0xFFFF 1 0 false s) ∧
    ∀ e, entryOf r s = some e → autoShowPage r s = if e.st = .leaving then restoreEntry r s else s) ∧
  ∀ s r,
    let saveGone := match s.exch.current with
      | none => s
      | some x =>
        if x.stage = .save ∧ (slotAt x.slot s).page = some r then s.setExch { s.exch with
          slots := s.exch.slots.set x.slot
            (if x.cancelled = true then slotReset else { slotReset with st := .loading, page := some x.page })
          current := if x.cancelled = true then none else some { x with stage := .load } }
        else s
    let u := takeUp (if s.exch.ctrlReq = some r then
        (saveGone.setExch { saveGone.exch with ctrlReq := none }).setNav
          { s.nav with heldEnables := [], heldSelect := none }
      else saveGone)
    (readySlot r u = none → exchangeRedefined r s = u) ∧
    (∀ k, readySlot r u = some k → exchangeRedefined r s =
      setSlot k { slotAt k (cancelActivation k u) with st := .loading } (cancelActivation k u)) ∧
    ∀ x, s.exch.current = some x → ¬ (x.stage = .save ∧ (slotAt x.slot s).page = some r) →
      (exchangeRedefined r s).exch.queue = s.exch.queue ∧
      (exchangeRedefined r s).exch.current = some x ∧
      (exchangeRedefined r s).pages = s.pages ∧
      ((∀ k, readySlot r s ≠ some k ∨ k ≠ x.slot) →
        slotAt x.slot (exchangeRedefined r s) = slotAt x.slot s) ∧
      ∀ k, (slotAt k s).st = .loading → slotAt k (exchangeRedefined r s) = slotAt k s

/-- OBJECT_FIRST_PART (R9, R10, R11, R16): a field out of range refuses the part at its offset; a decode in
progress is abandoned with OBJECT_FAULT SEQUENCE before anything else; then the granules are allocated and a new
decode takes the part's data, LAST completing it; where the allocation fails the entry is marked to skip,
HEAP_FULL is set and OBJECT_FAULT NO_SPACE gives the granules asked for. -/
def Obligations.FirstPartStartsADecode : Prop :=
  ∀ lane id last seq w h total data s, laneOpen s = true →
    let part := Instr.objectFirstPart lane id last seq w h total data
    let n := (w.toNat * h.toNat + 255) / 256
    (objectIndex lane id.toNat = none →
      exec part s = .next (segmentFaultNotice lane 0x11 0x03 id 0 s)) ∧
    ∀ i : Fin 512, objectIndex lane id.toNat = some i →
      (seq ≠ 0 → exec part s = .next (segmentFaultNotice lane 0x11 0x03 id 3 s)) ∧
      (seq = 0 → (w = 0 ∨ 1920 < w.toNat) →
        exec part s = .next (segmentFaultNotice lane 0x11 0x03 id 4 s)) ∧
      (seq = 0 → w ≠ 0 → w.toNat ≤ 1920 → (h = 0 ∨ 1080 < h.toNat) →
        exec part s = .next (segmentFaultNotice lane 0x11 0x03 id 6 s)) ∧
      (seq = 0 → w ≠ 0 → w.toNat ≤ 1920 → h ≠ 0 → h.toNat ≤ 1080 →
        (∀ inc, (objEntry i s).incoming = some inc → exec part s =
          exec part (post .objectFault (some lane) none id 0 ((objEntry i s).expectSeq.setWidth 32) false
            (abandonDecode i s))) ∧
        (∀ r free, (objEntry i s).incoming = none → allocate n s.objs.free = some (r, free) →
          exec part s =
            .next ((if last = true then completeObject i else fun t => t) (feedBytes i data
              (s.setObjs { s.objs with
                free := free
                dir := s.objs.dir.set i { objEntry i s with
                  st := if (objEntry i s).st = .ready then .replacing else .loading
                  incoming := some ⟨r, w.toNat, h.toNat, 0, 0, .idle⟩
                  expectSeq := 1, expectBytes := total, damage := false, skipping := false } })))) ∧
        ((objEntry i s).incoming = none → allocate n s.objs.free = none →
          exec part s = .next (setObjEntry i { objEntry i s with skipping := true }
            (setHeapFull (post .objectFault (some lane) none id 1 (BitVec.ofNat 32 n) false s)))))

/-- OBJECT_PART (R9, R12, R13, R14): an id out of range refuses the part; the part with the expected number goes on
with the decode, and LAST makes the incoming content current; any other part is a sequence fault: the decode, if
one is in progress, is abandoned, the entry is marked to skip, OBJECT_FAULT SEQUENCE carries the part's number; with
the mark set and no decode nothing happens. Abandonment gives the entry its former state back and releases the
incoming region, deferred during a pass, and changes nothing else. Completion makes the incoming region current and
releases the former one, deferred during a pass, posts OBJECT_FAULT DAMAGED where the data was damaged or short, then
OBJECT_READY for a player object, and raises the recompose request; the bytes it pads are in DecodeWritesTheRegion. -/
def Obligations.LaterPartsContinueOrFault : Prop :=
  ∀ lane id last seq data s, laneOpen s = true →
    (objectIndex lane id.toNat = none → exec (.objectPart lane id last seq data) s =
      .next (segmentFaultNotice lane 0x11 0x03 id 0 s)) ∧
    ∀ i : Fin 512, objectIndex lane id.toNat = some i →
    (∀ inc, (objEntry i s).incoming = some inc → seq = (objEntry i s).expectSeq →
      exec (.objectPart lane id last seq data) s =
        .next ((if last = true then completeObject i else fun t => t) (feedBytes i data
          (s.setObjs { s.objs with
            dir := s.objs.dir.set i { objEntry i s with expectSeq := (objEntry i s).expectSeq + 1 } })))) ∧
    (∀ inc, (objEntry i s).incoming = some inc → seq ≠ (objEntry i s).expectSeq →
      exec (.objectPart lane id last seq data) s =
          .next (setObjEntry i { objEntry i (abandonDecode i s) with skipping := true }
            (post .objectFault (some lane) none id 0 (seq.setWidth 32) false (abandonDecode i s))) ∧
        abandonDecode i s = s.setObjs {
          dir := s.objs.dir.set i { objEntry i s with
            st := if (objEntry i s).st = .replacing then .ready else .empty
            incoming := none, expectSeq := 0, expectBytes := 0, damage := false }
          free := if s.comp.pass = .drawing then s.objs.free else giveBack inc.region s.objs.free
          deferred := if s.comp.pass = .drawing then s.objs.deferred ++ [inc.region]
            else s.objs.deferred }) ∧
    ((objEntry i s).incoming = none → (objEntry i s).skipping = true →
      exec (.objectPart lane id last seq data) s = .next s) ∧
    ((objEntry i s).incoming = none → (objEntry i s).skipping = false →
      exec (.objectPart lane id last seq data) s =
        .next (setObjEntry i { objEntry i s with skipping := true }
          (post .objectFault (some lane) none id 0 (seq.setWidth 32) false s))) ∧
    ∀ inc, (objEntry i s).incoming = some inc →
      objEntry i (completeObject i s) = { objEntry i s with
        st := .ready, width := inc.width, height := inc.height, current := some inc.region
        incoming := none, expectSeq := 0, expectBytes := 0, damage := false } ∧
      (completeObject i s).comp.recompose = true ∧
      let e := objEntry i s
      let damaged := e.damage = true ∨ e.expectBytes ≠ 0 ∨ inc.row < inc.height
      let former := e.current.toList
      let current := (s.setMem (completeObject i s).mem).setObjs {
        dir := s.objs.dir.set i { e with
          st := .ready, width := inc.width, height := inc.height, current := some inc.region
          incoming := none, expectSeq := 0, expectBytes := 0, damage := false }
        free := if s.comp.pass = .drawing then s.objs.free
          else former.foldl (fun f r => giveBack r f) s.objs.free
        deferred := if s.comp.pass = .drawing then s.objs.deferred ++ former else s.objs.deferred }
      let told := if damaged then post .objectFault (some lane) none id 3 0 false current else current
      completeObject i s = raiseRecompose (if lane = .player then
        post .objectReady (some .player) none id (BitVec.ofNat 16 inc.width) (BitVec.ofNat 32 inc.height) false told
        else told)

/-- DELETE (R20, R26, R41, R60, R81, R113, R126, R127, R135, R174): a refused payload (length, item kind, id beyond the
range of the kind for the lane's owner, in this order) changes nothing but the notices; an accepted one leaves the item
of the lane's owner empty, reset, undefined or IDLE, and changes no other item and nothing of the graphics memory, but
for what a pass that is DRAWING draws at a palette's change (log 6). OBJECT: its regions, incoming first, are released,
deferred during a pass; recompose is raised where it was drawn. SLIDELIST: a show that runs the list stops with
REDEFINED. PAGE: not defined, nothing; else it leaves the exchange, which takes up its next work, its stack entry is
removed as REMOVED, the show is told, and keys are delivered (log 12). In the exchange: its requests, its controller
request and what is held for it go; as incoming page its load is abandoned, or a save in favour of it is cancelled; its
own save is abandoned for the incoming page; its slot empties. A show whose entries name the page acts by its part:
shown, awaited (log 26), outgoing, incoming, wanted, or none. That a slide brought back to full level keeps its place
is log 32. -/
def Obligations.DeleteRemovesTheItem : Prop :=
  (∀ lane p,
    (p.length ≠ 3 → deleteFault lane p = some (0x02, p.length)) ∧
    (p.length = 3 → byteAt p 0 ∉ [(0x10 : Byte), 0x11, 0x12, 0x13, 0x14] → deleteFault lane p = some (0x03, 0)) ∧
    ∀ ids, (byteAt p 0, ids) ∈ [((0x11 : Byte), if lane = .disc then 384 else 128), (0x10, 8), (0x12, 32), (0x13, 2),
        (0x14, 8)] → p.length = 3 →
      deleteFault lane p = if (halfAt p 1).toNat < ids then none else some (0x03, 1)) ∧
  (∀ lane p s, laneOpen s = true →
    (∀ code detail, deleteFault lane p = some (code, detail) → exec (.delete lane p) s =
      .next (segmentFaultNotice lane 0x1F code (if 3 ≤ p.length then halfAt p 1 else 0) detail s)) ∧
    (deleteFault lane p = none →
      (∀ i : Fin 512, byteAt p 0 = 0x11 → objectIndex lane (halfAt p 1).toNat = some i →
        let e := objEntry i s
        let regions := (e.incoming.map Incoming.region).toList ++ e.current.toList
        let gone := s.setObjs {
          dir := s.objs.dir.set i objEntryReset
          free := if s.comp.pass = .drawing then s.objs.free
            else regions.foldl (fun f r => giveBack r f) s.objs.free
          deferred := if s.comp.pass = .drawing then s.objs.deferred ++ regions else s.objs.deferred }
        exec (.delete lane p) s =
          .next (if e.st = .ready ∨ e.st = .replacing then raiseRecompose gone else gone)) ∧
      (∀ q : Fin 8, byteAt p 0 = 0x10 → (halfAt p 1).toNat = q.val →
        let reset (u : State) : State := raiseRecompose (u.setPals (s.pals.set (paletteIndex lane q) paletteReset))
        (s.comp.pass ≠ .drawing → exec (.delete lane p) s = .next (reset s)) ∧
        ∃ t, exec (.delete lane p) s = .next t ∧
          t = reset (((s.setMem t.mem).setComp { s.comp with progress := t.comp.progress }).setFresh t.fresh) ∧
          ∀ a : Addr, (a.toNat < planeBase (otherPlane s.comp.front) ∨
              planeBase (otherPlane s.comp.front) + 8294400 ≤ a.toNat) → t.mem.read a = s.mem.read a) ∧
      (∀ q : Fin 32, byteAt p 0 = 0x12 → (halfAt p 1).toNat = q.val →
        let r : PageRef := ⟨lane, q⟩
        let undefined := s.setPages (s.pages.set (pageIndex r)
          { pageEntry r s with defined := false, saved := false, len := 0 })
        let left := takeUp (dropReturnSel (fun x => x == r) (exchangeDrop (fun x => x == r) undefined))
        ((pageEntry r s).defined = false → exec (.delete lane p) s = .next s) ∧
        ((pageEntry r s).defined = true → ∃ w t, exec (.delete lane p) s = .next t ∧
          t = deliverKeys (sequencerPageChanged r (removeEntry r (some 3) w)) ∧
          w = left.setPages (left.pages.set (pageIndex r) { pageEntry r left with slot := none }) ∧
          still t = still undefined ∧ (pageEntry r t).defined = false ∧
          pageEntry r w = { pageEntry r s with defined := false, saved := false, len := 0, slot := none })) ∧
      (∀ q : Fin 2, byteAt p 0 = 0x13 → (halfAt p 1).toNat = q.val →
        let lists := s.seqr.lists.set (listIndex lane q) none
        let runs := s.seqr.st ≠ .stopped ∧ s.seqr.owner = lane ∧ s.seqr.list = q
        (slideList lane q s = none → exec (.delete lane p) s = .next s) ∧
        (slideList lane q s ≠ none → ¬ runs →
          exec (.delete lane p) s = .next (s.setSeqr { s.seqr with lists := lists })) ∧
        (slideList lane q s ≠ none → runs →
          let u := ((s.stack.entries.filter (fun e => e.band == .slide)).map Entry.page).foldl
            (fun t r => removeEntry r (some hiddenSlide) t) s
          let v := match s.seqr.wanted with
            | none => u
            | some w => withdrawRequest .sequencer w u
          exec (.delete lane p) s = .next ((post .slideStopped (some lane) none (BitVec.ofNat 16 s.seqr.index) 2
            (BitVec.ofNat 32 q.val) false v).setSeqr (sequencerReset lists)))) ∧
      ∀ q : Fin 8, byteAt p 0 = 0x14 → (halfAt p 1).toNat = q.val → exec (.delete lane p) s =
        .next (if (cueSlot (cueIndex lane q) s).st = .idle then s else s.setCues { s.cues with
          slots := s.cues.slots.set (cueIndex lane q) ⟨.idle, none⟩ }))) ∧
  (∀ s r,
    let d := exchangeDrop (fun x => x == r) s
    let victim (x : Transfer) : Prop := x.stage = .save ∧ (slotAt x.slot s).page = some r
    d.exch.queue = s.exch.queue.filter (fun q => q.page != r) ∧
    d.exch.ctrlReq = (if s.exch.ctrlReq = some r then none else s.exch.ctrlReq) ∧
    d.nav = (if s.exch.ctrlReq = some r then { s.nav with heldEnables := [], heldSelect := none } else s.nav) ∧
    d.exch.cursor = s.exch.cursor ∧ d.stack = s.stack ∧ d.seqr = s.seqr ∧ d.link = s.link ∧ d.mem = s.mem ∧
    (s.exch.current = none → d.exch.current = none) ∧
    (∀ x, s.exch.current = some x →
      (x.page = r → x.stage = .load → d.exch.current = none ∧ slotAt x.slot d = slotReset) ∧
      (x.page = r → x.stage = .save → ¬ victim x →
        d.exch.current = some { x with cancelled := true } ∧ slotAt x.slot d = slotAt x.slot s) ∧
      (x.page ≠ r → victim x → x.cancelled = false → d.exch.current = some { x with stage := .load } ∧
        slotAt x.slot d = { slotReset with st := .loading, page := some x.page }) ∧
      (victim x → x.cancelled = true → d.exch.current = none ∧ slotAt x.slot d = slotReset) ∧
      (x.page ≠ r → ¬ victim x → d.exch.current = some x)) ∧
    ∀ k, (∀ x, s.exch.current = some x → x.slot ≠ k) →
      ((slotAt k s).page ≠ some r → slotAt k d = slotAt k s) ∧
      ((slotAt k s).page = some r → residentSlot r s = some k →
        slotAt k d = slotReset ∧ residentSlot r d = none)) ∧
  (∀ s r,
    (entryOf r s = none → removeEntry r (some 3) s = s) ∧
    ∀ i e, positionOf r s = some i → entryOf r s = some e →
      (removeEntry r (some 3) s).stack.entries = (s.stack.entries.eraseP (fun x => x.page == r)).map (fun x =>
        if e.st = .leaving ∧ x.st = .leaving ∧ e.order < x.order then { x with order := x.order - 1 } else x) ∧
      (removeEntry r (some 3) s).link =
        (post .pageHidden (some r.owner) (some r.id) (BitVec.ofNat 16 i) 3 0 false s).link ∧
      (removeEntry r (some 3) s).comp.recompose = true) ∧
  ∀ s r,
    let t := sequencerPageChanged r s
    let named := ∃ e ∈ runningEntries s, (⟨s.seqr.owner, e.page⟩ : PageRef) = r
    let settled := s.seqr.st = .holding ∨ s.seqr.st = .paused ∨ s.seqr.st = .ended
    (isSlidePage r s = true ∨ ¬ named ∨ s.seqr.st = .stopped → t = s) ∧
    (isSlidePage r s = false → named →
      (settled → s.seqr.shown = some r → t = searchMove false (s.setSeqr { s.seqr with
        shown := none, pendingPause := s.seqr.pendingPause || s.seqr.st == .paused })) ∧
      (settled → s.seqr.shown ≠ some r → t = if s.seqr.wanted = some r then prefetch s else s) ∧
      (s.seqr.st = .waiting →
        let u := if s.seqr.shown = some r then s.setSeqr { s.seqr with shown := none } else s
        t = if pageAt s.seqr.index s = some r then searchMove s.seqr.back u else u) ∧
      (s.seqr.st = .transitioning → s.seqr.shown = some r → t = endTransition s) ∧
      ∀ out, s.seqr.st = .transitioning → s.seqr.shown = some out → out ≠ r →
        let back := renewSlide out s
        (pageAt s.seqr.index s ≠ some r → t = s) ∧
        (pageAt s.seqr.index s = some r → t = searchMove s.seqr.back
          (back.setSeqr { s.seqr with trans := none, st := .waiting })) ∧
        back.stack.entries = s.stack.entries.map (fun x =>
          if x.page = out then { x with st := .shown, start := some s.disp.counter, role := .plain } else x) ∧
        ∀ i, positionOf out s = some i → back.link = (
          let told (kind : NoticeKind) (code : Half) (u : State) : State :=
            post kind (some out.owner) (some out.id) (BitVec.ofNat 16 i) code 0 false u
          told .pageShown 2 (told .pageHidden 4 s)).link)

/-- EDITION and ERASE_PLAYER (R21, R26, R42, R61, R82, R111, R113, R126, R135, R173, R186): everything of the erased
owner goes: objects and their regions, palettes, page definitions, slots, requests and the load in progress, stack
entries and return stack, held changes and return selections, the running show with SLIDE_STOPPED ERASED, lists and
cues. Everything of the other owner stays, in the graphics memory too, where nothing changes but what a pass that is
DRAWING may draw in its back plane (log 6); its queued requests keep their order. The keys that wait are then
delivered. The edition number is recorded by EDITION alone, the relay buffer discarded by ERASE_PLAYER alone. The order
inside an erase is log 14. -/
def Obligations.OwnerErasesClearOneOwner : Prop :=
  (∀ p s, laneOpen s = true → p.length = 2 → ∃ u t, exec (.edition .disc p) s = .next t ∧
    t = deliverKeys u ∧ ErasedPagesFor .disc s u ∧ u.link = (erasedShowNotice .disc s).link ∧
    ErasedFor .disc s t ∧
    t.recv = { s.recv with edition := halfAt p 0 } ∧ t.relay = s.relay ∧ t.disp = s.disp ∧
    t.stream = s.stream) ∧
  (∀ p s, laneOpen s = true → p.length ≠ 2 →
    exec (.edition .disc p) s = .next (segmentFaultNotice .disc 0x01 0x02 0 p.length s)) ∧
  ∀ s, linkOpen s = true → ∃ u t, exec .erasePlayer s = .next t ∧
    t = placeReply 0x42 .ok [] (deliverKeys u) ∧ ErasedPagesFor .player s u ∧
    u.link = (erasedShowNotice .player (crossed 0 s)).link ∧ ErasedFor .player s t ∧
    t.recv = s.recv ∧ t.relay = relayReset ∧ t.disp = s.disp ∧ t.stream = s.stream

/-! ## Page exchange -/

/-- SAVE_DONE (R54, R55): the save record is in the save area and nowhere else, the victim's saved flag is set,
and the slot loads the incoming page; where the cancelled mark is set the slot is EMPTY, the exchange ends, and
the next work is taken up (R52). The bit order of the record, and that it is written at this moment, are log 7. -/
def Obligations.SaveDoneRecordsTheVictim : Prop :=
  ∀ s x v, s.resetLow = false → s.exch.current = some x → x.stage = .save →
    (slotAt x.slot s).page = some v →
    let saved := (s.setMem (s.mem.writeBytes (saveAddr v) (saveRecord (slotAt x.slot s)))).setPages
      (s.pages.set (pageIndex v) { pageEntry v s with saved := true })
    (x.cancelled = false → exec .saveDone s = .next (saved.setExch { s.exch with
      slots := s.exch.slots.set x.slot { slotReset with st := .loading, page := some x.page }
      current := some { x with stage := .load } })) ∧
    (x.cancelled = true → exec .saveDone s = .next (takeUp (saved.setExch { s.exch with
      slots := s.exch.slots.set x.slot slotReset, current := none })))

/-- LOAD_DONE (R56, R57, R104): the working copy is READY and clean, every button in its initial or recorded state,
the recorded selection chosen if its button is enabled and the default rule's otherwise; the page is resident in
the slot, the controller request for it and the exchange that loaded it are over; the load is then handed on: held
changes, Page Stack, recompose request, Sequencer, next exchange, keys. Outside the exchange, the stack, the
navigation and the show nothing changes. The order in which the load is handed on is log 13; the working copy is
computed at this moment (log 8). A record brings back what it saved (R54, R56): written into the save area and read at
the load, with whatever stood behind it, it gives every button its enable state and the page its selection. The order of
its bits is log 7. -/
def Obligations.LoadDoneMakesThePageResident : Prop :=
  (∀ s (k : Fin 6) r, s.resetLow = false → (slotAt k s).st = .loading → (slotAt k s).page = some r →
    (∃ t, exec (.loadDone k) s = .next t ∧ still t = still s ∧
      t = deliverKeys (takeUp (sequencerLoaded r (raiseRecompose (stackLoaded r
        (loadDoneChanges k r (s.exch.ctrlReq == some r) (placeLoaded k r s))))))) ∧
    (let d := pageDefinition r s
     let now := s.disp.counter
     let record := if (pageEntry r s).saved = true then some (s.mem.readBytes (saveAddr r) 16) else none
     let enabled (j : Nat) (b : Button) : Bool :=
       (record.bind (fun p => recordedEnable p j)).getD (!b.initDisabled)
     let bs := d.buttons.mapIdx (fun j b => (⟨if enabled j b = true then .normal else .disabled, now⟩ : ButtonLive))
     let named := (record.bind (fun p => if byteAt p 0 = 0xFF then none else some (byteAt p 0))).bind
       (buttonIndexOf d)
     let chosen := if (named.bind (fun j => d.buttons[j]?.map (enabled j))) = some true then named
       else defaultChoice d bs
     placeLoaded k r s = ((setSlot k ⟨.ready, some r, false, some d,
         (match chosen with
           | none => bs
           | some j => bs.set j ⟨.selected, now⟩),
         chosen.bind (fun j => d.buttons[j]?.map Button.id), 0, d.timeout, d.timeout, false⟩
         s).setPages (s.pages.set (pageIndex r) { pageEntry r s with slot := some k })).setExch
       { (setSlot k ⟨.ready, some r, false, some d,
         (match chosen with
           | none => bs
           | some j => bs.set j ⟨.selected, now⟩),
         chosen.bind (fun j => d.buttons[j]?.map Button.id), 0, d.timeout, d.timeout, false⟩ s).exch with
         ctrlReq := if s.exch.ctrlReq = some r then none else s.exch.ctrlReq
         current := match s.exch.current with
           | none => none
           | some x => if x.slot = k ∧ x.stage = .load then none else some x })) ∧
  (∀ sl d, sl.defn = some d →
    let bytes := saveRecord sl
    4 ≤ bytes.length ∧ bytes.length ≤ 7 ∧ byteAt bytes 0 = sl.selection.getD 0xFF ∧
    (∀ (m : Memory) a, m.wf = true → a + 16 ≤ 2 ^ 25 → (m.writeBytes a bytes).readBytes a 16 =
      bytes ++ m.readBytes (a + bytes.length) (16 - bytes.length)) ∧
    ∀ rest j b, d.buttons[j]? = some b → j < 24 →
      (recordedEnable (bytes ++ rest) j).getD (!b.initDisabled) = enabledAt sl j) ∧
  ∀ s (k : Fin 6) r sl rest, (pageEntry r s).saved = true →
    s.mem.readBytes (saveAddr r) 16 = saveRecord sl ++ rest → sl.defn = some (pageDefinition r s) →
    (pageDefinition r s).buttons.length ≤ 24 →
    (∀ j, j < (pageDefinition r s).buttons.length →
      enabledAt (slotAt k (placeLoaded k r s)) j = enabledAt sl j) ∧
    ∀ id i, sl.selection = some id → id ≠ 0xFF → slotButton sl id = some i → enabledAt sl i = true →
      (slotAt k (placeLoaded k r s)).selection = some id ∧
      selectionIndex (slotAt k (placeLoaded k r s)) = some i

/-- The choice of a slot (R53): the first of the passes EMPTY, clean unpinned READY, unpinned READY that any slot meets
decides, and of the slots that meet it the first in cyclic order after the cursor is taken. Taking up work (R52):
nothing while an exchange is in progress; else the head of the queue, which is served at once where its page is
resident, the next being taken; the controller request only where the queue is empty and its page is not resident;
where no slot qualifies nothing changes. A slot is pinned (R47) exactly where the page it holds as resident has a stack
entry, or it is the target of an exchange whose incoming page has one. The exchange that starts (R54) goes straight to
LOAD with an EMPTY slot or a clean victim, which stops being resident, and to SAVE with a dirty one; the cursor is the
chosen slot, no mark is set. What else a slot holds while it loads is the model's choice (log 39). Requests (R49, R50):
none for a resident page; a requester joins or leaves the request of its page in its place; none joins for the incoming
page (log 20); else a new one joins the tail and work is taken up; a request without requesters leaves, the others keep
their order. -/
def Obligations.SlotChoiceFollowsThePasses : Prop :=
  (∀ s,
    let place (k : Fin 6) : Nat := (k.val + 5 - s.exch.cursor.val) % 6
    let isEmpty (k : Fin 6) : Prop := (slotAt k s).st = .empty
    let victim (k : Fin 6) : Prop := (slotAt k s).st = .ready ∧ pinned k s = false
    let clean (k : Fin 6) : Prop := victim k ∧ (slotAt k s).dirty = false
    (chooseSlot s = none ↔ ∀ k, ¬ isEmpty k ∧ ¬ victim k) ∧
    ∀ k, chooseSlot s = some k →
      (isEmpty k ∧ ∀ j, isEmpty j → place k ≤ place j) ∨
      ((∀ j, ¬ isEmpty j) ∧ clean k ∧ ∀ j, clean j → place k ≤ place j) ∨
      ((∀ j, ¬ isEmpty j) ∧ (∀ j, ¬ clean j) ∧ victim k ∧ ∀ j, victim j → place k ≤ place j)) ∧
  (∀ s (k : Fin 6), pinned k s = true ↔
    (∃ e ∈ s.stack.entries, (slotAt k s).page = some e.page ∧ (pageEntry e.page s).slot = some k) ∨
    ∃ x, s.exch.current = some x ∧ x.slot = k ∧ ∃ e ∈ s.stack.entries, e.page = x.page) ∧
  (∀ s,
    let rest (qs : List Request) : State := s.setExch { s.exch with queue := qs }
    (∀ x, s.exch.current = some x → takeUp s = s) ∧
    (s.exch.current = none →
      (∀ q qs, s.exch.queue = q :: qs →
        ((pageEntry q.page s).slot ≠ none → takeUp s = takeUp (rest qs)) ∧
        ((pageEntry q.page s).slot = none → takeUp s = match chooseSlot s with
          | none => s
          | some k => startExchange q.page k (rest qs))) ∧
      (s.exch.queue = [] →
        (s.exch.ctrlReq = none → takeUp s = s) ∧
        ∀ r, s.exch.ctrlReq = some r →
          ((pageEntry r s).slot ≠ none → takeUp s = s) ∧
          ((pageEntry r s).slot = none → takeUp s = match chooseSlot s with
            | none => s
            | some k => startExchange r k s)))) ∧
  (∀ s r (k : Fin 6),
    let begun (sl : Slot) (stage : Stage) : Exchange := { s.exch with
      slots := s.exch.slots.set k sl, cursor := k, current := some ⟨r, k, stage, false⟩ }
    let loads : Slot := { slotReset with st := .loading, page := some r }
    ((slotAt k s).st = .empty → startExchange r k s = s.setExch (begun loads .load)) ∧
    ∀ v, (slotAt k s).st = .ready → (slotAt k s).page = some v →
      startExchange r k s = (s.setPages (s.pages.set (pageIndex v) { pageEntry v s with slot := none })).setExch
        (if (slotAt k s).dirty = true then begun { slotAt k s with st := .saving } .save else begun loads .load)) ∧
  ∀ s r w,
    let joined (q : Request) : Request :=
      match w with
      | .stack => { q with byStack := true }
      | .sequencer => { q with bySequencer := true }
    let left (q : Request) : Request :=
      match w with
      | .stack => { q with byStack := false }
      | .sequencer => { q with bySequencer := false }
    let queued := ∃ q ∈ s.exch.queue, q.page = r
    ((pageEntry r s).slot ≠ none → requestPage w r s = s) ∧
    ((pageEntry r s).slot = none → queued → requestPage w r s = s.setExch { s.exch with
      queue := s.exch.queue.map (fun q => if q.page = r then joined q else q) }) ∧
    ((pageEntry r s).slot = none → ¬ queued →
      ((∃ x, s.exch.current = some x ∧ x.page = r) → requestPage w r s = s) ∧
      ((∀ x, s.exch.current = some x → x.page ≠ r) → requestPage w r s =
        takeUp (s.setExch { s.exch with queue := s.exch.queue ++ [joined ⟨r, false, false⟩] }))) ∧
    ((∀ q ∈ s.exch.queue, (q.byStack || q.bySequencer) = true) → withdrawRequest w r s = s.setExch { s.exch with
      queue := s.exch.queue.filterMap (fun q =>
        if q.page = r then (if ((left q).byStack || (left q).bySequencer) = true then some (left q) else none)
        else some q) })

/-! ## Page stack -/

/-- SHOW of a defined MENU page (R64, R68, R69, R70, R77): a page without an entry gets an ENTERING one at the top
of its band, the oldest LEAVING entry being cut where 5 stand; mode CALL first pushes a frame that names the
topmost SHOWN page of the band; a LEAVING entry is brought back; another entry stays. Keys are then delivered
where they can be. With no key waiting and no READY slot the stack gains exactly the new entry. A new entry has the
field counter as its start where its slot is READY, and turns SHOWN at once with a fade-in of 0; one that is brought
back turns SHOWN, and the LEAVING entries after it move up in the leaving order (log 24). The notices, each with the
position of its entry (R66): PAGE_HIDDEN CUT for a cut; PAGE_SHOWN FADE_IN for a new entry that turns SHOWN at once, none
for another; PAGE_SHOWN RESTORED for one that is brought back. -/
def Obligations.ShowPutsThePageOnTheStack : Prop :=
  (∀ s owner page r, linkOpen s = true → pageArgument owner page = some r → isMenuPage r s = true →
    (entryOf r s = none → s.stack.entries.length < 5 →
      exec (.showPage owner page 0) s = .next (placeReply 0x11 .ok [] (deliverKeys
        (addEntering r (topOfBand (menuBand r.owner) s) (crossed 3 s)))) ∧
      exec (.showPage owner page 1) s = .next (placeReply 0x11 .ok [] (deliverKeys
        (addEntering r (topOfBand (menuBand r.owner) s)
          (match topShown r.owner s with
            | none => crossed 3 s
            | some e => pushFrame r.owner ⟨e.page.id, selectionOf e.page s⟩ (crossed 3 s)))))) ∧
    (∀ e, entryOf r s = none → 5 ≤ s.stack.entries.length → oldestLeaving s = some e →
      exec (.showPage owner page 0) s = .next (placeReply 0x11 .ok [] (deliverKeys
        (addEntering r (topOfBand (menuBand r.owner) (removeEntry e.page (some hiddenCut) (crossed 3 s)))
          (removeEntry e.page (some hiddenCut) (crossed 3 s)))))) ∧
    (∀ e mode, entryOf r s = some e → mode = 0 ∨ mode = 1 →
      exec (.showPage owner page mode) s = .next (placeReply 0x11 .ok [] (deliverKeys
        (if e.st = .leaving then restoreEntry r (crossed 3 s) else crossed 3 s)))) ∧
    (s.nav.keys = [] → entryOf r s = none → s.stack.entries.length < 5 → readySlot r s = none →
      ∃ t, exec (.showPage owner page 0) s = .next t ∧ t.link.reply = ⟨0x11, .ok, [], false⟩ ∧
        t.stack.entries = s.stack.entries.take (topOfBand (menuBand r.owner) s) ++
          [⟨r, menuBand r.owner, .entering, none, 0, .plain⟩] ++
          s.stack.entries.drop (topOfBand (menuBand r.owner) s))) ∧
  (∀ s r i, entryOf r s = none → (addEntering r i s).stack.entries = s.stack.entries.take i ++
    [if readySlot r s = none then ⟨r, menuBand r.owner, .entering, none, 0, .plain⟩
      else ⟨r, menuBand r.owner, if (pageDefinition r s).fadeIn = 0 then .shown else .entering,
        some s.disp.counter, 0, .plain⟩] ++ s.stack.entries.drop i) ∧
  (∀ s r i,
    let told (kind : NoticeKind) (code : Half) (n : Nat) : Link :=
      (post kind (some r.owner) (some r.id) (BitVec.ofNat 16 n) code 0 false s).link
    (entryOf r s = none → i ≤ s.stack.entries.length → (addEntering r i s).link =
      if readySlot r s ≠ none ∧ (pageDefinition r s).fadeIn = 0 then told .pageShown 0 i else s.link) ∧
    ∀ n e, positionOf r s = some n → entryOf r s = some e →
      (removeEntry r (some hiddenCut) s).link = told .pageHidden 1 n ∧
      (e.st = .leaving → (restoreEntry r s).link = told .pageShown 1 n)) ∧
  ∀ s r e, entryOf r s = some e → e.st = .leaving →
    (restoreEntry r s).stack.entries = s.stack.entries.map (fun x =>
      if x.page = r then { x with
        st := .shown, start := some s.disp.counter, role := .plain
        order := if x.st = .leaving ∧ e.order < x.order then x.order - 1 else x.order }
      else if x.st = .leaving ∧ e.order < x.order then { x with order := x.order - 1 } else x)

/-- The refusals of SHOW and HIDE (R68, R69, R72, R186), each of which changes nothing: BAD_ARGUMENT for an owner,
page or mode out of range, NOT_DEFINED, WRONG_STATE for a SLIDE page, STACK_FULL where 5 entries stand and none is
LEAVING. -/
def Obligations.ShowAndHideRefusals : Prop :=
  ∀ s owner page, linkOpen s = true →
    (∀ mode, (1 < mode.toNat ∨ 1 < owner.toNat ∨ 32 ≤ page.toNat) →
      exec (.showPage owner page mode) s = .next (answered 0x11 .badArgument [] 3 s)) ∧
    ((1 < owner.toNat ∨ 32 ≤ page.toNat) →
      exec (.hidePage owner page) s = .next (answered 0x12 .badArgument [] 2 s)) ∧
    ∀ r, pageArgument owner page = some r →
      ((pageEntry r s).defined = false →
        exec (.hidePage owner page) s = .next (answered 0x12 .notDefined [] 2 s) ∧
        ∀ mode, mode.toNat ≤ 1 →
          exec (.showPage owner page mode) s = .next (answered 0x11 .notDefined [] 3 s)) ∧
      (isSlidePage r s = true →
        exec (.hidePage owner page) s = .next (answered 0x12 .wrongState [] 2 s) ∧
        ∀ mode, mode.toNat ≤ 1 →
          exec (.showPage owner page mode) s = .next (answered 0x11 .wrongState [] 3 s)) ∧
      (isMenuPage r s = true → entryOf r s = none → 5 ≤ s.stack.entries.length →
        (∀ e ∈ s.stack.entries, e.st ≠ .leaving) → ∀ mode, mode.toNat ≤ 1 →
        exec (.showPage owner page mode) s = .next (answered 0x11 .stackFull [] 3 s))

/-- HIDE and HIDE_BAND make entries start leaving (R71, R72, R73), and what that does to an entry of a menu band:
one without a start field or with fade-out 0 is removed, a LEAVING one stays, any other turns LEAVING with the
field counter as its start and the newest place in the leaving order. The place in the leaving order is a number
(log 24). A removal posts PAGE_HIDDEN with the entry's position (R66): UNSEEN where it had no start field, else FADED. -/
def Obligations.HideMakesEntriesLeave : Prop :=
  (∀ s owner page r, linkOpen s = true → pageArgument owner page = some r → isMenuPage r s = true →
    exec (.hidePage owner page) s =
      .next (placeReply 0x12 .ok [] (deliverKeys (startLeaving r (crossed 2 s))))) ∧
  (∀ s owner, linkOpen s = true → 1 < owner.toNat →
    exec (.hideBand owner) s = .next (answered 0x13 .badArgument [] 1 s)) ∧
  (∀ s owner o, linkOpen s = true → decodeOwner owner = some o →
    exec (.hideBand owner) s = .next (placeReply 0x13 .ok [] (deliverKeys
      (((s.stack.entries.filter (fun e => e.band == menuBand o)).map Entry.page).foldl
        (fun t r => startLeaving r t) (crossed 1 s))))) ∧
  ∀ s r,
    (entryOf r s = none → startLeaving r s = s) ∧
    ∀ e, entryOf r s = some e → e.band ≠ .slide →
      (e.st = .leaving → startLeaving r s = s) ∧
      (e.st ≠ .leaving → ((e.st = .entering ∧ e.start = none) ∨ (pageDefinition r s).fadeOut = 0) →
        (startLeaving r s).stack.entries = s.stack.entries.eraseP (fun x => x.page == r) ∧
        ∀ n, positionOf r s = some n → (startLeaving r s).link =
          (post .pageHidden (some r.owner) (some r.id) (BitVec.ofNat 16 n)
            (if e.st = .entering ∧ e.start = none then 2 else 0) 0 false s).link) ∧
      (e.st ≠ .leaving → ¬ (e.st = .entering ∧ e.start = none) → (pageDefinition r s).fadeOut ≠ 0 →
        (startLeaving r s).link = s.link ∧
        (startLeaving r s).stack.entries = s.stack.entries.map (fun x => if x.page = r then
          { x with st := .leaving, start := some s.disp.counter,
                   order := (s.stack.entries.filter (fun y => y.st == .leaving)).length }
          else x))

/-- FADE_IN_END and FADE_OUT_END (R65, R66): the Page Stack examines its entries at a field start from bottom to
top. Of the entries that are due the lowest comes first, whichever way it fades: an ENTERING entry turns SHOWN with
the field number as its start, a LEAVING entry is removed. Its event takes this one entry where another fade event
stands next, and otherwise the examination is finished in it; what other blocks have still to do at the field start
follows, unless an event stands next. What a fade event does where its turn has not come is log 1. Each change posts its
notice with the position of the entry (R66): PAGE_SHOWN FADE_IN, code 0, or PAGE_HIDDEN FADED, code 0. -/
def Obligations.FadesEndAtFieldStarts : Prop :=
  (∀ s e, s.resetLow = false → s.due.contains .pageStack = true → nextFade s = some e →
    entryOf e.page s = some e →
    (e.st = .entering → exec .fadeInEnd s = .next (settleField (
      let u := turnShown e.page 0 s
      if nextEvent u = some .pageStack then u
      else deliverKeys (stackField (u.setDue (u.due.erase .pageStack)))))) ∧
    (e.st = .leaving → exec .fadeOutEnd s = .next (settleField (
      let u := removeEntry e.page (some 0) s
      if nextEvent u = some .pageStack then u
      else deliverKeys (stackField (u.setDue (u.due.erase .pageStack))))))) ∧
  (∀ s e, nextFade s = some e ↔ ∃ below above, s.stack.entries = below ++ e :: above ∧
    (fadeInDue s e = true ∨ fadeOutDue s e = true) ∧
    ∀ x ∈ below, fadeInDue s x = false ∧ fadeOutDue s x = false) ∧
  (∀ s e, (fadeInDue s e = true ↔ e.band ≠ .slide ∧ e.st = .entering ∧ readySlot e.page s ≠ none ∧
      ∃ v, e.start = some v ∧ (pageDefinition e.page s).fadeIn ≤ (s.disp.counter - v).toNat) ∧
    (fadeOutDue s e = true ↔ e.band ≠ .slide ∧ e.st = .leaving ∧
      ∃ v, e.start = some v ∧ (pageDefinition e.page s).fadeOut ≤ (s.disp.counter - v).toNat)) ∧
  (∀ s, stackField s = (s.stack.entries.map Entry.page).foldl examineEntry s) ∧
  (∀ s r code n e, positionOf r s = some n → entryOf r s = some e →
    let told (kind : NoticeKind) : Link :=
      (post kind (some r.owner) (some r.id) (BitVec.ofNat 16 n) code 0 false s).link
    (turnShown r code s).link = told .pageShown ∧ (removeEntry r (some code) s).link = told .pageHidden ∧
    examineEntry s r = if fadeInDue s e = true then turnShown r 0 s
      else if fadeOutDue s e = true then removeEntry r (some 0) s else s) ∧
  (∀ s r code, (turnShown r code s).stack.entries = s.stack.entries.map (fun x => if x.page = r then
    { x with st := .shown, start := some s.disp.counter, role := .plain } else x)) ∧
  ∀ s r code e, entryOf r s = some e → e.st = .leaving →
    (removeEntry r code s).stack.entries = (s.stack.entries.eraseP (fun x => x.page == r)).map (fun x =>
      if x.st = .leaving ∧ e.order < x.order then { x with order := x.order - 1 } else x)

/-- The focus (R80): the topmost entry whose page is of kind MENU and that is not LEAVING, or none. -/
def Obligations.FocusIsTheTopmostMenuEntry : Prop :=
  ∀ s,
    (∀ e, focusEntry s = some e ↔ ∃ below above, s.stack.entries = below ++ e :: above ∧
      e.band ≠ .slide ∧ e.st ≠ .leaving ∧ ∀ x ∈ above, x.band = .slide ∨ x.st = .leaving) ∧
    (focusEntry s = none ↔ ∀ x ∈ s.stack.entries, x.band = .slide ∨ x.st = .leaving)

/-- The return stacks (R75, R78): a frame is pushed on top, and the ninth overwrites the oldest with STACK_WRAP;
RETURN discards frames that are not usable, takes the first usable one, and with none left posts RETURN_EMPTY with
the number of frames discarded. The other owner's frames stay. Frames are listed newest first (log 24). GOTO (R74): the
acting page itself is no change; else the acting entry starts leaving, and a target without an entry takes its place
above what remains of the entries up to the acting one, after a cut where 5 stand; a LEAVING target is brought back,
another stays. A usable frame's page is put in the acting page's place in the same way, and its button is given it as
return selection. CALL (R76): no frame where the stack has no room; else the frame names the acting page and its
selection, and the target is opened at the top of its band. Where 5 entries stand the cut comes first, then the push,
then the addition: this order, and with it that of PAGE_HIDDEN and STACK_WRAP, is the model's choice (log 29). -/
def Obligations.ReturnFramesArePushedAndPopped : Prop :=
  (∀ o f s, (framesOf o s).length < 8 → pushFrame o f s = setFrames o (f :: framesOf o s) s) ∧
  (∀ o f s older (old : Frame), framesOf o s = older ++ [old] → older.length = 7 →
    pushFrame o f s = post .stackWrap (some o) (some old.page)
      (match old.button with
        | none => 0xFFFF
        | some b => b.setWidth 16) 0 0 false (setFrames o (f :: older) s)) ∧
  (∀ r s, (∀ f ∈ framesOf r.owner s, usableFrame r s f = false) →
    returnFrom r s = post .returnEmpty (some r.owner) (some r.id)
      (BitVec.ofNat 16 (framesOf r.owner s).length) 0 0 false (setFrames r.owner [] s)) ∧
  (∀ r s skipped f rest, framesOf r.owner s = skipped ++ f :: rest →
    (∀ x ∈ skipped, usableFrame r s x = false) → usableFrame r s f = true →
    framesOf r.owner (returnFrom r s) = rest ∧
    (∀ o, o ≠ r.owner → framesOf o (returnFrom r s) = framesOf o s) ∧
    returnFrom r s = (match f.button with
      | none => gotoPage r ⟨r.owner, f.page⟩ (setFrames r.owner rest s)
      | some b => giveReturnSel ⟨r.owner, f.page⟩ b (gotoPage r ⟨r.owner, f.page⟩ (setFrames r.owner rest s)))) ∧
  (∀ s r target below x above, s.stack.entries = below ++ x :: above → x.page = r → (∀ y ∈ below, y.page ≠ r) →
    let left := startLeaving r s
    let place (u : State) : Nat :=
      (u.stack.entries.filter (fun e => ((below ++ [x]).map Entry.page).contains e.page)).length
    gotoPage r r s = s ∧
    (r ≠ target → entryOf target s = none →
      (left.stack.entries.length < 5 → gotoPage r target s = addEntering target (place left) left) ∧
      ∀ y, 5 ≤ left.stack.entries.length → oldestLeaving left = some y →
        let u := removeEntry y.page (some hiddenCut) left
        gotoPage r target s = addEntering target (place u) u) ∧
    (r ≠ target → ∀ e, entryOf target s = some e →
      gotoPage r target s = if e.st = .leaving then restoreEntry target left else left)) ∧
  ∀ s r target,
    let push := pushFrame r.owner ⟨r.id, selectionOf r s⟩
    callPage r r s = some s ∧
    (r ≠ target → entryOf target s = none →
      (s.stack.entries.length < 5 →
        callPage r target s = some (addEntering target (topOfBand (menuBand target.owner) s) (push s))) ∧
      (∀ y, 5 ≤ s.stack.entries.length → oldestLeaving s = some y →
        let u := removeEntry y.page (some hiddenCut) s
        callPage r target s = some (addEntering target (topOfBand (menuBand target.owner) u) (push u))) ∧
      (5 ≤ s.stack.entries.length → (∀ y ∈ s.stack.entries, y.st ≠ .leaving) → callPage r target s = none)) ∧
    (r ≠ target → ∀ e, entryOf target s = some e →
      callPage r target s = some (if e.st = .leaving then restoreEntry target (push s) else push s))

/-! ## Navigation -/

/-- KEY and KEY_DELIVERY (R83, R84, R85): a key that is no key is refused, and a ninth; another joins the tail, and
delivery is tried: the head key is delivered, and then the next, while there is no focus or the focus is SHOWN in a
READY slot without a running hold; KEY_DELIVERY completes in every state. With no focus NEXT, PREV and PAUSE go to a
running show, and every other key, or any without a show, ends as KEY_UNUSED. Delivery is tried at the end of every event
(log 12). A key delivered to a focus page (R86, R92) first reloads the page's timeout; a directional key moves the
selection along the walk, and an AUTO_ACTIVATE button then activates; ENTER begins the activation of the selection; BACK
executes and reports the BACK outcome; NEXT, PREV and PAUSE go to a running show where the page passes them on; what has
no use ends as KEY_UNUSED. An activation (R93) turns the button ACTIVATED and loads the hold, and with a hold of 0
completes at once. It is cancelled (R97), the button SELECTED again with hold 0 and no outcome, when its page is no
longer the SHOWN focus, is removed, even where its slot is taken for a save in the same event (R54), or reloads in place,
when another button becomes the selection, and when its button is disabled. That all other fields of the slot, its dirty
flag too, stay during a reload in place is the model's choice (log 31), not a word of R59. -/
def Obligations.KeysQueueAndAreDelivered : Prop :=
  (∀ s kind, linkOpen s = true →
    (9 ≤ kind.toNat → exec (.key kind) s = .next (answered 0x10 .badArgument [] 1 s)) ∧
    (∀ k, key? kind = some k → 8 ≤ s.nav.keys.length →
      exec (.key kind) s = .next (answered 0x10 .queueFull [] 1 s)) ∧
    (∀ k, key? kind = some k → s.nav.keys.length < 8 → exec (.key kind) s =
      .next (placeReply 0x10 .ok [] (deliverKeys
        ((crossed 1 s).setNav { s.nav with keys := s.nav.keys ++ [k] })))) ∧
    (∀ k, key? kind = some k → s.nav.keys.length < 8 → deliverable s = false → exec (.key kind) s =
      .next ((answered 0x10 .ok [] 1 s).setNav { s.nav with keys := s.nav.keys ++ [k] }))) ∧
  (∀ s, s.resetLow = false →
    ((s.nav.keys = [] ∨ deliverable s = false) → exec .keyDelivery s = .next s) ∧
    ∀ k ks, s.nav.keys = k :: ks → deliverable s = true →
      exec .keyDelivery s = exec .keyDelivery (deliverKey k (s.setNav { s.nav with keys := ks })) ∧
      exec .keyDelivery s =
        .next (deliverUpTo ks.length (deliverKey k (s.setNav { s.nav with keys := ks }))) ∧
      (ks = [] → exec .keyDelivery s = .next (deliverKey k (s.setNav { s.nav with keys := [] })))) ∧
  (∀ s k, focusEntry s = none →
    (s.seqr.st = .stopped → deliverKey k s = post .keyUnused none none 0xFFFF (keyCode k)
      (if k = .next ∨ k = .prev ∨ k = .pause then 1 else 0) false s) ∧
    (s.seqr.st ≠ .stopped → deliverKey k s = match k with
      | .next => stepShow false s
      | .prev => stepShow true s
      | .pause => togglePause s
      | .up | .down | .left | .right | .enter | .back =>
        post .keyUnused none none 0xFFFF (keyCode k) 0 false s)) ∧
  (∀ s e (k : Fin 6) d key, focusEntry s = some e → readySlot e.page s = some k → (slotAt k s).defn = some d →
    let sl := slotAt k s
    let t := setSlot k { sl with timer := sl.latch, mark := false } s
    let unused (reason : Word) : State :=
      post .keyUnused (some e.page.owner) (some e.page.id) 0xFFFF (keyCode key) reason false t
    (∀ dir, (key, dir) ∈ [(Key.up, Direction.up), (.down, .down), (.left, .left), (.right, .right)] →
      (selectionIndex sl = none → deliverKey key s = t) ∧
      ∀ i, selectionIndex sl = some i →
        (neighbourWalk d sl dir i = none → deliverKey key s = t) ∧
        ∀ c b, neighbourWalk d sl dir i = some c → d.buttons[c]? = some b →
          let u := becomeSelection k c t
          slotAt k u = { selectIn s.disp.counter c (slotAt k t) with dirty := true } ∧ u.comp.recompose = true ∧
          deliverKey key s = if b.autoActivate = true then beginActivation k c u else u) ∧
    (key = .enter → deliverKey key s = match selectionIndex sl with
      | none => unused 3
      | some i => beginActivation k i t) ∧
    (key = .back → deliverKey key s =
      if d.backAct.kind = .nothing then unused 2
      else
        let u := runOutcome ⟨e.page, 0xFFFD⟩ d.backAct t
        if d.backAct.report = true then
          post .actionReport (some e.page.owner) (some e.page.id) 0xFFFD d.backAct.code 0 true u
        else u) ∧
    (key = .next ∨ key = .prev ∨ key = .pause → deliverKey key s =
      if d.passSlideKeys = true ∧ s.seqr.st ≠ .stopped then
        (if key = .pause then togglePause t else stepShow (key == .prev) t)
      else unused 1)) ∧
  (∀ s (k : Fin 6) i d, (slotAt k s).defn = some d →
    let begun := raiseRecompose (setSlot k { slotAt k s with
      buttons := (slotAt k s).buttons.set i ⟨.activated, s.disp.counter⟩, hold := d.hold } s)
    beginActivation k i s = if d.hold = 0 then completeActivation k begun else begun) ∧
  (∀ s (k : Fin 6),
    (activatedIndex (slotAt k s) = none → cancelActivation k s = s) ∧
    ∀ i, activatedIndex (slotAt k s) = some i → cancelActivation k s = raiseRecompose (setSlot k { slotAt k s with
      buttons := (slotAt k s).buttons.set i ⟨.selected, s.disp.counter⟩, hold := 0 } s)) ∧
  (∀ s (k : Fin 6), slotAt k (handOn s) =
    if ((slotAt k s).st = .ready ∨ (slotAt k s).st = .saving) ∧
        ¬ ((slotAt k s).st = .ready ∧
          ∃ e, focusEntry s = some e ∧ e.st = .shown ∧ (slotAt k s).page = some e.page) then
      slotAt k (cancelActivation k s)
    else slotAt k s) ∧
  (∀ s r code (k : Fin 6), hasEntry r s = true →
    ((slotAt k s).buttons.filter (fun b => b.st == .activated)).length ≤ 1 →
    let t := removeEntry r code s
    (slotAt k t).st = .ready ∨ (slotAt k t).st = .saving → holdRunning (slotAt k t) = true →
    (slotAt k t).st = .ready ∧ ∃ e, focusEntry t = some e ∧ e.st = .shown ∧ (slotAt k t).page = some e.page) ∧
  ∀ s (k : Fin 6),
    (∀ r, readySlot r s = some k → (slotAt k s).page = some r → hasEntry r s = true →
      (∀ j, j ≠ k → (slotAt j s).page ≠ some r) → (∀ x, s.exch.current = some x → x.slot ≠ k) →
      slotAt k (exchangeRedefined r s) = { slotAt k (cancelActivation k s) with st := .loading }) ∧
    (slotSound (slotAt k s) → holdRunning (slotAt k s) = true → ∀ c, enabledAt (slotAt k s) c = true →
      (selectionIndex (slotAt k s) ≠ some c →
        holdRunning (slotAt k (becomeSelection k c s)) = false ∧ (slotAt k (becomeSelection k c s)).hold = 0) ∧
      (selectionIndex (slotAt k s) = some c →
        holdRunning (slotAt k (changeEnable k c false s)) = false ∧
        (slotAt k (changeEnable k c false s)).hold = 0))

/-- The neighbour walk (R90, R91): the selection moves to the first candidate that is enabled, reached through
DISABLED ones, if it is not the selection itself and at most the eighth; else it does not move. -/
def Obligations.NeighbourWalkFindsTheButton : Prop :=
  ∀ d sl dir i c, neighbourWalk d sl dir i = some c ↔
    ∃ n, 1 ≤ n ∧ n ≤ 8 ∧ linkPath d dir n i = some c ∧ c ≠ i ∧ enabledAt sl c = true ∧
      ∀ m x, 1 ≤ m → m < n → linkPath d dir m i = some x → x ≠ i ∧ enabledAt sl x = false

/-- The tests of buttons (R96), on the lowest w bits of the variable. -/
def Obligations.ButtonTestsReadTheirBits : Prop :=
  ∀ (t : Test) (v : Word), (t.width = 8 ∨ t.width = 16 ∨ t.width = 32) →
    let top := v.getLsbD (t.width - 1)
    let zero := ∀ j, j < t.width → v.getLsbD j = false
    let ones := ∀ j, j < t.width → v.getLsbD j = true
    (testResult t v = true ↔
      match t.kind with
      | .always => True
      | .high => top = true
      | .highOrZero => top = true ∨ zero
      | .notHigh => top = false
      | .notHighOrOnes => top = false ∨ ones
      | .low => v.getLsbD 0 = true
      | .lowOrZero => v.getLsbD 0 = true ∨ zero
      | .zero => zero)

/-- The default rule (R88) and the change of selection (R89): the default button if it is enabled, else the first
enabled button, else none; the new selection turns SELECTED and the former one NORMAL with the field counter as
their entry fields, the others stay, and the working copy stays sound (R87). -/
def Obligations.SelectionRulesHold : Prop :=
  (∀ (d : PageDef) (bs : List ButtonLive),
    let enabled (i : Nat) : Prop := ∃ b, bs[i]? = some b ∧ b.st ≠ .disabled
    let wanted (i : Nat) : Prop := ∃ id, d.defaultButton = some id ∧ buttonIndexOf d id = some i ∧ enabled i
    (∀ i, wanted i → defaultChoice d bs = some i) ∧
    ((∀ i, ¬ wanted i) → ∀ i, defaultChoice d bs = some i ↔
      i < d.buttons.length ∧ enabled i ∧ ∀ j, j < i → ¬ enabled j)) ∧
  ∀ now c sl, slotSound sl → enabledAt sl c = true → selectionIndex sl ≠ some c →
    slotSound (selectIn now c sl) ∧ selectionIndex (selectIn now c sl) = some c ∧
    (selectIn now c sl).buttons[c]? = some ⟨.selected, now⟩ ∧
    ∀ j, j ≠ c → (selectIn now c sl).buttons[j]? =
      if selectionIndex sl = some j then some ⟨.normal, now⟩ else sl.buttons[j]?

/-- SELECT and SET_BUTTON of a defined MENU page (R51, R101, R103, R104, R106): made at once in a READY slot; else
held while the controller request is none or this page, and refused with BUSY while it is another; button ids of
64 and above, and for SET_BUTTON those a READY page does not hold, are refused. Selecting a button of a slot (R101):
a button that the page holds and that is enabled becomes the selection; in place of another id the default rule (R88)
chooses. Where the choice is the selection already nothing changes; else the selection moves (R89), or is none where no
button is enabled, the slot turns dirty, the page's saved flag is cleared (R46) and the recompose request is raised. -/
def Obligations.SelectAndSetButton : Prop :=
  (∀ s owner page r b enable, linkOpen s = true → pageArgument owner page = some r → isMenuPage r s = true →
    (64 ≤ b.toNat →
      exec (.select owner page b) s = .next (answered 0x14 .badArgument [] 3 s) ∧
      exec (.setButton owner page b enable) s = .next (answered 0x15 .badArgument [] 4 s)) ∧
    (b.toNat < 64 →
      (∀ k, readySlot r s = some k →
        exec (.select owner page b) s =
          .next (placeReply 0x14 .ok [] (deliverKeys (selectButton k b (crossed 3 s)))) ∧
        (slotButton (slotAt k s) b = none →
          exec (.setButton owner page b enable) s = .next (answered 0x15 .badArgument [] 4 s)) ∧
        ∀ i, slotButton (slotAt k s) b = some i → exec (.setButton owner page b enable) s =
          .next (placeReply 0x15 .ok [] (deliverKeys (changeEnable k i (enable != 0) (crossed 4 s))))) ∧
      (readySlot r s = none →
        (∀ x, s.exch.ctrlReq = some x → x ≠ r →
          exec (.select owner page b) s = .next (answered 0x14 .busy [] 3 s) ∧
          exec (.setButton owner page b enable) s = .next (answered 0x15 .busy [] 4 s)) ∧
        (s.exch.ctrlReq = some r →
          exec (.select owner page b) s =
            .next ((answered 0x14 .ok [] 3 s).setNav { s.nav with heldSelect := some b }) ∧
          exec (.setButton owner page b enable) s = .next ((answered 0x15 .ok [] 4 s).setNav { s.nav with
            heldEnables := s.nav.heldEnables.filter (fun h => h.1 != b) ++ [(b, enable != 0)] })) ∧
        (s.exch.ctrlReq = none →
          exec (.select owner page b) s = .next (placeReply 0x14 .ok [] (takeUp
            (((crossed 3 s).setNav { s.nav with heldEnables := [], heldSelect := some b }).setExch
              { s.exch with ctrlReq := some r }))) ∧
          exec (.setButton owner page b enable) s = .next (placeReply 0x15 .ok [] (takeUp
            (((crossed 4 s).setNav { s.nav with heldEnables := [(b, enable != 0)], heldSelect := none }).setExch
              { s.exch with ctrlReq := some r }))))))) ∧
  ∀ s (k : Fin 6) b d r, (slotAt k s).defn = some d → (slotAt k s).page = some r →
    let sl := slotAt k s
    let held := ∃ c, slotButton sl b = some c ∧ enabledAt sl c = true
    let changed (v : Slot) : State := raiseRecompose ((setSlot k { v with dirty := true } s).setPages
      (s.pages.set (pageIndex r) { pageEntry r s with saved := false }))
    (∀ c, (slotButton sl b = some c ∧ enabledAt sl c = true) ∨ (¬ held ∧ defaultChoice d sl.buttons = some c) →
      (selectionIndex sl = some c → selectButton k b s = s) ∧
      (selectionIndex sl ≠ some c → selectButton k b s = changed (selectIn s.disp.counter c sl))) ∧
    (¬ held → defaultChoice d sl.buttons = none → selectButton k b s =
      if sl.selection = none then s else changed { sl with selection := none })

/-- What enabling and disabling do to the button states of a slot (R87, R103): a request that matches the present
state changes nothing; else the slot turns dirty and the recompose request is raised, and the button turns NORMAL,
SELECTED where the page has no selection, or DISABLED, the default rule then choosing in place of a disabled
selection. -/
def Obligations.EnablingChangesButtonStates : Prop :=
  ∀ (k : Fin 6) (i : Nat) s d, (slotAt k s).defn = some d → i < (slotAt k s).buttons.length →
    let sl := slotAt k s
    let now := s.disp.counter
    let off := sl.buttons.set i ⟨.disabled, now⟩
    (enabledAt sl i = true → changeEnable k i true s = s) ∧
    (enabledAt sl i = false → changeEnable k i false s = s) ∧
    (enabledAt sl i = false → sl.selection = none →
      slotAt k (changeEnable k i true s) = { sl with
        buttons := sl.buttons.set i ⟨.selected, now⟩, selection := slotButtonId sl i, dirty := true } ∧
      (changeEnable k i true s).comp.recompose = true) ∧
    (enabledAt sl i = false → sl.selection ≠ none →
      slotAt k (changeEnable k i true s) = { sl with
        buttons := sl.buttons.set i ⟨.normal, now⟩, dirty := true } ∧
      (changeEnable k i true s).comp.recompose = true) ∧
    (enabledAt sl i = true → selectionIndex sl ≠ some i →
      slotAt k (changeEnable k i false s) = { sl with buttons := off, dirty := true } ∧
      (changeEnable k i false s).comp.recompose = true) ∧
    (enabledAt sl i = true → selectionIndex sl = some i →
      (slotAt k (changeEnable k i false s)).dirty = true ∧
      (changeEnable k i false s).comp.recompose = true ∧
      match defaultChoice d off with
      | none => (slotAt k (changeEnable k i false s)).buttons = off ∧
          (slotAt k (changeEnable k i false s)).selection = none
      | some c => (slotAt k (changeEnable k i false s)).buttons = off.set c ⟨.selected, now⟩ ∧
          (slotAt k (changeEnable k i false s)).selection = slotButtonId sl c)

/-- SET_TIMEOUT and READ_PAGE (R109, R187): refused on an undefined page, on a page in no READY slot, and
SET_TIMEOUT on a SLIDE page; SET_TIMEOUT writes the latch and, with restart, the counter, clearing the mark, which
is set where the counter is not counting (log 17); READ_PAGE answers the page's state and changes nothing. -/
def Obligations.TimeoutIsSetAndPageRead : Prop :=
  ∀ s owner page r, linkOpen s = true → pageArgument owner page = some r →
    ((pageEntry r s).defined = false →
      exec (.readPage owner page) s = .next (answered 0x17 .notDefined [] 2 s) ∧
      ∀ v restart, exec (.setTimeout owner page v restart) s = .next (answered 0x16 .notDefined [] 5 s)) ∧
    (isSlidePage r s = true → ∀ v restart,
      exec (.setTimeout owner page v restart) s = .next (answered 0x16 .wrongState [] 5 s)) ∧
    ((pageEntry r s).defined = true → readySlot r s = none →
      exec (.readPage owner page) s = .next (answered 0x17 .wrongState [] 2 s)) ∧
    (isMenuPage r s = true → readySlot r s = none → ∀ v restart,
      exec (.setTimeout owner page v restart) s = .next (answered 0x16 .wrongState [] 5 s)) ∧
    ∀ k, readySlot r s = some k →
      ((pageEntry r s).defined = true → exec (.readPage owner page) s = .next (answered 0x17 .ok
        ((match positionOf r s, entryOf r s with
          | some i, some e => [BitVec.ofNat 8 i, entryStateCode e.st]
          | _, _ => [0xFF, 0xFF]) ++
          [(slotAt k s).selection.getD 0xFF] ++ halfBytes (slotAt k s).timer ++ halfBytes (slotAt k s).latch ++
          [BitVec.ofNat 8 (slotAt k s).buttons.length] ++ buttonBytes (slotAt k s)) 2 s)) ∧
      (isMenuPage r s = true → ∀ v restart, restart ≠ 0 → exec (.setTimeout owner page v restart) s =
        .next (setSlot k { slotAt k s with latch := v, timer := v, mark := false }
          (answered 0x16 .ok [] 5 s))) ∧
      (isMenuPage r s = true → ∀ v, exec (.setTimeout owner page v 0) s =
        .next (setSlot k { slotAt k s with latch := v, mark := (slotAt k s).mark || !timerCounts k s }
          (answered 0x16 .ok [] 5 s)))

/-- ACTIVATION_COMPLETE and PAGE_TIMEOUT_EXPIRY (R94, R95, R107, R108): where a hold or the timeout of the focus runs
out at a field start at which the Navigation Unit has still to act, it acts: every running hold goes down by 1, but for
one that began at this field start, and completes at 0; then the timeout of the focus, where it is counting, reloads at
its mark or at 0 and else goes down by 1 and expires at 0; then keys are delivered. A hold of 0 completes at once. The
button returns to SELECTED with hold 0, the outcome of the branch its test gives is executed, the report follows; a
timeout executes its outcome, reports it, and reloads its counter. That these events act as the unit's whole
field-start work is log 1. An outcome (R99 to R102): GOTO and CALL resolve their target and check it, BAD_TARGET and
STACK_FULL being reported; RETURN and HIDE go to the Page Stack; SELECT selects on the acting page (as in
SelectAndSetButton); SETVAR writes variables 0 to 11 and is refused with READ_ONLY on the others; SLIDE goes to a show
of the page's owner and is refused with NO_SLIDES otherwise; NONE does nothing. -/
def Obligations.ActivationsAndTimeoutsRunOut : Prop :=
  (∀ s (k : Fin 6), s.resetLow = false → s.due.contains .navigation = true → holdDue s k = true →
    exec .activationComplete s =
      .next (settleField (navigationField (s.setDue (s.due.erase .navigation))))) ∧
  (∀ s (k : Fin 6), s.resetLow = false → s.due.contains .navigation = false →
    allSlots.find? (holdOver s) = some k →
    exec .activationComplete s = .next (settleField (deliverKeys (completeActivation k s)))) ∧
  (∀ s, s.resetLow = false → s.due.contains .navigation = true → timeoutDue s = true →
    exec .pageTimeoutExpiry s =
      .next (settleField (navigationField (s.setDue (s.due.erase .navigation))))) ∧
  (∀ s, navigationField s = deliverKeys (
    let u := allSlots.foldl countHold s
    match focusSlot u with
    | none => u
    | some k => countTimeout u k)) ∧
  (∀ s (k : Fin 6),
    (activatedIndex (slotAt k s) = none → countHold s k = s ∧ completeActivation k s = s) ∧
    ∀ i b, activatedIndex (slotAt k s) = some i → (slotAt k s).buttons[i]? = some b →
      let counted := setSlot k { slotAt k s with hold := (slotAt k s).hold - 1 } s
      completeActivation k s = finishActivation k i s ∧
      (((slotAt k s).st ≠ .ready ∨ b.since = s.disp.counter) → countHold s k = s) ∧
      ((slotAt k s).st = .ready → b.since ≠ s.disp.counter →
        (2 ≤ (slotAt k s).hold → countHold s k = counted) ∧
        ((slotAt k s).hold ≤ 1 → countHold s k = finishActivation k i counted))) ∧
  (∀ s (k : Fin 6),
    let sl := slotAt k s
    (timerCounts k s = true ↔ (∃ e, focusEntry s = some e ∧ e.st = .shown ∧ readySlot e.page s = some k) ∧
      activatedIndex sl = none ∧ sl.latch ≠ 0) ∧
    (timerCounts k s = false → countTimeout s k = s) ∧
    (timerCounts k s = true → sl.mark = true ∨ sl.timer = 0 →
      countTimeout s k = setSlot k { sl with timer := sl.latch, mark := false } s) ∧
    (timerCounts k s = true → sl.mark = false → 2 ≤ sl.timer.toNat →
      countTimeout s k = setSlot k { sl with timer := sl.timer - 1, mark := false } s) ∧
    (timerCounts k s = true → sl.mark = false → sl.timer = 1 →
      countTimeout s k = expireTimeout k (setSlot k { sl with timer := 0, mark := false } s))) ∧
  (∀ s (k : Fin 6) i d r b, (slotAt k s).page = some r → (slotAt k s).defn = some d → d.buttons[i]? = some b →
    let branch := testResult b.test (s.nav.vars[b.test.var])
    let x := if branch = true then b.onTrue else b.onFalse
    let u := runOutcome ⟨r, b.id.setWidth 16⟩ x (raiseRecompose (setSlot k { slotAt k s with
      buttons := (slotAt k s).buttons.set i ⟨.selected, s.disp.counter⟩, hold := 0 } s))
    finishActivation k i s = if x.report = true then
      post .actionReport (some r.owner) (some r.id) (b.id.setWidth 16) x.code (u.nav.vars[b.test.var]) branch u
    else u) ∧
  (∀ s (k : Fin 6) d r, (slotAt k s).page = some r → (slotAt k s).defn = some d →
    let x := d.timeoutAct
    let u := runOutcome ⟨r, 0xFFFE⟩ x s
    let w := if x.report = true then
      post .actionReport (some r.owner) (some r.id) 0xFFFE x.code 0 true u else u
    expireTimeout k s = match readySlot r w with
      | none => w
      | some j => setSlot j { slotAt j w with timer := (slotAt j w).latch } w) ∧
  ∀ s r index (x : Action),
    let target : Int := if x.relative = true then x.target.toInt + r.id.val else x.target.toNat
    let run := runOutcome ⟨r, index⟩ x s
    let fault (code : Half) (detail : Word) : State :=
      post .outcomeFault (some r.owner) (some r.id) index code detail false s
    (x.kind = .nothing → run = s) ∧
    (x.kind = .goto ∨ x.kind = .call →
      (∀ p : Fin 32, (p.val : Int) = target → isMenuPage ⟨r.owner, p⟩ s = true →
        run = if x.kind = .goto then gotoPage r ⟨r.owner, p⟩ s
          else (callPage r ⟨r.owner, p⟩ s).getD (fault 1 0)) ∧
      ((∀ p : Fin 32, (p.val : Int) = target → isMenuPage ⟨r.owner, p⟩ s = false) →
        run = fault 0 (BitVec.ofInt 32 target))) ∧
    (x.kind = .goBack → run = returnFrom r s) ∧
    (x.kind = .hide → run = startLeaving r s) ∧
    (x.kind = .select → run = match readySlot r s with
      | none => s
      | some k => selectButton k (x.target.setWidth 8) s) ∧
    (x.kind = .setvar →
      (∀ v : Fin 16, x.target.toNat = v.val → v.val < 12 →
        run = s.setNav { s.nav with vars := s.nav.vars.set v x.value }) ∧
      (12 ≤ x.target.toNat → run = fault 2 (x.target.setWidth 32))) ∧
    (x.kind = .slide →
      (s.seqr.st ≠ .stopped → s.seqr.owner = r.owner →
        (x.target = 0 → run = stepShow false s) ∧ (x.target = 1 → run = stepShow true s) ∧
        (x.target = 2 → run = pauseShow s) ∧ (x.target = 3 → run = resumeShow s)) ∧
      (s.seqr.st = .stopped ∨ s.seqr.owner ≠ r.owner → run = fault 3 (x.target.setWidth 32)))

/-! ## Slides -/

/-- A search (R115) finds the playable entry that comes first in its direction: in a LOOP list going round, entry
i itself last; in a STOP_AT_END list only behind or before i. It finds nothing, or runs off the end or the start,
exactly where no such entry is playable. -/
def Obligations.SearchFindsTheFirstPlayable : Prop :=
  ∀ s i, i < (runningEntries s).length →
    let len := (runningEntries s).length
    (runningLoops s = true →
      (∀ j, searchFrom false i s = .entry j ↔ playable s j = true ∧
        ∀ x, playable s x = true → (j + len - 1 - i) % len ≤ (x + len - 1 - i) % len) ∧
      (∀ j, searchFrom true i s = .entry j ↔ playable s j = true ∧
        ∀ x, playable s x = true → (i + len - 1 - j) % len ≤ (i + len - 1 - x) % len) ∧
      ∀ back, searchFrom back i s = .nothing ↔ ∀ x, playable s x = false) ∧
    (runningLoops s = false →
      (∀ j, searchFrom false i s = .entry j ↔ i < j ∧ playable s j = true ∧
        ∀ x, i < x → x < j → playable s x = false) ∧
      (∀ j, searchFrom true i s = .entry j ↔ j < i ∧ playable s j = true ∧
        ∀ x, j < x → x < i → playable s x = false) ∧
      (searchFrom false i s = .offEnd ↔ ∀ x, i < x → playable s x = false) ∧
      (searchFrom true i s = .offStart ↔ ∀ x, x < i → playable s x = false))

/-- SLIDE_START and SLIDE_STOP (R114, R116, R117, R125): the refusals in their order; an accepted start runs the
show from the index given, WAITING for a playable page that is not ready, which becomes the wanted page; a stop
gives every field of R114 its reset value. -/
def Obligations.ShowsStartAndStop : Prop :=
  (∀ s owner list index, linkOpen s = true →
    ((1 < owner.toNat ∨ 2 ≤ list.toNat) →
      exec (.slideStart owner list index) s = .next (answered 0x30 .badArgument [] 3 s)) ∧
    ∀ o (q : Fin 2), decodeOwner owner = some o → list.toNat = q.val →
      (slideList o q s = none →
        exec (.slideStart owner list index) s = .next (answered 0x30 .notDefined [] 3 s)) ∧
      ∀ l, slideList o q s = some l →
        (l.entries.length ≤ index.toNat →
          exec (.slideStart owner list index) s = .next (answered 0x30 .badArgument [] 3 s)) ∧
        (index.toNat < l.entries.length →
          exec (.slideStart owner list index) s =
            .next (placeReply 0x30 .ok [] (startShow o q index.toNat (crossed 3 s)))) ∧
        ∀ e, l.entries[index.toNat]? = some e → s.seqr.st = .stopped → isSlidePage ⟨o, e.page⟩ s = true →
          readySlot ⟨o, e.page⟩ s = none →
          ∃ t, exec (.slideStart owner list index) s = .next t ∧
            t.seqr = { s.seqr with
              st := .waiting, owner := o, list := q, index := index.toNat, back := false, shown := none
              wanted := some ⟨o, e.page⟩, pendingPause := false }) ∧
  ∀ s, linkOpen s = true →
    (s.seqr.st = .stopped → exec .slideStop s = .next (answered 0x31 .ok [] 0 s)) ∧
    (s.seqr.st ≠ .stopped → ∃ t, exec .slideStop s = .next t ∧
      t.seqr = sequencerReset s.seqr.lists ∧ t.link.reply = ⟨0x31, .ok, [], false⟩ ∧
      stillOffLink t = stillOffLink s)

/-- SLIDE_PAUSE, SLIDE_RESUME and SET_HOLD (R123, R124) in every state of the Sequencer; nothing but the
Sequencer's own fields, the reply and LSDO changes. The field holdFresh is the model's (log 22). -/
def Obligations.HoldsPauseAndResume : Prop :=
  ∀ s, linkOpen s = true →
    ((s.seqr.st = .stopped ∨ s.seqr.st = .ended) →
      exec .slidePause s = .next (answered 0x32 .wrongState [] 0 s) ∧
      exec .slideResume s = .next (answered 0x33 .wrongState [] 0 s)) ∧
    (s.seqr.st = .holding →
      exec .slidePause s = .next ((answered 0x32 .ok [] 0 s).setSeqr { s.seqr with st := .paused }) ∧
      exec .slideResume s = .next (answered 0x33 .ok [] 0 s)) ∧
    (s.seqr.st = .paused →
      exec .slidePause s = .next (answered 0x32 .ok [] 0 s) ∧
      exec .slideResume s = .next ((answered 0x33 .ok [] 0 s).setSeqr { s.seqr with
        st := .holding
        counter := if s.seqr.latchMark = true then s.seqr.latch else s.seqr.counter
        latchMark := false
        holdFresh := s.due.contains .sequencer })) ∧
    ((s.seqr.st = .waiting ∨ s.seqr.st = .transitioning) →
      exec .slidePause s = .next ((answered 0x32 .ok [] 0 s).setSeqr { s.seqr with pendingPause := true }) ∧
      exec .slideResume s = .next ((answered 0x33 .ok [] 0 s).setSeqr { s.seqr with pendingPause := false })) ∧
    (s.seqr.st = .stopped → ∀ v restart,
      exec (.setHold v restart) s = .next (answered 0x35 .wrongState [] 3 s)) ∧
    (s.seqr.st ≠ .stopped → ∀ v restart, exec (.setHold v restart) s =
      .next ((answered 0x35 .ok [] 3 s).setSeqr (
        if restart ≠ 0 then { s.seqr with latch := v, counter := v, latchMark := false }
        else { s.seqr with latch := v, latchMark := s.seqr.latchMark || s.seqr.st == .paused })))

/-- SLIDE_STEP, HOLD_RUN_OUT and TRANSITION_END (R119, R120, R121, R122): a step searches from the index, ending a
transition first; a hold that runs out at a field start at which the Sequencer has still to act searches FORWARD; a
transition that has run its length ends, and its incoming slide is the shown page with its hold loaded. That an
event acts as the unit's whole field-start work is log 1, holdFresh is log 22. A search (R115) moves the show to the
entry it finds, whose page becomes the wanted page; off the end with a slide shown the show is ENDED with SLIDE_END, off
the start it stays; with no slide shown, or with nothing found, it stops with EMPTY. The show WAITS for a page that is
not ready; else (R117) the slide is brought in at full level where none is shown, stands already where it is the shown
one, or its transition starts (R119): a CUT, or a length of 0, puts the slide in the shown one's place; another kind adds
it ENTERING above the shown one, with the roles OUTGOING and INCOMING and the record of kind, length and field; where the
stack has no room it is a CUT. An advance that completes (R120) loads the hold, leaves the wait, posts SLIDE_ADVANCED and
prefetches. That the exchange takes up work only after the addition is log 32, the code of a cut log 34. -/
def Obligations.ShowsAdvance : Prop :=
  (∀ s step, linkOpen s = true →
    (step ≠ 0x01 → step ≠ 0xFF → exec (.slideStep step) s = .next (answered 0x34 .badArgument [] 1 s)) ∧
    (step = 0x01 ∨ step = 0xFF →
      (s.seqr.st = .stopped → exec (.slideStep step) s = .next (answered 0x34 .wrongState [] 1 s)) ∧
      (s.seqr.st = .ended → step = 0x01 → exec (.slideStep step) s = .next (answered 0x34 .ok [] 1 s)) ∧
      (s.seqr.st = .holding ∨ s.seqr.st = .waiting ∨ (s.seqr.st = .ended ∧ step = 0xFF) →
        exec (.slideStep step) s =
          .next (placeReply 0x34 .ok [] (searchMove (step == 0xFF) (crossed 1 s)))) ∧
      (s.seqr.st = .paused → exec (.slideStep step) s = .next (placeReply 0x34 .ok [] (
        let u := searchMove (step == 0xFF) ((crossed 1 s).setSeqr { s.seqr with pendingPause := true })
        if u.seqr.st = .paused ∨ u.seqr.st = .ended then u.setSeqr { u.seqr with pendingPause := false }
        else u))) ∧
      (s.seqr.st = .transitioning → exec (.slideStep step) s =
        .next (placeReply 0x34 .ok [] (stepSettled (step == 0xFF) (endTransition (crossed 1 s))))))) ∧
  (∀ s, s.resetLow = false → s.due.contains .sequencer = true → s.seqr.st = .holding →
    s.seqr.holdFresh = false → s.seqr.latch ≠ 0 → s.seqr.counter = 1 →
    exec .holdRunOut s = .next (settleField (searchMove false
      ((s.setDue (s.due.erase .sequencer)).setSeqr { s.seqr with counter := 0 })))) ∧
  (∀ s tr, s.resetLow = false → s.due.contains .sequencer = true → s.seqr.st = .transitioning →
    s.seqr.trans = some tr → tr.length ≤ (s.disp.counter - tr.start).toNat →
    exec .transitionEnd s = .next (settleField (endTransition (s.setDue (s.due.erase .sequencer))))) ∧
  (∀ s tr out r e, s.seqr.trans = some tr → s.seqr.shown = some out →
    (runningEntries s)[s.seqr.index]? = some e → r = ⟨s.seqr.owner, e.page⟩ →
    (endTransition s).seqr = { s.seqr with
      shown := some r, trans := none, latch := e.hold, counter := e.hold, latchMark := false
      st := if s.seqr.pendingPause = true then .paused else .holding
      pendingPause := false, holdFresh := s.due.contains .sequencer
      wanted := (endTransition s).seqr.wanted }) ∧
  (∀ s back,
    let told (kind : NoticeKind) (page : Option (Fin 32)) (code : Half) (u : State) : State :=
      post kind (some s.seqr.owner) page (BitVec.ofNat 16 s.seqr.index) code (BitVec.ofNat 32 s.seqr.list.val)
        false u
    let unwanted (u : State) : State :=
      match s.seqr.wanted with
      | none => u
      | some w => withdrawRequest .sequencer w u
    (∀ j r e, searchFrom back s.seqr.index s = .entry j → (runningEntries s)[j]? = some e →
      r = ⟨s.seqr.owner, e.page⟩ →
      let u := requestPage .sequencer r ((if s.seqr.wanted = some r then fun t => t else unwanted) (s.setSeqr
        { s.seqr with index := j, back := back, st := .waiting, wanted := some r }))
      (readySlot r s = none → searchMove back s = u) ∧
      (readySlot r s ≠ none → searchMove back s =
        match s.seqr.shown with
        | none => bringInFull r u
        | some p => if p = r then completeAdvance 4 u else startTransition p r e u)) ∧
    (∀ p, searchFrom back s.seqr.index s = .offEnd → s.seqr.shown = some p → searchMove back s =
      told .slideEnd (some p.id) 0 (unwanted (s.setSeqr { s.seqr with st := .ended, wanted := none }))) ∧
    (searchFrom back s.seqr.index s = .offStart → s.seqr.shown ≠ none → searchMove back s = s) ∧
    (searchFrom back s.seqr.index s = .nothing ∨ s.seqr.shown = none ∧
        (searchFrom back s.seqr.index s = .offEnd ∨ searchFrom back s.seqr.index s = .offStart) →
      searchMove back s = (told .slideStopped none 1 (unwanted
        (((s.stack.entries.filter (fun e => e.band == .slide)).map Entry.page).foldl
          (fun t r => removeEntry r (some hiddenSlide) t) s))).setSeqr (sequencerReset s.seqr.lists)) ∧
    ∀ code e, (runningEntries s)[s.seqr.index]? = some e → completeAdvance code s =
      prefetch (told .slideAdvanced (s.seqr.shown.map PageRef.id) code (unwanted (s.setSeqr { s.seqr with
        latch := e.hold, counter := e.hold, latchMark := false, trans := none
        st := if s.seqr.pendingPause = true then .paused else .holding
        pendingPause := false, holdFresh := s.due.contains .sequencer, wanted := none })))) ∧
  (∀ s,
    (∀ j r, searchFrom false s.seqr.index s = .entry j → pageAt j s = some r → s.seqr.shown ≠ some r →
      prefetch s = wantPage r s ∧ (prefetch s).seqr.wanted = some r) ∧
    ((∀ j r, searchFrom false s.seqr.index s = .entry j → pageAt j s = some r → s.seqr.shown = some r) →
      (prefetch s).seqr.wanted = none)) ∧
  (∀ s r e, (runningEntries s)[s.seqr.index]? = some e →
    let landed (q : Sequencer) : Prop := q = { s.seqr with
      shown := some r, trans := none, latch := e.hold, counter := e.hold, latchMark := false
      st := if s.seqr.pendingPause = true then .paused else .holding
      pendingPause := false, holdFresh := s.due.contains .sequencer, wanted := q.wanted }
    let alone (es : List Entry) : List Entry :=
      let i := (es.filter (fun x => x.band == .slide)).length
      es.take i ++ [⟨r, .slide, .shown, some s.disp.counter, 0, .plain⟩] ++ es.drop i
    (s.stack.entries.length < 5 →
      (bringInFull r s).stack.entries = alone s.stack.entries ∧ landed (bringInFull r s).seqr) ∧
    (5 ≤ s.stack.entries.length → (∀ x ∈ s.stack.entries, x.st ≠ .leaving) → bringInFull r s = s) ∧
    (∀ y, s.stack.entries.length = 5 → oldestLeaving s = some y →
      bringInFull r s = bringInFull r (removeBeforeSlide y.page hiddenCut s)) ∧
    ∀ p x, entryOf p s = some x → x.st ≠ .leaving → s.stack.entries.length ≤ 5 →
      (e.kind = .cut ∨ e.length = 0 →
        (startTransition p r e s).stack.entries = alone (s.stack.entries.eraseP (fun y => y.page == p)) ∧
        landed (startTransition p r e s).seqr) ∧
      (e.kind ≠ .cut → e.length ≠ 0 →
        (∀ below above, s.stack.entries = below ++ x :: above → (s.stack.entries.map Entry.page).Nodup →
          s.stack.entries.length < 5 →
          (startTransition p r e s).stack.entries = below ++ { x with role := .outgoing } ::
            ⟨r, .slide, .entering, some s.disp.counter, 0, .incoming⟩ :: above ∧
          (startTransition p r e s).seqr = { s.seqr with
            st := .transitioning, trans := some ⟨e.kind, e.length, s.disp.counter⟩, wanted := none }) ∧
        (5 ≤ s.stack.entries.length → (∀ y ∈ s.stack.entries, y.st ≠ .leaving) →
          startTransition p r e s = startTransition p r { e with kind := .cut } s) ∧
        ∀ y, s.stack.entries.length = 5 → oldestLeaving s = some y →
          startTransition p r e s = startTransition p r e (removeBeforeSlide y.page hiddenCut s))) ∧
  ∀ s r code x, entryOf r s = some x →
    (removeBeforeSlide r code s).stack.entries = (s.stack.entries.eraseP (fun y => y.page == r)).map (fun y =>
      if x.st = .leaving ∧ y.st = .leaving ∧ x.order < y.order then { y with order := y.order - 1 } else y)

/-! ## Time and cues -/

/-- The two comparisons of stream time (R132), with differences modulo 2^32. -/
def Obligations.TimeComparisonsWrap : Prop :=
  ∀ t target a b : Word,
    (hasReached t target = true ↔ ((t.toNat : Int) - target.toNat) % 2 ^ 32 < 2 ^ 31) ∧
    (inRange t a b = true ↔
      ((t.toNat : Int) - a.toNat) % 2 ^ 32 ≤ ((b.toNat : Int) - a.toNat) % 2 ^ 32) ∧
    (a = b → (inRange t a b = true ↔ t = a)) ∧ inRange a a b = true ∧ inRange b a b = true

/-- One step of a cue slot (R136, R139) for every state and condition; firing with NONE and no REPORT changes the
slot's state alone; a slot without a record takes no step. At a field start (R130, R137) the time advances and the
slots are evaluated from 15 down to 0, keys after them (log 12). The conditions (R133): the time has reached a, is
in a range or outside it, a variable equals a value under a mask or differs. The actions (R140, R141) on pages of
the cue's owner: SHOW, HIDE and SELECT need a defined MENU page, else BAD_TARGET; SHOW needs room, else STACK_FULL;
SELECT needs a READY slot, else NOT_READY; SETVAR a variable below 12, else READ_ONLY; SLIDE a show of the owner,
else NO_SLIDES. A fault is posted with source CUE and changes nothing else; CUE_FIRED follows where the action has
REPORT, with detail 1 after a fault (R139, R142). -/
def Obligations.CueSlotsTakeOneStep : Prop :=
  (∀ s (i : Fin 16) c, (cueSlot i s).cue = some c →
    ((cueSlot i s).st = .watching → condTrue s c.level1 = false → evaluateCue s i = s) ∧
    ((cueSlot i s).st = .watching → condTrue s c.level1 = true → c.level2.kind = .absent →
      evaluateCue s i = fireCue i c s) ∧
    ((cueSlot i s).st = .watching → condTrue s c.level1 = true → c.level2.kind ≠ .absent →
      evaluateCue s i = setCueSlot i ⟨.armed, some c⟩ s) ∧
    ((cueSlot i s).st = .armed → evaluateCue s i = if condTrue s c.level2 = true then fireCue i c s else s) ∧
    ((cueSlot i s).st = .resting →
      evaluateCue s i = if condTrue s c.level1 = true then s else setCueSlot i ⟨.watching, some c⟩ s) ∧
    (((cueSlot i s).st = .fired ∨ (cueSlot i s).st = .idle) → evaluateCue s i = s)) ∧
  (∀ s (i : Fin 16) c, (cueSlot i (fireCue i c s)) = ⟨if c.repeats = true then .resting else .fired, some c⟩) ∧
  (∀ s (i : Fin 16) c, c.action.kind = .nothing → c.action.report = false →
    fireCue i c s = setCueSlot i ⟨if c.repeats = true then .resting else .fired, some c⟩ s) ∧
  cueOrder.map Fin.val = [15, 14, 13, 12, 11, 10, 9, 8, 7, 6, 5, 4, 3, 2, 1, 0] ∧
  (∀ s (i : Fin 16), (cueSlot i s).cue = none → evaluateCue s i = s) ∧
  (∀ s, (s.due.contains .cues = true → actBlock s .cues = cueField (s.setDue (s.due.erase .cues))) ∧
    let advanced := if s.cues.running = true then
        s.setCues { s.cues with time := s.cues.time + s.cues.ticks.setWidth 32 }
      else s
    cueField s = if s.link.configured = true then deliverKeys (cueOrder.foldl evaluateCue advanced) else advanced) ∧
  (∀ s (c : Cond),
    let same := ∀ j, c.q.getLsbD j = true → (s.nav.vars[c.var]).getLsbD j = c.p.getLsbD j
    (condTrue s c = true ↔
      match c.kind with
      | .absent => False
      | .timeAt => ((s.cues.time.toNat : Int) - c.p.toNat) % 2 ^ 32 < 2 ^ 31
      | .timeIn => ((s.cues.time.toNat : Int) - c.p.toNat) % 2 ^ 32 ≤ ((c.q.toNat : Int) - c.p.toNat) % 2 ^ 32
      | .timeOut => ((c.q.toNat : Int) - c.p.toNat) % 2 ^ 32 < ((s.cues.time.toNat : Int) - c.p.toNat) % 2 ^ 32
      | .varEq => same
      | .varNe => ¬ same)) ∧
  ∀ s (i : Fin 16) (c : CueRecord) (p : Fin 32), c.action.target.toNat % 32 = p.val →
    let x := c.action
    let owner := if i.val < 8 then Owner.disc else .player
    let r : PageRef := ⟨owner, p⟩
    let page := if x.kind = .bringUp ∨ x.kind = .hide ∨ x.kind = .select then some p else none
    let fired (detail : Word) (t : State) : State :=
      setCueSlot i ⟨if c.repeats = true then .resting else .fired, some c⟩
        (if x.report = true then
          post .cueFired (some owner) page (BitVec.ofNat 16 (i.val % 8)) x.code detail false t else t)
    let fault (code : Half) (detail : Word) : State :=
      fired 1 (post .outcomeFault (some owner) page (BitVec.ofNat 16 (i.val % 8)) code detail true s)
    (x.kind = .nothing → fireCue i c s = fired 0 s) ∧
    (x.kind = .bringUp ∨ x.kind = .hide ∨ x.kind = .select → isMenuPage r s = false →
      fireCue i c s = fault 0 (BitVec.ofNat 32 p.val)) ∧
    (x.kind = .bringUp → isMenuPage r s = true →
      (entryOf r s = none → s.stack.entries.length < 5 →
        fireCue i c s = fired 0 (addEntering r (topOfBand (menuBand owner) s) s)) ∧
      (∀ e, entryOf r s = none → 5 ≤ s.stack.entries.length → oldestLeaving s = some e →
        let u := removeEntry e.page (some hiddenCut) s
        fireCue i c s = fired 0 (addEntering r (topOfBand (menuBand owner) u) u)) ∧
      (entryOf r s = none → 5 ≤ s.stack.entries.length → (∀ e ∈ s.stack.entries, e.st ≠ .leaving) →
        fireCue i c s = fault 1 0) ∧
      ∀ e, entryOf r s = some e →
        fireCue i c s = fired 0 (if e.st = .leaving then restoreEntry r s else s)) ∧
    (x.kind = .hide → isMenuPage r s = true → fireCue i c s = fired 0 (startLeaving r s)) ∧
    (x.kind = .select → isMenuPage r s = true → fireCue i c s =
      match readySlot r s with
      | none => fault 4 x.value
      | some k => fired 0 (selectButton k (x.value.setWidth 8) s)) ∧
    (x.kind = .setvar →
      (∀ v : Fin 16, x.target.toNat = v.val → v.val < 12 →
        fireCue i c s = fired 0 (s.setNav { s.nav with vars := s.nav.vars.set v x.value })) ∧
      (12 ≤ x.target.toNat → fireCue i c s = fault 2 (x.target.setWidth 32))) ∧
    (x.kind = .slide →
      (s.seqr.st ≠ .stopped → s.seqr.owner = owner →
        (x.target = 0 → fireCue i c s = fired 0 (stepShow false s)) ∧
        (x.target = 1 → fireCue i c s = fired 0 (stepShow true s)) ∧
        (x.target = 2 → fireCue i c s = fired 0 (pauseShow s)) ∧
        (x.target = 3 → fireCue i c s = fired 0 (resumeShow s))) ∧
      (s.seqr.st = .stopped ∨ s.seqr.owner ≠ owner → fireCue i c s = fault 3 (x.target.setWidth 32)))

/-- FIELD_START (R130, R143, R163): the field counter goes up by 1, stream time advances by the ticks per field
exactly where it runs, and the decision on scan-out is taken; the running flag, the ticks and OUTPUT stay. (The
Cue Unit has acted at the field start before, as it always has: log 1.) What the Display Port drives (R1, R163): while
scanning, inside the active area of the format, the four bytes of the front plane's pixel; otherwise, and outside that
area, transparent black. Which pixel is driven when is left out (log 23). -/
def Obligations.FieldStartCountsAndAdvances : Prop :=
  (∀ s x y,
    let inside := ∃ f, s.comp.format = some f ∧ x < (formatSize f).1 ∧ y < (formatSize f).2
    let byte (i : Nat) : Byte := s.mem.read (BitVec.ofNat 25
      ((match s.comp.front with
        | .a => 0
        | .b => 0x07E9000) + 4 * (1920 * y + x) + i))
    (s.disp.scanning = true → inside → scanPixel s x y = ⟨byte 0, byte 1, byte 2, byte 3⟩) ∧
    (s.disp.scanning = false ∨ ¬ inside → scanPixel s x y = ⟨16, 128, 128, 0⟩)) ∧
  (formatSize .sd480 = (720, 480) ∧ formatSize .sd576 = (720, 576) ∧ formatSize .hd720 = (1280, 720) ∧
    formatSize .hd1080 = (1920, 1080)) ∧
  ∀ order s, s.resetLow = false → s.due.contains .cues = false →
    ∃ t, exec (.fieldStart order) s = .next t ∧ t.disp.counter = s.disp.counter + 1 ∧
      t.cues.time = (if s.cues.running = true then s.cues.time + s.cues.ticks.setWidth 32 else s.cues.time) ∧
      t.cues.running = s.cues.running ∧ t.cues.ticks = s.cues.ticks ∧ t.disp.output = s.disp.output ∧
      t.disp.scanning = (t.link.configured && !t.comp.clearing && s.disp.output) ∧
      t.link.configured = s.link.configured ∧ t.comp.clearing = s.comp.clearing

/-! ## Composition -/

/-- Passes (R6, R144, R147, R148, R149, R150, R151, R154, R155, R156). At a field start a finished pass is swapped in;
a late field start sets LATE and starts nothing; without a request, an animation mark or a configuration no pass
starts; a pass that starts takes the field number as its stamp, clears the request, latches the palettes and fills the
active area of the back plane with transparent black. PASS_COMPLETE: the pass is DONE and its snapshot gone, the
deferred regions are free, and of the graphics memory only the back plane has changed; the entries of the snapshot have
been drawn from bottom to top, each its placements in list order and then its buttons in list order, every object with
its crop clamped, its frame chosen by the state and the age of the button, and each of its pixels blended where it
lands inside the active area and the columns of its slide. The Composer acts at every field start in FIELD_START (log
1). That the drawing is done at PASS_COMPLETE is log 6, that PASS_COMPLETE without a pass changes nothing log 35. The
snapshot (R18, R150) holds, in stack order, each entry whose slot is READY and that is a slide, SHOWN, LEAVING, or
ENTERING with a start field, with its part of the working copy, and the current region and size of every object that is
READY or REPLACING. The animation mark (R146) is set where it holds a transition record, an ENTERING or LEAVING entry
of a menu band, or a button whose visual for its state has 2 frames or more. -/
def Obligations.PassesRunInTheBackPlane : Prop :=
  (∀ sn, snapshotAnimates sn = true ↔ sn.trans ≠ none ∨ ∃ e ∈ sn.entries,
    (e.band ≠ .slide ∧ (e.st = .entering ∨ e.st = .leaving)) ∨ ∃ b ∈ e.buttons, ∃ v, 2 ≤ v.count ∧
      some v = (match b.st with
        | .normal => b.visNormal
        | .selected => b.visSelected
        | .activated => b.visActivated
        | .disabled => b.visDisabled)) ∧
  (∀ s,
      (s.comp.pass = .drawing → composerField s =
        s.setLink { s.link with conds := { s.link.conds with late := true } }) ∧
      (s.comp.pass = .done → composerField s = composerField
        (s.setComp { s.comp with front := otherPlane s.comp.front, pass := .idle })) ∧
      (s.comp.pass = .idle → (s.link.configured = false ∨ s.comp.format = none ∨ s.comp.clearing = true ∨
        (s.comp.recompose = false ∧ s.comp.animation = false)) → composerField s = s) ∧
      ∀ f, s.comp.pass = .idle → s.link.configured = true → s.comp.format = some f → s.comp.clearing = false →
        (s.comp.recompose = true ∨ s.comp.animation = true) →
        (composerField s).comp.pass = .drawing ∧ (composerField s).comp.stamp = s.disp.counter ∧
        (composerField s).comp.recompose = false ∧ (composerField s).comp.front = s.comp.front ∧
        ∃ sn, (composerField s).comp.snapshot = some sn ∧ sn.format = f ∧ sn.trans = s.seqr.trans ∧
          sn.entries = s.stack.entries.filterMap (fun e =>
            if e.band = .slide ∨ e.st = .shown ∨ e.st = .leaving ∨ e.start ≠ none then
              (readySlot e.page s).bind (fun k => (slotAt k s).defn.map (fun d =>
                ⟨e.page, e.band, e.st, e.start, e.role, d.palette, d.fadeIn, d.fadeOut, d.placements,
                  List.zipWith (fun (b : Button) (l : ButtonLive) =>
                    (⟨b.x, b.y, b.visNormal, b.visSelected, b.visActivated, b.visDisabled, l.st, l.since⟩ : SnapButton))
                    d.buttons (slotAt k s).buttons⟩))
            else none) ∧
          sn.objects = (List.finRange 512).filterMap (fun i =>
            if (objEntry i s).st = .ready ∨ (objEntry i s).st = .replacing then
              (objEntry i s).current.map (fun r => ⟨i, r, (objEntry i s).width, (objEntry i s).height⟩)
            else none) ∧
          (composerField s).comp.animation = snapshotAnimates sn ∧
          ∀ i : Fin 16, (composerField s).pals[i] =
            if s.pals[i].changed = true then { s.pals[i] with live := s.pals[i].pending, changed := false }
            else s.pals[i]) ∧
  (∀ s, s.resetLow = false →
      (s.comp.pass ≠ .drawing → exec .passComplete s = .next s) ∧
      (s.comp.pass = .drawing → ∃ t, exec .passComplete s = .next t ∧
        t = ((s.setMem t.mem).setObjs { s.objs with
          free := s.objs.deferred.foldl (fun f r => giveBack r f) s.objs.free, deferred := [] }).setComp
            { s.comp with pass := .done, snapshot := none, progress := ⟨0, []⟩ } ∧
        ∀ a : Addr, (a.toNat < planeBase (otherPlane s.comp.front) ∨
            planeBase (otherPlane s.comp.front) + 8294400 ≤ a.toNat) → t.mem.read a = s.mem.read a)) ∧
  (∀ s order, s.resetLow = false → s.due = [] →
      exec (.fieldStart (.composer :: order)) s = .next (settleField (decideScan
        ((order ++ [FieldBlock.cues, FieldBlock.composer]).foldl actBlock (composerField
          ((s.setDisp { s.disp with counter := s.disp.counter + 1 }).setDue
            [.pageStack, .navigation, .sequencer, .cues])))))) ∧
  (∀ s order, s.resetLow = false → s.due = [] →
      exec (.fieldStart order) s = .next (settleField (decideScan
        ((order ++ [FieldBlock.cues, FieldBlock.composer]).foldl actBlock
          ((s.setDisp { s.disp with counter := s.disp.counter + 1 }).setDue
            [.pageStack, .navigation, .sequencer, .cues, .composer]))))) ∧
  (∀ s, s.due.contains .composer = true →
      actBlock s .composer = composerField (s.setDue (s.due.erase .composer))) ∧
  (∀ s f, s.comp.pass = .idle → s.link.configured = true → s.comp.format = some f → s.comp.clearing = false →
      (s.comp.recompose = true ∨ s.comp.animation = true) →
      let back := otherPlane s.comp.front
      (composerField s).comp.progress = ⟨0, []⟩ ∧
      (∀ x y, x < 1920 → y < 1080 → readPixel (composerField s).mem back x y =
        if x < (formatSize f).1 ∧ y < (formatSize f).2 then transparentBlack else readPixel s.mem back x y) ∧
      ∀ a : Addr, (a.toNat < planeBase back ∨ planeBase back + 8294400 ≤ a.toNat) →
        (composerField s).mem.read a = s.mem.read a) ∧
  (∀ s sn, s.resetLow = false → s.comp.pass = .drawing → s.comp.snapshot = some sn →
      s.comp.progress = ⟨0, []⟩ → ∃ t, exec .passComplete s = .next t ∧
      t.mem = (sn.entries.flatMap (fun e =>
          let level := entryLevel sn s.comp.stamp e
          e.placements.filterMap (placementItem sn e level) ++
            e.buttons.filterMap (buttonItem sn s.comp.stamp e level))).foldl
        (fun m it => drawWhere (fun _ _ => true) s.pals (otherPlane s.comp.front) (formatSize sn.format) it m)
        s.mem) ∧
  (∀ sn now (e : SnapEntry) level,
      let drawn (id : Nat) : Option SnapObject :=
        (objectIndex e.page.owner id).bind (fun i => sn.objects.find? (fun x => x.entry = i))
      let whole (ob : SnapObject) (x y : Nat) : DrawItem :=
        ⟨ob.region, ob.width, 0, 0, ob.width, ob.height, x, y, paletteIndex e.page.owner e.palette,
          level.1, level.2⟩
      (∀ p : Placement, placementItem sn e level p = (drawn p.obj).map (fun ob =>
        match p.crop with
        | none => whole ob p.x p.y
        | some c => { whole ob p.x p.y with
            i0 := min c.cx ob.width
            j0 := min c.cy ob.height
            cols := min c.cw (ob.width - min c.cx ob.width)
            rows := min c.ch (ob.height - min c.cy ob.height) })) ∧
      ∀ b : SnapButton, buttonItem sn now e level b =
        (match b.st with
          | .normal => b.visNormal
          | .selected => b.visSelected
          | .activated => b.visActivated
          | .disabled => b.visDisabled).bind (fun v =>
          (drawn (v.first + (now - b.since).toNat / v.period % v.count)).map (fun ob => whole ob b.x b.y))) ∧
  ∀ (pals : Vector Palette 16) plane f (it : DrawItem) (m : Memory) x y, m.wf = true → x < 1920 → y < 1080 →
    (∀ i j, i < it.cols → j < it.rows →
      heapBase + 256 * it.region.start + ((it.j0 + j) * it.stride + (it.i0 + i)) < 2 ^ 25) →
    readPixel (drawWhere (fun _ _ => true) pals plane (formatSize f) it m) plane x y =
      if it.x ≤ x ∧ x < it.x + it.cols ∧ it.y ≤ y ∧ y < it.y + it.rows ∧
          x < (formatSize f).1 ∧ y < (formatSize f).2 ∧ x < it.columns then
        let c := pals[it.palette].live[(m.read (regionAddr it.region
          ((it.j0 + (y - it.y)) * it.stride + (it.i0 + (x - it.x))))).toNat]
        blend (effectiveAlpha c.a.toNat it.level) c (readPixel m plane x y)
      else readPixel m plane x y

/-- Every level that a pass computes is within 0 to 128 (R157); a fade-in rises from 0 to 128 and a fade-out falls
from 128 to 0 over the fade length (R158). The level of an entry of a menu band, by its state (R158; R65 gives the 0 of a
LEAVING entry whose fade-out has become 0), and of a slide (R159): 128 outside a transition; inside one by its kind, role
and progress k of n fields, a WIPE_LEFT drawing the incoming slide left of its boundary alone; at the end, k = n, the
outgoing slide is at 0 whatever the kind. The effective alpha (R160) is never above the alpha of the palette
entry, equal to it at level 128, and 0 at level 0. -/
def Obligations.LevelsAndAlphaStayInRange : Prop :=
  (∀ sn now (e : SnapEntry),
    let w := (formatSize sn.format).1
    let level := entryLevel sn now e
    (e.band ≠ .slide →
      (e.st = .shown → level = (128, w)) ∧
      ∀ v, e.start = some v →
        let d := (now - v).toNat
        (e.st = .entering → level = (if e.fadeIn = 0 then 128 else min 128 (128 * d / e.fadeIn), w)) ∧
        (e.st = .leaving → level = (if e.fadeOut = 0 then 0 else 128 - min 128 (128 * d / e.fadeOut), w))) ∧
    (e.band = .slide →
      (sn.trans = none ∨ e.role = .plain → level = (128, w)) ∧
      ∀ kind n start, sn.trans = some ⟨kind, n, start⟩ → 1 ≤ n →
        let k := min n (now - start).toNat
        let h := n / 2
        (e.role = .incoming →
          (kind = .crossfade → level = (128 * k / n, w)) ∧
          (kind = .fadeThrough → level = (if k ≤ h then 0 else 128 * (k - h) / (n - h), w)) ∧
          (kind = .wipeLeft → level = (128, w * k / n))) ∧
        (e.role = .outgoing →
          (kind = .crossfade → level = (128 - 128 * k / n, w)) ∧
          (kind = .fadeThrough → level = (if h < k then 0 else if h = 0 then 128 else 128 - 128 * k / h, w)) ∧
          (kind = .wipeLeft → level = (if k = n then 0 else 128, w))))) ∧
  ((∀ sn now e, (entryLevel sn now e).1 ≤ 128) ∧
    ∀ fade d, 1 ≤ fade →
      enteringLevel fade 0 = 0 ∧ (fade ≤ d → enteringLevel fade d = 128) ∧
      leavingLevel fade 0 = 128 ∧ (fade ≤ d → leavingLevel fade d = 0) ∧
      enteringLevel fade d ≤ enteringLevel fade (d + 1) ∧ leavingLevel fade (d + 1) ≤ leavingLevel fade d) ∧
  (∀ alpha level, alpha ≤ 255 → level ≤ 128 →
      effectiveAlpha alpha level = (alpha * level + 64) / 128 ∧ effectiveAlpha alpha level ≤ alpha ∧
      effectiveAlpha alpha 128 = alpha ∧ effectiveAlpha alpha 0 = 0 ∧ effectiveAlpha 0 level = 0)

/-- Blending (R161): each component is the rounded weighted mean of source and plane, the alpha that of 255 and
the plane's; an effective alpha of 255 gives the source, 0 leaves the plane, and every result lies between its
inputs. -/
def Obligations.BlendIsTheRoundedMean : Prop :=
  ∀ (a : Nat) (src dst : Colour), a ≤ 255 →
    (blend a src dst).y.toNat = (a * src.y.toNat + (255 - a) * dst.y.toNat + 127) / 255 ∧
    (blend a src dst).cb.toNat = (a * src.cb.toNat + (255 - a) * dst.cb.toNat + 127) / 255 ∧
    (blend a src dst).cr.toNat = (a * src.cr.toNat + (255 - a) * dst.cr.toNat + 127) / 255 ∧
    (blend a src dst).a.toNat = (255 * a + (255 - a) * dst.a.toNat + 127) / 255 ∧
    blend 255 src dst = ⟨src.y, src.cb, src.cr, 255⟩ ∧ blend 0 src dst = dst ∧
    ∀ x y : Nat, x ≤ 255 → y ≤ 255 →
      min x y ≤ (a * x + (255 - a) * y + 127) / 255 ∧ (a * x + (255 - a) * y + 127) / 255 ≤ max x y ∧
      2 * (255 * ((a * x + (255 - a) * y + 127) / 255)) < 2 * (a * x + (255 - a) * y) + 255 ∧
      2 * (a * x + (255 - a) * y) < 2 * (255 * ((a * x + (255 - a) * y + 127) / 255)) + 255

/-! ## Heap -/

/-- The heap (R4, R5). The first extent that is large enough gives its lowest granules and keeps the rest, or
leaves the list; with none large enough the allocation fails. A released region goes back in address order and
coalesces: the free granules are the former ones and those of the region, the total grows by its count, and a list
in which no extent touches the next stays so. -/
def Obligations.HeapAllocatesAndReleases : Prop :=
  (∀ n l,
      (allocate n l = none ↔ ∀ e ∈ l, e.count < n) ∧
      ∀ before e after, l = before ++ e :: after → (∀ x ∈ before, x.count < n) → n ≤ e.count →
        allocate n l = some (⟨e.start, n⟩,
          before ++ (if e.count = n then after else ⟨e.start + n, e.count - n⟩ :: after))) ∧
  (∀ (r : Region) (l : List Region),
      ((giveBack r l).map Region.count).sum = (l.map Region.count).sum + r.count ∧
      (∀ g : Nat, (∃ e ∈ giveBack r l, e.start ≤ g ∧ g < e.start + e.count) ↔
        (r.start ≤ g ∧ g < r.start + r.count) ∨ ∃ e ∈ l, e.start ≤ g ∧ g < e.start + e.count) ∧
      (l.Pairwise (fun x y => x.start + x.count < y.start) →
        (∀ e ∈ l, e.start + e.count ≤ r.start ∨ r.start + r.count ≤ e.start) → 1 ≤ r.count →
        (∀ e ∈ l, 1 ≤ e.count) →
        (giveBack r l).Pairwise (fun x y => x.start + x.count < y.start)))

/-! ## Formats -/

/-- A command frame reads back as its command (R176, R190): its frame passes the checks of shape, code and length,
and its code and payload decode to it, for every value of every field. -/
def Obligations.CommandFramesReadBack : Prop :=
  ∀ i frame, i.wf = true → encodeFrame i = some frame →
    isBadFrame frame = false ∧ frameShapeOk frame = true ∧ decodeFrame (byteAt frame 0) (frame.drop 2) = some i

/-! ## Frames and invariants -/

/-- The commands and events of pages, buttons, keys, variables and slides change nothing outside the page
exchange, the stack, the navigation, the show, the recompose request, the notices and the link's own record of the
frame: every byte of the graphics memory, every object, palette, page definition, slide list, cue, the stream, the
lanes, the relay buffer, the planes and the display stay. The rows that are events of a field start write besides only
the model's record of the blocks that have still to act (log 1), and SAVE_DONE the save area of its victim. -/
def Obligations.InteractiveCommandsKeepTheRest : Prop :=
  (∀ i s t, isInteractive i = true → exec i s = .next t → stillOffLink t = stillOffLink s) ∧
  (∀ i s t, i ∈ [Instr.fadeInEnd, .fadeOutEnd, .activationComplete, .pageTimeoutExpiry, .holdRunOut, .transitionEnd] →
    exec i s = .next t → still t = (still s).setDue t.due) ∧
  ∀ s t, exec .saveDone s = .next t → still t = (still s).setMem t.mem ∧
    ∀ a : Addr, (∀ x v, s.exch.current = some x → (slotAt x.slot s).page = some v →
        a.toNat < saveAddr v ∨ saveAddr v + 16 ≤ a.toNat) → t.mem.read a = s.mem.read a

/-- The graphics memory keeps its canonical form at every step. What an unlisted address reads as is log 4. -/
def Obligations.EveryStepKeepsTheMemoryCanonical : Prop :=
  ∀ s t, memorySound s = true → step s = .next t → memorySound t = true

/-- Every step keeps the sizes of the queues, the stack, the return stacks, the FIFO and the relay buffer (R62,
R75, R83, R164, R169, R181); and it keeps HOLD on from 3,072 bytes up and off up to 1,024 while CONFIGURED, and
the FIFO empty with HOLD on while UNCONFIGURED (R164). -/
def Obligations.EveryStepKeepsSizesAndHold : Prop :=
  (∀ s t, sizesSound s = true → step s = .next t → sizesSound t = true) ∧
  (∀ s t, holdSound s = true → step s = .next t → holdSound t = true)

/-- Every step keeps this: a cue is ARMED only if it has a level-2 condition, and a slot that is not IDLE holds a
record (R133, R136). -/
def Obligations.EveryStepKeepsTheCues : Prop :=
  ∀ s t, cuesSound s → step s = .next t → cuesSound t

/-- Every step keeps this: while the Slide Sequencer is not STOPPED its list is defined and its index is less than
the list's length (R114). -/
def Obligations.EveryStepKeepsTheShowInItsList : Prop :=
  ∀ s t, showSound s → step s = .next t → showSound t

/-- Every step keeps this: regions are deferred, and a snapshot stands, only while a pass is DRAWING (R6, R151). -/
def Obligations.EveryStepKeepsDeferralToPasses : Prop :=
  ∀ s t, passSound s → step s = .next t → passSound t

/-- Every step keeps this: the exchange queue names no page twice and never the incoming page, and every request
has a requester (R48). -/
def Obligations.EveryStepKeepsTheExchangeQueue : Prop :=
  ∀ s t, queueSound s → step s = .next t → queueSound t

/-- The invariants hold right after reset. -/
def Obligations.InvariantsHoldAtReset : Prop :=
  memorySound State.reset = true ∧ sizesSound State.reset = true ∧ holdSound State.reset = true ∧
    cuesSound State.reset ∧ showSound State.reset ∧ passSound State.reset ∧ queueSound State.reset ∧
    fieldWorkSound State.reset = true

/-! ## The graphics memory of an object -/

/-- The run-length decode (R16, R17, R12) of an object that is being loaded, byte by byte: a byte beyond those expected,
and one after the last row, only damages the data; a lead byte begins a literal or a run; a literal byte is one
pixel and a run (lead - 0x80) + 2 pixels of its index from the current position on, cut at the width of the row,
which damages the data; an end of row pads the rest of the row with index 0, which damages the data where there is a
rest; completion pads the row in progress and every later row with index 0. No byte of the graphics memory outside
the pixels of the incoming region changes. -/
def Obligations.DecodeWritesTheRegion : Prop :=
  (∀ (i : Fin 512) b bs s, feedBytes i [] s = s ∧ feedBytes i (b :: bs) s = feedBytes i bs (feedByte i b s)) ∧
  (∀ (i : Fin 512) b s inc, (objEntry i s).incoming = some inc → s.mem.wf = true →
    let e := objEntry i s
    let t := feedByte i b s
    let row := inc.row * inc.width
    let counted (inc' : Incoming) (damaged : Bool) : Prop := t = ((s.setMem t.mem).setObjs { s.objs with
      dir := s.objs.dir.set i { e with
        incoming := some inc', damage := e.damage || damaged, expectBytes := e.expectBytes - 1 } })
    let pixels (n : Nat) (index : Byte) : Prop :=
      (∀ c, inc.col ≤ c → c < inc.col + n → c < inc.width →
        t.mem.read (regionAddr inc.region (row + c)) = index) ∧
      ∀ a : Addr, (∀ c, inc.col ≤ c → c < inc.col + n → c < inc.width → a ≠ regionAddr inc.region (row + c)) →
        t.mem.read a = s.mem.read a
    let col (n : Nat) : Nat := max inc.col (min (inc.col + n) inc.width)
    (e.expectBytes = 0 → t = setObjEntry i { e with damage := true } s) ∧
    (e.expectBytes ≠ 0 → inc.height ≤ inc.row → counted inc true ∧ t.mem = s.mem) ∧
    (e.expectBytes ≠ 0 → inc.row < inc.height →
      (inc.token = .idle → b = 0 →
        counted { inc with row := inc.row + 1, col := 0 } (decide (inc.col < inc.width)) ∧
        ∀ a : Addr, t.mem.read a =
          if inRegion inc.region (row + inc.col) (row + inc.width) a = true then 0 else s.mem.read a) ∧
      (inc.token = .idle → 1 ≤ b.toNat → b.toNat < 0x80 →
        counted { inc with token := .literal b.toNat } false ∧ t.mem = s.mem) ∧
      (inc.token = .idle → 0x80 ≤ b.toNat → counted { inc with token := .run b } false ∧ t.mem = s.mem) ∧
      (∀ n, inc.token = .literal n →
        counted { inc with col := col 1, token := if n ≤ 1 then .idle else .literal (n - 1) }
          (decide (inc.width ≤ inc.col)) ∧ pixels 1 b) ∧
      ∀ lead, inc.token = .run lead →
        let n := lead.toNat - 0x80 + 2
        counted { inc with col := col n, token := .idle } (decide (inc.width < inc.col + n)) ∧ pixels n b)) ∧
  (∀ (i : Fin 512) bs s inc, (objEntry i s).incoming = some inc → s.mem.wf = true →
    ∀ a : Addr, (∀ o, o < inc.width * inc.height → a ≠ regionAddr inc.region o) →
      (feedBytes i bs s).mem.read a = s.mem.read a) ∧
  ∀ (i : Fin 512) s inc, (objEntry i s).incoming = some inc → s.mem.wf = true → ∀ a : Addr,
    (completeObject i s).mem.read a = if inc.row < inc.height ∧
        inRegion inc.region (inc.row * inc.width + inc.col) (inc.width * inc.height) a = true then 0
      else s.mem.read a
end

