-- ==== Sys2Proof/Laws/State.lean ====
section
/-! SUPPORT. One lemma per field per update of State, each true by rfl. -/

namespace Sys2Proof.Machine

@[simp] theorem State.setMem_mem (s : State) (v : Memory) : (s.setMem v).mem = v := rfl
@[simp] theorem State.setMem_stream (s : State) (v : Memory) : (s.setMem v).stream = s.stream := rfl
@[simp] theorem State.setMem_recv (s : State) (v : Memory) : (s.setMem v).recv = s.recv := rfl
@[simp] theorem State.setMem_relay (s : State) (v : Memory) : (s.setMem v).relay = s.relay := rfl
@[simp] theorem State.setMem_objs (s : State) (v : Memory) : (s.setMem v).objs = s.objs := rfl
@[simp] theorem State.setMem_pals (s : State) (v : Memory) : (s.setMem v).pals = s.pals := rfl
@[simp] theorem State.setMem_pages (s : State) (v : Memory) : (s.setMem v).pages = s.pages := rfl
@[simp] theorem State.setMem_exch (s : State) (v : Memory) : (s.setMem v).exch = s.exch := rfl
@[simp] theorem State.setMem_stack (s : State) (v : Memory) : (s.setMem v).stack = s.stack := rfl
@[simp] theorem State.setMem_nav (s : State) (v : Memory) : (s.setMem v).nav = s.nav := rfl
@[simp] theorem State.setMem_seqr (s : State) (v : Memory) : (s.setMem v).seqr = s.seqr := rfl
@[simp] theorem State.setMem_cues (s : State) (v : Memory) : (s.setMem v).cues = s.cues := rfl
@[simp] theorem State.setMem_comp (s : State) (v : Memory) : (s.setMem v).comp = s.comp := rfl
@[simp] theorem State.setMem_disp (s : State) (v : Memory) : (s.setMem v).disp = s.disp := rfl
@[simp] theorem State.setMem_link (s : State) (v : Memory) : (s.setMem v).link = s.link := rfl
@[simp] theorem State.setMem_resetLow (s : State) (v : Memory) : (s.setMem v).resetLow = s.resetLow := rfl
@[simp] theorem State.setMem_due (s : State) (v : Memory) : (s.setMem v).due = s.due := rfl
@[simp] theorem State.setMem_fresh (s : State) (v : Memory) : (s.setMem v).fresh = s.fresh := rfl
@[simp] theorem State.setMem_pending (s : State) (v : Memory) : (s.setMem v).pending = s.pending := rfl

@[simp] theorem State.setStream_mem (s : State) (v : StreamPort) : (s.setStream v).mem = s.mem := rfl
@[simp] theorem State.setStream_stream (s : State) (v : StreamPort) : (s.setStream v).stream = v := rfl
@[simp] theorem State.setStream_recv (s : State) (v : StreamPort) : (s.setStream v).recv = s.recv := rfl
@[simp] theorem State.setStream_relay (s : State) (v : StreamPort) : (s.setStream v).relay = s.relay := rfl
@[simp] theorem State.setStream_objs (s : State) (v : StreamPort) : (s.setStream v).objs = s.objs := rfl
@[simp] theorem State.setStream_pals (s : State) (v : StreamPort) : (s.setStream v).pals = s.pals := rfl
@[simp] theorem State.setStream_pages (s : State) (v : StreamPort) : (s.setStream v).pages = s.pages := rfl
@[simp] theorem State.setStream_exch (s : State) (v : StreamPort) : (s.setStream v).exch = s.exch := rfl
@[simp] theorem State.setStream_stack (s : State) (v : StreamPort) : (s.setStream v).stack = s.stack := rfl
@[simp] theorem State.setStream_nav (s : State) (v : StreamPort) : (s.setStream v).nav = s.nav := rfl
@[simp] theorem State.setStream_seqr (s : State) (v : StreamPort) : (s.setStream v).seqr = s.seqr := rfl
@[simp] theorem State.setStream_cues (s : State) (v : StreamPort) : (s.setStream v).cues = s.cues := rfl
@[simp] theorem State.setStream_comp (s : State) (v : StreamPort) : (s.setStream v).comp = s.comp := rfl
@[simp] theorem State.setStream_disp (s : State) (v : StreamPort) : (s.setStream v).disp = s.disp := rfl
@[simp] theorem State.setStream_link (s : State) (v : StreamPort) : (s.setStream v).link = s.link := rfl
@[simp] theorem State.setStream_resetLow (s : State) (v : StreamPort) : (s.setStream v).resetLow = s.resetLow := rfl
@[simp] theorem State.setStream_due (s : State) (v : StreamPort) : (s.setStream v).due = s.due := rfl
@[simp] theorem State.setStream_fresh (s : State) (v : StreamPort) : (s.setStream v).fresh = s.fresh := rfl
@[simp] theorem State.setStream_pending (s : State) (v : StreamPort) : (s.setStream v).pending = s.pending := rfl

@[simp] theorem State.setRecv_mem (s : State) (v : Receiver) : (s.setRecv v).mem = s.mem := rfl
@[simp] theorem State.setRecv_stream (s : State) (v : Receiver) : (s.setRecv v).stream = s.stream := rfl
@[simp] theorem State.setRecv_recv (s : State) (v : Receiver) : (s.setRecv v).recv = v := rfl
@[simp] theorem State.setRecv_relay (s : State) (v : Receiver) : (s.setRecv v).relay = s.relay := rfl
@[simp] theorem State.setRecv_objs (s : State) (v : Receiver) : (s.setRecv v).objs = s.objs := rfl
@[simp] theorem State.setRecv_pals (s : State) (v : Receiver) : (s.setRecv v).pals = s.pals := rfl
@[simp] theorem State.setRecv_pages (s : State) (v : Receiver) : (s.setRecv v).pages = s.pages := rfl
@[simp] theorem State.setRecv_exch (s : State) (v : Receiver) : (s.setRecv v).exch = s.exch := rfl
@[simp] theorem State.setRecv_stack (s : State) (v : Receiver) : (s.setRecv v).stack = s.stack := rfl
@[simp] theorem State.setRecv_nav (s : State) (v : Receiver) : (s.setRecv v).nav = s.nav := rfl
@[simp] theorem State.setRecv_seqr (s : State) (v : Receiver) : (s.setRecv v).seqr = s.seqr := rfl
@[simp] theorem State.setRecv_cues (s : State) (v : Receiver) : (s.setRecv v).cues = s.cues := rfl
@[simp] theorem State.setRecv_comp (s : State) (v : Receiver) : (s.setRecv v).comp = s.comp := rfl
@[simp] theorem State.setRecv_disp (s : State) (v : Receiver) : (s.setRecv v).disp = s.disp := rfl
@[simp] theorem State.setRecv_link (s : State) (v : Receiver) : (s.setRecv v).link = s.link := rfl
@[simp] theorem State.setRecv_resetLow (s : State) (v : Receiver) : (s.setRecv v).resetLow = s.resetLow := rfl
@[simp] theorem State.setRecv_due (s : State) (v : Receiver) : (s.setRecv v).due = s.due := rfl
@[simp] theorem State.setRecv_fresh (s : State) (v : Receiver) : (s.setRecv v).fresh = s.fresh := rfl
@[simp] theorem State.setRecv_pending (s : State) (v : Receiver) : (s.setRecv v).pending = s.pending := rfl

@[simp] theorem State.setRelay_mem (s : State) (v : Relay) : (s.setRelay v).mem = s.mem := rfl
@[simp] theorem State.setRelay_stream (s : State) (v : Relay) : (s.setRelay v).stream = s.stream := rfl
@[simp] theorem State.setRelay_recv (s : State) (v : Relay) : (s.setRelay v).recv = s.recv := rfl
@[simp] theorem State.setRelay_relay (s : State) (v : Relay) : (s.setRelay v).relay = v := rfl
@[simp] theorem State.setRelay_objs (s : State) (v : Relay) : (s.setRelay v).objs = s.objs := rfl
@[simp] theorem State.setRelay_pals (s : State) (v : Relay) : (s.setRelay v).pals = s.pals := rfl
@[simp] theorem State.setRelay_pages (s : State) (v : Relay) : (s.setRelay v).pages = s.pages := rfl
@[simp] theorem State.setRelay_exch (s : State) (v : Relay) : (s.setRelay v).exch = s.exch := rfl
@[simp] theorem State.setRelay_stack (s : State) (v : Relay) : (s.setRelay v).stack = s.stack := rfl
@[simp] theorem State.setRelay_nav (s : State) (v : Relay) : (s.setRelay v).nav = s.nav := rfl
@[simp] theorem State.setRelay_seqr (s : State) (v : Relay) : (s.setRelay v).seqr = s.seqr := rfl
@[simp] theorem State.setRelay_cues (s : State) (v : Relay) : (s.setRelay v).cues = s.cues := rfl
@[simp] theorem State.setRelay_comp (s : State) (v : Relay) : (s.setRelay v).comp = s.comp := rfl
@[simp] theorem State.setRelay_disp (s : State) (v : Relay) : (s.setRelay v).disp = s.disp := rfl
@[simp] theorem State.setRelay_link (s : State) (v : Relay) : (s.setRelay v).link = s.link := rfl
@[simp] theorem State.setRelay_resetLow (s : State) (v : Relay) : (s.setRelay v).resetLow = s.resetLow := rfl
@[simp] theorem State.setRelay_due (s : State) (v : Relay) : (s.setRelay v).due = s.due := rfl
@[simp] theorem State.setRelay_fresh (s : State) (v : Relay) : (s.setRelay v).fresh = s.fresh := rfl
@[simp] theorem State.setRelay_pending (s : State) (v : Relay) : (s.setRelay v).pending = s.pending := rfl

@[simp] theorem State.setObjs_mem (s : State) (v : ObjectStore) : (s.setObjs v).mem = s.mem := rfl
@[simp] theorem State.setObjs_stream (s : State) (v : ObjectStore) : (s.setObjs v).stream = s.stream := rfl
@[simp] theorem State.setObjs_recv (s : State) (v : ObjectStore) : (s.setObjs v).recv = s.recv := rfl
@[simp] theorem State.setObjs_relay (s : State) (v : ObjectStore) : (s.setObjs v).relay = s.relay := rfl
@[simp] theorem State.setObjs_objs (s : State) (v : ObjectStore) : (s.setObjs v).objs = v := rfl
@[simp] theorem State.setObjs_pals (s : State) (v : ObjectStore) : (s.setObjs v).pals = s.pals := rfl
@[simp] theorem State.setObjs_pages (s : State) (v : ObjectStore) : (s.setObjs v).pages = s.pages := rfl
@[simp] theorem State.setObjs_exch (s : State) (v : ObjectStore) : (s.setObjs v).exch = s.exch := rfl
@[simp] theorem State.setObjs_stack (s : State) (v : ObjectStore) : (s.setObjs v).stack = s.stack := rfl
@[simp] theorem State.setObjs_nav (s : State) (v : ObjectStore) : (s.setObjs v).nav = s.nav := rfl
@[simp] theorem State.setObjs_seqr (s : State) (v : ObjectStore) : (s.setObjs v).seqr = s.seqr := rfl
@[simp] theorem State.setObjs_cues (s : State) (v : ObjectStore) : (s.setObjs v).cues = s.cues := rfl
@[simp] theorem State.setObjs_comp (s : State) (v : ObjectStore) : (s.setObjs v).comp = s.comp := rfl
@[simp] theorem State.setObjs_disp (s : State) (v : ObjectStore) : (s.setObjs v).disp = s.disp := rfl
@[simp] theorem State.setObjs_link (s : State) (v : ObjectStore) : (s.setObjs v).link = s.link := rfl
@[simp] theorem State.setObjs_resetLow (s : State) (v : ObjectStore) : (s.setObjs v).resetLow = s.resetLow := rfl
@[simp] theorem State.setObjs_due (s : State) (v : ObjectStore) : (s.setObjs v).due = s.due := rfl
@[simp] theorem State.setObjs_fresh (s : State) (v : ObjectStore) : (s.setObjs v).fresh = s.fresh := rfl
@[simp] theorem State.setObjs_pending (s : State) (v : ObjectStore) : (s.setObjs v).pending = s.pending := rfl

@[simp] theorem State.setPals_mem (s : State) (v : Vector Palette 16) : (s.setPals v).mem = s.mem := rfl
@[simp] theorem State.setPals_stream (s : State) (v : Vector Palette 16) : (s.setPals v).stream = s.stream := rfl
@[simp] theorem State.setPals_recv (s : State) (v : Vector Palette 16) : (s.setPals v).recv = s.recv := rfl
@[simp] theorem State.setPals_relay (s : State) (v : Vector Palette 16) : (s.setPals v).relay = s.relay := rfl
@[simp] theorem State.setPals_objs (s : State) (v : Vector Palette 16) : (s.setPals v).objs = s.objs := rfl
@[simp] theorem State.setPals_pals (s : State) (v : Vector Palette 16) : (s.setPals v).pals = v := rfl
@[simp] theorem State.setPals_pages (s : State) (v : Vector Palette 16) : (s.setPals v).pages = s.pages := rfl
@[simp] theorem State.setPals_exch (s : State) (v : Vector Palette 16) : (s.setPals v).exch = s.exch := rfl
@[simp] theorem State.setPals_stack (s : State) (v : Vector Palette 16) : (s.setPals v).stack = s.stack := rfl
@[simp] theorem State.setPals_nav (s : State) (v : Vector Palette 16) : (s.setPals v).nav = s.nav := rfl
@[simp] theorem State.setPals_seqr (s : State) (v : Vector Palette 16) : (s.setPals v).seqr = s.seqr := rfl
@[simp] theorem State.setPals_cues (s : State) (v : Vector Palette 16) : (s.setPals v).cues = s.cues := rfl
@[simp] theorem State.setPals_comp (s : State) (v : Vector Palette 16) : (s.setPals v).comp = s.comp := rfl
@[simp] theorem State.setPals_disp (s : State) (v : Vector Palette 16) : (s.setPals v).disp = s.disp := rfl
@[simp] theorem State.setPals_link (s : State) (v : Vector Palette 16) : (s.setPals v).link = s.link := rfl
@[simp] theorem State.setPals_resetLow (s : State) (v : Vector Palette 16) : (s.setPals v).resetLow = s.resetLow := rfl
@[simp] theorem State.setPals_due (s : State) (v : Vector Palette 16) : (s.setPals v).due = s.due := rfl
@[simp] theorem State.setPals_fresh (s : State) (v : Vector Palette 16) : (s.setPals v).fresh = s.fresh := rfl
@[simp] theorem State.setPals_pending (s : State) (v : Vector Palette 16) : (s.setPals v).pending = s.pending := rfl

@[simp] theorem State.setPages_mem (s : State) (v : Vector PageEntry 64) : (s.setPages v).mem = s.mem := rfl
@[simp] theorem State.setPages_stream (s : State) (v : Vector PageEntry 64) : (s.setPages v).stream = s.stream := rfl
@[simp] theorem State.setPages_recv (s : State) (v : Vector PageEntry 64) : (s.setPages v).recv = s.recv := rfl
@[simp] theorem State.setPages_relay (s : State) (v : Vector PageEntry 64) : (s.setPages v).relay = s.relay := rfl
@[simp] theorem State.setPages_objs (s : State) (v : Vector PageEntry 64) : (s.setPages v).objs = s.objs := rfl
@[simp] theorem State.setPages_pals (s : State) (v : Vector PageEntry 64) : (s.setPages v).pals = s.pals := rfl
@[simp] theorem State.setPages_pages (s : State) (v : Vector PageEntry 64) : (s.setPages v).pages = v := rfl
@[simp] theorem State.setPages_exch (s : State) (v : Vector PageEntry 64) : (s.setPages v).exch = s.exch := rfl
@[simp] theorem State.setPages_stack (s : State) (v : Vector PageEntry 64) : (s.setPages v).stack = s.stack := rfl
@[simp] theorem State.setPages_nav (s : State) (v : Vector PageEntry 64) : (s.setPages v).nav = s.nav := rfl
@[simp] theorem State.setPages_seqr (s : State) (v : Vector PageEntry 64) : (s.setPages v).seqr = s.seqr := rfl
@[simp] theorem State.setPages_cues (s : State) (v : Vector PageEntry 64) : (s.setPages v).cues = s.cues := rfl
@[simp] theorem State.setPages_comp (s : State) (v : Vector PageEntry 64) : (s.setPages v).comp = s.comp := rfl
@[simp] theorem State.setPages_disp (s : State) (v : Vector PageEntry 64) : (s.setPages v).disp = s.disp := rfl
@[simp] theorem State.setPages_link (s : State) (v : Vector PageEntry 64) : (s.setPages v).link = s.link := rfl
@[simp] theorem State.setPages_resetLow (s : State) (v : Vector PageEntry 64) : (s.setPages v).resetLow = s.resetLow := rfl
@[simp] theorem State.setPages_due (s : State) (v : Vector PageEntry 64) : (s.setPages v).due = s.due := rfl
@[simp] theorem State.setPages_fresh (s : State) (v : Vector PageEntry 64) : (s.setPages v).fresh = s.fresh := rfl
@[simp] theorem State.setPages_pending (s : State) (v : Vector PageEntry 64) : (s.setPages v).pending = s.pending := rfl

@[simp] theorem State.setExch_mem (s : State) (v : Exchange) : (s.setExch v).mem = s.mem := rfl
@[simp] theorem State.setExch_stream (s : State) (v : Exchange) : (s.setExch v).stream = s.stream := rfl
@[simp] theorem State.setExch_recv (s : State) (v : Exchange) : (s.setExch v).recv = s.recv := rfl
@[simp] theorem State.setExch_relay (s : State) (v : Exchange) : (s.setExch v).relay = s.relay := rfl
@[simp] theorem State.setExch_objs (s : State) (v : Exchange) : (s.setExch v).objs = s.objs := rfl
@[simp] theorem State.setExch_pals (s : State) (v : Exchange) : (s.setExch v).pals = s.pals := rfl
@[simp] theorem State.setExch_pages (s : State) (v : Exchange) : (s.setExch v).pages = s.pages := rfl
@[simp] theorem State.setExch_exch (s : State) (v : Exchange) : (s.setExch v).exch = v := rfl
@[simp] theorem State.setExch_stack (s : State) (v : Exchange) : (s.setExch v).stack = s.stack := rfl
@[simp] theorem State.setExch_nav (s : State) (v : Exchange) : (s.setExch v).nav = s.nav := rfl
@[simp] theorem State.setExch_seqr (s : State) (v : Exchange) : (s.setExch v).seqr = s.seqr := rfl
@[simp] theorem State.setExch_cues (s : State) (v : Exchange) : (s.setExch v).cues = s.cues := rfl
@[simp] theorem State.setExch_comp (s : State) (v : Exchange) : (s.setExch v).comp = s.comp := rfl
@[simp] theorem State.setExch_disp (s : State) (v : Exchange) : (s.setExch v).disp = s.disp := rfl
@[simp] theorem State.setExch_link (s : State) (v : Exchange) : (s.setExch v).link = s.link := rfl
@[simp] theorem State.setExch_resetLow (s : State) (v : Exchange) : (s.setExch v).resetLow = s.resetLow := rfl
@[simp] theorem State.setExch_due (s : State) (v : Exchange) : (s.setExch v).due = s.due := rfl
@[simp] theorem State.setExch_fresh (s : State) (v : Exchange) : (s.setExch v).fresh = s.fresh := rfl
@[simp] theorem State.setExch_pending (s : State) (v : Exchange) : (s.setExch v).pending = s.pending := rfl

@[simp] theorem State.setStack_mem (s : State) (v : PageStack) : (s.setStack v).mem = s.mem := rfl
@[simp] theorem State.setStack_stream (s : State) (v : PageStack) : (s.setStack v).stream = s.stream := rfl
@[simp] theorem State.setStack_recv (s : State) (v : PageStack) : (s.setStack v).recv = s.recv := rfl
@[simp] theorem State.setStack_relay (s : State) (v : PageStack) : (s.setStack v).relay = s.relay := rfl
@[simp] theorem State.setStack_objs (s : State) (v : PageStack) : (s.setStack v).objs = s.objs := rfl
@[simp] theorem State.setStack_pals (s : State) (v : PageStack) : (s.setStack v).pals = s.pals := rfl
@[simp] theorem State.setStack_pages (s : State) (v : PageStack) : (s.setStack v).pages = s.pages := rfl
@[simp] theorem State.setStack_exch (s : State) (v : PageStack) : (s.setStack v).exch = s.exch := rfl
@[simp] theorem State.setStack_stack (s : State) (v : PageStack) : (s.setStack v).stack = v := rfl
@[simp] theorem State.setStack_nav (s : State) (v : PageStack) : (s.setStack v).nav = s.nav := rfl
@[simp] theorem State.setStack_seqr (s : State) (v : PageStack) : (s.setStack v).seqr = s.seqr := rfl
@[simp] theorem State.setStack_cues (s : State) (v : PageStack) : (s.setStack v).cues = s.cues := rfl
@[simp] theorem State.setStack_comp (s : State) (v : PageStack) : (s.setStack v).comp = s.comp := rfl
@[simp] theorem State.setStack_disp (s : State) (v : PageStack) : (s.setStack v).disp = s.disp := rfl
@[simp] theorem State.setStack_link (s : State) (v : PageStack) : (s.setStack v).link = s.link := rfl
@[simp] theorem State.setStack_resetLow (s : State) (v : PageStack) : (s.setStack v).resetLow = s.resetLow := rfl
@[simp] theorem State.setStack_due (s : State) (v : PageStack) : (s.setStack v).due = s.due := rfl
@[simp] theorem State.setStack_fresh (s : State) (v : PageStack) : (s.setStack v).fresh = s.fresh := rfl
@[simp] theorem State.setStack_pending (s : State) (v : PageStack) : (s.setStack v).pending = s.pending := rfl

@[simp] theorem State.setNav_mem (s : State) (v : Navigation) : (s.setNav v).mem = s.mem := rfl
@[simp] theorem State.setNav_stream (s : State) (v : Navigation) : (s.setNav v).stream = s.stream := rfl
@[simp] theorem State.setNav_recv (s : State) (v : Navigation) : (s.setNav v).recv = s.recv := rfl
@[simp] theorem State.setNav_relay (s : State) (v : Navigation) : (s.setNav v).relay = s.relay := rfl
@[simp] theorem State.setNav_objs (s : State) (v : Navigation) : (s.setNav v).objs = s.objs := rfl
@[simp] theorem State.setNav_pals (s : State) (v : Navigation) : (s.setNav v).pals = s.pals := rfl
@[simp] theorem State.setNav_pages (s : State) (v : Navigation) : (s.setNav v).pages = s.pages := rfl
@[simp] theorem State.setNav_exch (s : State) (v : Navigation) : (s.setNav v).exch = s.exch := rfl
@[simp] theorem State.setNav_stack (s : State) (v : Navigation) : (s.setNav v).stack = s.stack := rfl
@[simp] theorem State.setNav_nav (s : State) (v : Navigation) : (s.setNav v).nav = v := rfl
@[simp] theorem State.setNav_seqr (s : State) (v : Navigation) : (s.setNav v).seqr = s.seqr := rfl
@[simp] theorem State.setNav_cues (s : State) (v : Navigation) : (s.setNav v).cues = s.cues := rfl
@[simp] theorem State.setNav_comp (s : State) (v : Navigation) : (s.setNav v).comp = s.comp := rfl
@[simp] theorem State.setNav_disp (s : State) (v : Navigation) : (s.setNav v).disp = s.disp := rfl
@[simp] theorem State.setNav_link (s : State) (v : Navigation) : (s.setNav v).link = s.link := rfl
@[simp] theorem State.setNav_resetLow (s : State) (v : Navigation) : (s.setNav v).resetLow = s.resetLow := rfl
@[simp] theorem State.setNav_due (s : State) (v : Navigation) : (s.setNav v).due = s.due := rfl
@[simp] theorem State.setNav_fresh (s : State) (v : Navigation) : (s.setNav v).fresh = s.fresh := rfl
@[simp] theorem State.setNav_pending (s : State) (v : Navigation) : (s.setNav v).pending = s.pending := rfl

@[simp] theorem State.setSeqr_mem (s : State) (v : Sequencer) : (s.setSeqr v).mem = s.mem := rfl
@[simp] theorem State.setSeqr_stream (s : State) (v : Sequencer) : (s.setSeqr v).stream = s.stream := rfl
@[simp] theorem State.setSeqr_recv (s : State) (v : Sequencer) : (s.setSeqr v).recv = s.recv := rfl
@[simp] theorem State.setSeqr_relay (s : State) (v : Sequencer) : (s.setSeqr v).relay = s.relay := rfl
@[simp] theorem State.setSeqr_objs (s : State) (v : Sequencer) : (s.setSeqr v).objs = s.objs := rfl
@[simp] theorem State.setSeqr_pals (s : State) (v : Sequencer) : (s.setSeqr v).pals = s.pals := rfl
@[simp] theorem State.setSeqr_pages (s : State) (v : Sequencer) : (s.setSeqr v).pages = s.pages := rfl
@[simp] theorem State.setSeqr_exch (s : State) (v : Sequencer) : (s.setSeqr v).exch = s.exch := rfl
@[simp] theorem State.setSeqr_stack (s : State) (v : Sequencer) : (s.setSeqr v).stack = s.stack := rfl
@[simp] theorem State.setSeqr_nav (s : State) (v : Sequencer) : (s.setSeqr v).nav = s.nav := rfl
@[simp] theorem State.setSeqr_seqr (s : State) (v : Sequencer) : (s.setSeqr v).seqr = v := rfl
@[simp] theorem State.setSeqr_cues (s : State) (v : Sequencer) : (s.setSeqr v).cues = s.cues := rfl
@[simp] theorem State.setSeqr_comp (s : State) (v : Sequencer) : (s.setSeqr v).comp = s.comp := rfl
@[simp] theorem State.setSeqr_disp (s : State) (v : Sequencer) : (s.setSeqr v).disp = s.disp := rfl
@[simp] theorem State.setSeqr_link (s : State) (v : Sequencer) : (s.setSeqr v).link = s.link := rfl
@[simp] theorem State.setSeqr_resetLow (s : State) (v : Sequencer) : (s.setSeqr v).resetLow = s.resetLow := rfl
@[simp] theorem State.setSeqr_due (s : State) (v : Sequencer) : (s.setSeqr v).due = s.due := rfl
@[simp] theorem State.setSeqr_fresh (s : State) (v : Sequencer) : (s.setSeqr v).fresh = s.fresh := rfl
@[simp] theorem State.setSeqr_pending (s : State) (v : Sequencer) : (s.setSeqr v).pending = s.pending := rfl

@[simp] theorem State.setCues_mem (s : State) (v : CueUnit) : (s.setCues v).mem = s.mem := rfl
@[simp] theorem State.setCues_stream (s : State) (v : CueUnit) : (s.setCues v).stream = s.stream := rfl
@[simp] theorem State.setCues_recv (s : State) (v : CueUnit) : (s.setCues v).recv = s.recv := rfl
@[simp] theorem State.setCues_relay (s : State) (v : CueUnit) : (s.setCues v).relay = s.relay := rfl
@[simp] theorem State.setCues_objs (s : State) (v : CueUnit) : (s.setCues v).objs = s.objs := rfl
@[simp] theorem State.setCues_pals (s : State) (v : CueUnit) : (s.setCues v).pals = s.pals := rfl
@[simp] theorem State.setCues_pages (s : State) (v : CueUnit) : (s.setCues v).pages = s.pages := rfl
@[simp] theorem State.setCues_exch (s : State) (v : CueUnit) : (s.setCues v).exch = s.exch := rfl
@[simp] theorem State.setCues_stack (s : State) (v : CueUnit) : (s.setCues v).stack = s.stack := rfl
@[simp] theorem State.setCues_nav (s : State) (v : CueUnit) : (s.setCues v).nav = s.nav := rfl
@[simp] theorem State.setCues_seqr (s : State) (v : CueUnit) : (s.setCues v).seqr = s.seqr := rfl
@[simp] theorem State.setCues_cues (s : State) (v : CueUnit) : (s.setCues v).cues = v := rfl
@[simp] theorem State.setCues_comp (s : State) (v : CueUnit) : (s.setCues v).comp = s.comp := rfl
@[simp] theorem State.setCues_disp (s : State) (v : CueUnit) : (s.setCues v).disp = s.disp := rfl
@[simp] theorem State.setCues_link (s : State) (v : CueUnit) : (s.setCues v).link = s.link := rfl
@[simp] theorem State.setCues_resetLow (s : State) (v : CueUnit) : (s.setCues v).resetLow = s.resetLow := rfl
@[simp] theorem State.setCues_due (s : State) (v : CueUnit) : (s.setCues v).due = s.due := rfl
@[simp] theorem State.setCues_fresh (s : State) (v : CueUnit) : (s.setCues v).fresh = s.fresh := rfl
@[simp] theorem State.setCues_pending (s : State) (v : CueUnit) : (s.setCues v).pending = s.pending := rfl

@[simp] theorem State.setComp_mem (s : State) (v : Composer) : (s.setComp v).mem = s.mem := rfl
@[simp] theorem State.setComp_stream (s : State) (v : Composer) : (s.setComp v).stream = s.stream := rfl
@[simp] theorem State.setComp_recv (s : State) (v : Composer) : (s.setComp v).recv = s.recv := rfl
@[simp] theorem State.setComp_relay (s : State) (v : Composer) : (s.setComp v).relay = s.relay := rfl
@[simp] theorem State.setComp_objs (s : State) (v : Composer) : (s.setComp v).objs = s.objs := rfl
@[simp] theorem State.setComp_pals (s : State) (v : Composer) : (s.setComp v).pals = s.pals := rfl
@[simp] theorem State.setComp_pages (s : State) (v : Composer) : (s.setComp v).pages = s.pages := rfl
@[simp] theorem State.setComp_exch (s : State) (v : Composer) : (s.setComp v).exch = s.exch := rfl
@[simp] theorem State.setComp_stack (s : State) (v : Composer) : (s.setComp v).stack = s.stack := rfl
@[simp] theorem State.setComp_nav (s : State) (v : Composer) : (s.setComp v).nav = s.nav := rfl
@[simp] theorem State.setComp_seqr (s : State) (v : Composer) : (s.setComp v).seqr = s.seqr := rfl
@[simp] theorem State.setComp_cues (s : State) (v : Composer) : (s.setComp v).cues = s.cues := rfl
@[simp] theorem State.setComp_comp (s : State) (v : Composer) : (s.setComp v).comp = v := rfl
@[simp] theorem State.setComp_disp (s : State) (v : Composer) : (s.setComp v).disp = s.disp := rfl
@[simp] theorem State.setComp_link (s : State) (v : Composer) : (s.setComp v).link = s.link := rfl
@[simp] theorem State.setComp_resetLow (s : State) (v : Composer) : (s.setComp v).resetLow = s.resetLow := rfl
@[simp] theorem State.setComp_due (s : State) (v : Composer) : (s.setComp v).due = s.due := rfl
@[simp] theorem State.setComp_fresh (s : State) (v : Composer) : (s.setComp v).fresh = s.fresh := rfl
@[simp] theorem State.setComp_pending (s : State) (v : Composer) : (s.setComp v).pending = s.pending := rfl

@[simp] theorem State.setDisp_mem (s : State) (v : Display) : (s.setDisp v).mem = s.mem := rfl
@[simp] theorem State.setDisp_stream (s : State) (v : Display) : (s.setDisp v).stream = s.stream := rfl
@[simp] theorem State.setDisp_recv (s : State) (v : Display) : (s.setDisp v).recv = s.recv := rfl
@[simp] theorem State.setDisp_relay (s : State) (v : Display) : (s.setDisp v).relay = s.relay := rfl
@[simp] theorem State.setDisp_objs (s : State) (v : Display) : (s.setDisp v).objs = s.objs := rfl
@[simp] theorem State.setDisp_pals (s : State) (v : Display) : (s.setDisp v).pals = s.pals := rfl
@[simp] theorem State.setDisp_pages (s : State) (v : Display) : (s.setDisp v).pages = s.pages := rfl
@[simp] theorem State.setDisp_exch (s : State) (v : Display) : (s.setDisp v).exch = s.exch := rfl
@[simp] theorem State.setDisp_stack (s : State) (v : Display) : (s.setDisp v).stack = s.stack := rfl
@[simp] theorem State.setDisp_nav (s : State) (v : Display) : (s.setDisp v).nav = s.nav := rfl
@[simp] theorem State.setDisp_seqr (s : State) (v : Display) : (s.setDisp v).seqr = s.seqr := rfl
@[simp] theorem State.setDisp_cues (s : State) (v : Display) : (s.setDisp v).cues = s.cues := rfl
@[simp] theorem State.setDisp_comp (s : State) (v : Display) : (s.setDisp v).comp = s.comp := rfl
@[simp] theorem State.setDisp_disp (s : State) (v : Display) : (s.setDisp v).disp = v := rfl
@[simp] theorem State.setDisp_link (s : State) (v : Display) : (s.setDisp v).link = s.link := rfl
@[simp] theorem State.setDisp_resetLow (s : State) (v : Display) : (s.setDisp v).resetLow = s.resetLow := rfl
@[simp] theorem State.setDisp_due (s : State) (v : Display) : (s.setDisp v).due = s.due := rfl
@[simp] theorem State.setDisp_fresh (s : State) (v : Display) : (s.setDisp v).fresh = s.fresh := rfl
@[simp] theorem State.setDisp_pending (s : State) (v : Display) : (s.setDisp v).pending = s.pending := rfl

@[simp] theorem State.setLink_mem (s : State) (v : Link) : (s.setLink v).mem = s.mem := rfl
@[simp] theorem State.setLink_stream (s : State) (v : Link) : (s.setLink v).stream = s.stream := rfl
@[simp] theorem State.setLink_recv (s : State) (v : Link) : (s.setLink v).recv = s.recv := rfl
@[simp] theorem State.setLink_relay (s : State) (v : Link) : (s.setLink v).relay = s.relay := rfl
@[simp] theorem State.setLink_objs (s : State) (v : Link) : (s.setLink v).objs = s.objs := rfl
@[simp] theorem State.setLink_pals (s : State) (v : Link) : (s.setLink v).pals = s.pals := rfl
@[simp] theorem State.setLink_pages (s : State) (v : Link) : (s.setLink v).pages = s.pages := rfl
@[simp] theorem State.setLink_exch (s : State) (v : Link) : (s.setLink v).exch = s.exch := rfl
@[simp] theorem State.setLink_stack (s : State) (v : Link) : (s.setLink v).stack = s.stack := rfl
@[simp] theorem State.setLink_nav (s : State) (v : Link) : (s.setLink v).nav = s.nav := rfl
@[simp] theorem State.setLink_seqr (s : State) (v : Link) : (s.setLink v).seqr = s.seqr := rfl
@[simp] theorem State.setLink_cues (s : State) (v : Link) : (s.setLink v).cues = s.cues := rfl
@[simp] theorem State.setLink_comp (s : State) (v : Link) : (s.setLink v).comp = s.comp := rfl
@[simp] theorem State.setLink_disp (s : State) (v : Link) : (s.setLink v).disp = s.disp := rfl
@[simp] theorem State.setLink_link (s : State) (v : Link) : (s.setLink v).link = v := rfl
@[simp] theorem State.setLink_resetLow (s : State) (v : Link) : (s.setLink v).resetLow = s.resetLow := rfl
@[simp] theorem State.setLink_due (s : State) (v : Link) : (s.setLink v).due = s.due := rfl
@[simp] theorem State.setLink_fresh (s : State) (v : Link) : (s.setLink v).fresh = s.fresh := rfl
@[simp] theorem State.setLink_pending (s : State) (v : Link) : (s.setLink v).pending = s.pending := rfl

@[simp] theorem State.setResetLow_mem (s : State) (v : Bool) : (s.setResetLow v).mem = s.mem := rfl
@[simp] theorem State.setResetLow_stream (s : State) (v : Bool) : (s.setResetLow v).stream = s.stream := rfl
@[simp] theorem State.setResetLow_recv (s : State) (v : Bool) : (s.setResetLow v).recv = s.recv := rfl
@[simp] theorem State.setResetLow_relay (s : State) (v : Bool) : (s.setResetLow v).relay = s.relay := rfl
@[simp] theorem State.setResetLow_objs (s : State) (v : Bool) : (s.setResetLow v).objs = s.objs := rfl
@[simp] theorem State.setResetLow_pals (s : State) (v : Bool) : (s.setResetLow v).pals = s.pals := rfl
@[simp] theorem State.setResetLow_pages (s : State) (v : Bool) : (s.setResetLow v).pages = s.pages := rfl
@[simp] theorem State.setResetLow_exch (s : State) (v : Bool) : (s.setResetLow v).exch = s.exch := rfl
@[simp] theorem State.setResetLow_stack (s : State) (v : Bool) : (s.setResetLow v).stack = s.stack := rfl
@[simp] theorem State.setResetLow_nav (s : State) (v : Bool) : (s.setResetLow v).nav = s.nav := rfl
@[simp] theorem State.setResetLow_seqr (s : State) (v : Bool) : (s.setResetLow v).seqr = s.seqr := rfl
@[simp] theorem State.setResetLow_cues (s : State) (v : Bool) : (s.setResetLow v).cues = s.cues := rfl
@[simp] theorem State.setResetLow_comp (s : State) (v : Bool) : (s.setResetLow v).comp = s.comp := rfl
@[simp] theorem State.setResetLow_disp (s : State) (v : Bool) : (s.setResetLow v).disp = s.disp := rfl
@[simp] theorem State.setResetLow_link (s : State) (v : Bool) : (s.setResetLow v).link = s.link := rfl
@[simp] theorem State.setResetLow_resetLow (s : State) (v : Bool) : (s.setResetLow v).resetLow = v := rfl
@[simp] theorem State.setResetLow_due (s : State) (v : Bool) : (s.setResetLow v).due = s.due := rfl
@[simp] theorem State.setResetLow_fresh (s : State) (v : Bool) : (s.setResetLow v).fresh = s.fresh := rfl
@[simp] theorem State.setResetLow_pending (s : State) (v : Bool) : (s.setResetLow v).pending = s.pending := rfl

@[simp] theorem State.setDue_mem (s : State) (v : List FieldBlock) : (s.setDue v).mem = s.mem := rfl
@[simp] theorem State.setDue_stream (s : State) (v : List FieldBlock) : (s.setDue v).stream = s.stream := rfl
@[simp] theorem State.setDue_recv (s : State) (v : List FieldBlock) : (s.setDue v).recv = s.recv := rfl
@[simp] theorem State.setDue_relay (s : State) (v : List FieldBlock) : (s.setDue v).relay = s.relay := rfl
@[simp] theorem State.setDue_objs (s : State) (v : List FieldBlock) : (s.setDue v).objs = s.objs := rfl
@[simp] theorem State.setDue_pals (s : State) (v : List FieldBlock) : (s.setDue v).pals = s.pals := rfl
@[simp] theorem State.setDue_pages (s : State) (v : List FieldBlock) : (s.setDue v).pages = s.pages := rfl
@[simp] theorem State.setDue_exch (s : State) (v : List FieldBlock) : (s.setDue v).exch = s.exch := rfl
@[simp] theorem State.setDue_stack (s : State) (v : List FieldBlock) : (s.setDue v).stack = s.stack := rfl
@[simp] theorem State.setDue_nav (s : State) (v : List FieldBlock) : (s.setDue v).nav = s.nav := rfl
@[simp] theorem State.setDue_seqr (s : State) (v : List FieldBlock) : (s.setDue v).seqr = s.seqr := rfl
@[simp] theorem State.setDue_cues (s : State) (v : List FieldBlock) : (s.setDue v).cues = s.cues := rfl
@[simp] theorem State.setDue_comp (s : State) (v : List FieldBlock) : (s.setDue v).comp = s.comp := rfl
@[simp] theorem State.setDue_disp (s : State) (v : List FieldBlock) : (s.setDue v).disp = s.disp := rfl
@[simp] theorem State.setDue_link (s : State) (v : List FieldBlock) : (s.setDue v).link = s.link := rfl
@[simp] theorem State.setDue_resetLow (s : State) (v : List FieldBlock) : (s.setDue v).resetLow = s.resetLow := rfl
@[simp] theorem State.setDue_due (s : State) (v : List FieldBlock) : (s.setDue v).due = v := rfl
@[simp] theorem State.setDue_fresh (s : State) (v : List FieldBlock) : (s.setDue v).fresh = s.fresh := rfl
@[simp] theorem State.setDue_pending (s : State) (v : List FieldBlock) : (s.setDue v).pending = s.pending := rfl

@[simp] theorem State.setFresh_mem (s : State) (v : Nat) : (s.setFresh v).mem = s.mem := rfl
@[simp] theorem State.setFresh_stream (s : State) (v : Nat) : (s.setFresh v).stream = s.stream := rfl
@[simp] theorem State.setFresh_recv (s : State) (v : Nat) : (s.setFresh v).recv = s.recv := rfl
@[simp] theorem State.setFresh_relay (s : State) (v : Nat) : (s.setFresh v).relay = s.relay := rfl
@[simp] theorem State.setFresh_objs (s : State) (v : Nat) : (s.setFresh v).objs = s.objs := rfl
@[simp] theorem State.setFresh_pals (s : State) (v : Nat) : (s.setFresh v).pals = s.pals := rfl
@[simp] theorem State.setFresh_pages (s : State) (v : Nat) : (s.setFresh v).pages = s.pages := rfl
@[simp] theorem State.setFresh_exch (s : State) (v : Nat) : (s.setFresh v).exch = s.exch := rfl
@[simp] theorem State.setFresh_stack (s : State) (v : Nat) : (s.setFresh v).stack = s.stack := rfl
@[simp] theorem State.setFresh_nav (s : State) (v : Nat) : (s.setFresh v).nav = s.nav := rfl
@[simp] theorem State.setFresh_seqr (s : State) (v : Nat) : (s.setFresh v).seqr = s.seqr := rfl
@[simp] theorem State.setFresh_cues (s : State) (v : Nat) : (s.setFresh v).cues = s.cues := rfl
@[simp] theorem State.setFresh_comp (s : State) (v : Nat) : (s.setFresh v).comp = s.comp := rfl
@[simp] theorem State.setFresh_disp (s : State) (v : Nat) : (s.setFresh v).disp = s.disp := rfl
@[simp] theorem State.setFresh_link (s : State) (v : Nat) : (s.setFresh v).link = s.link := rfl
@[simp] theorem State.setFresh_resetLow (s : State) (v : Nat) : (s.setFresh v).resetLow = s.resetLow := rfl
@[simp] theorem State.setFresh_due (s : State) (v : Nat) : (s.setFresh v).due = s.due := rfl
@[simp] theorem State.setFresh_fresh (s : State) (v : Nat) : (s.setFresh v).fresh = v := rfl
@[simp] theorem State.setFresh_pending (s : State) (v : Nat) : (s.setFresh v).pending = s.pending := rfl

@[simp] theorem State.setPending_mem (s : State) (v : List Instr) : (s.setPending v).mem = s.mem := rfl
@[simp] theorem State.setPending_stream (s : State) (v : List Instr) : (s.setPending v).stream = s.stream := rfl
@[simp] theorem State.setPending_recv (s : State) (v : List Instr) : (s.setPending v).recv = s.recv := rfl
@[simp] theorem State.setPending_relay (s : State) (v : List Instr) : (s.setPending v).relay = s.relay := rfl
@[simp] theorem State.setPending_objs (s : State) (v : List Instr) : (s.setPending v).objs = s.objs := rfl
@[simp] theorem State.setPending_pals (s : State) (v : List Instr) : (s.setPending v).pals = s.pals := rfl
@[simp] theorem State.setPending_pages (s : State) (v : List Instr) : (s.setPending v).pages = s.pages := rfl
@[simp] theorem State.setPending_exch (s : State) (v : List Instr) : (s.setPending v).exch = s.exch := rfl
@[simp] theorem State.setPending_stack (s : State) (v : List Instr) : (s.setPending v).stack = s.stack := rfl
@[simp] theorem State.setPending_nav (s : State) (v : List Instr) : (s.setPending v).nav = s.nav := rfl
@[simp] theorem State.setPending_seqr (s : State) (v : List Instr) : (s.setPending v).seqr = s.seqr := rfl
@[simp] theorem State.setPending_cues (s : State) (v : List Instr) : (s.setPending v).cues = s.cues := rfl
@[simp] theorem State.setPending_comp (s : State) (v : List Instr) : (s.setPending v).comp = s.comp := rfl
@[simp] theorem State.setPending_disp (s : State) (v : List Instr) : (s.setPending v).disp = s.disp := rfl
@[simp] theorem State.setPending_link (s : State) (v : List Instr) : (s.setPending v).link = s.link := rfl
@[simp] theorem State.setPending_resetLow (s : State) (v : List Instr) : (s.setPending v).resetLow = s.resetLow := rfl
@[simp] theorem State.setPending_due (s : State) (v : List Instr) : (s.setPending v).due = s.due := rfl
@[simp] theorem State.setPending_fresh (s : State) (v : List Instr) : (s.setPending v).fresh = s.fresh := rfl
@[simp] theorem State.setPending_pending (s : State) (v : List Instr) : (s.setPending v).pending = v := rfl

end Sys2Proof.Machine
end

