-- ==== Sys2Proof/Laws/Keys.lean ====
section
/-! SUPPORT. Only a KEY command adds a key and only a delivery takes one: every other operation of the Page Exchange,
the Page Stack, the Navigation Unit and the Slide Sequencer leaves the key queue as it is (R83, R84). -/

namespace Sys2Proof.Machine

open Sys2Proof

/-- The key queue. -/
abbrev keysOf (s : State) : List Key := s.nav.keys

section KeyQueue

variable (s : State)

/-! ## Folds -/

theorem keysOf_foldl {α : Type} (f : State → α → State) (h : ∀ s a, keysOf (f s a) = keysOf s) (l : List α) :
    ∀ s, keysOf (l.foldl f s) = keysOf s := by
  induction l with
  | nil => intro s; rfl
  | cons a l ih => intro s; rw [List.foldl_cons, ih, h]

theorem keysOf_getD {t : Option State} {s d : State} (h : ∀ u, t = some u → keysOf u = keysOf s)
    (hd : keysOf d = keysOf s) : keysOf (t.getD d) = keysOf s := by
  cases t with
  | none => exact hd
  | some u => exact h u rfl

/-! ## Single updates -/

@[simp] theorem keysOf_setExch (v : Exchange) : keysOf (s.setExch v) = keysOf s := rfl
@[simp] theorem keysOf_setStack (v : PageStack) : keysOf (s.setStack v) = keysOf s := rfl
@[simp] theorem keysOf_setSeqr (v : Sequencer) : keysOf (s.setSeqr v) = keysOf s := rfl
@[simp] theorem keysOf_setPages (v : Vector PageEntry 64) : keysOf (s.setPages v) = keysOf s := rfl
@[simp] theorem keysOf_setNav (v : Navigation) : keysOf (s.setNav v) = v.keys := rfl
@[simp] theorem keysOf_raiseRecompose : keysOf (raiseRecompose s) = keysOf s := rfl
@[simp] theorem keysOf_setSlot (k : Fin 6) (v : Slot) : keysOf (setSlot k v s) = keysOf s := rfl
@[simp] theorem keysOf_setPageEntry (r : PageRef) (e : PageEntry) : keysOf (setPageEntry r e s) = keysOf s := rfl
@[simp] theorem keysOf_setEntries (es : List Entry) : keysOf (setEntries es s) = keysOf s := rfl
@[simp] theorem keysOf_updateSeq (f : Sequencer → Sequencer) : keysOf (updateSeq f s) = keysOf s := rfl
@[simp] theorem keysOf_setNoticeOverflow : keysOf (setNoticeOverflow s) = keysOf s := rfl

@[simp] theorem keysOf_post (kind : NoticeKind) (owner : Option Owner) (page : Option (Fin 32)) (index code : Half)
    (detail : Word) (flag : Bool) : keysOf (post kind owner page index code detail flag s) = keysOf s := by
  unfold post
  split
  · rfl
  · exact keysOf_setNoticeOverflow s

/-! ## Buttons -/

@[simp] theorem keysOf_markDirty (k : Fin 6) :
    keysOf (Machine.markDirty k s) = keysOf s := by
  simp only [Machine.markDirty]
  (repeat' split) <;> simp

@[simp] theorem keysOf_commitButtons (k : Fin 6) (sl : Slot) :
    keysOf (Machine.commitButtons k sl s) = keysOf s := by
  simp only [Machine.commitButtons]
  simp

@[simp] theorem keysOf_becomeSelection (k : Fin 6) (c : Nat) :
    keysOf (Machine.becomeSelection k c s) = keysOf s := by
  simp only [Machine.becomeSelection]
  (repeat' split) <;> simp

@[simp] theorem keysOf_applyDefault (k : Fin 6) :
    keysOf (Machine.applyDefault k s) = keysOf s := by
  simp only [Machine.applyDefault]
  (repeat' split) <;> simp

@[simp] theorem keysOf_selectButton (k : Fin 6) (id : Byte) :
    keysOf (Machine.selectButton k id s) = keysOf s := by
  simp only [Machine.selectButton]
  (repeat' split) <;> simp

@[simp] theorem keysOf_selectIfEnabled (k : Fin 6) (id : Byte) :
    keysOf (Machine.selectIfEnabled k id s) = keysOf s := by
  simp only [Machine.selectIfEnabled]
  (repeat' split) <;> simp

@[simp] theorem keysOf_enableButton (k : Fin 6) (i : Nat) :
    keysOf (Machine.enableButton k i s) = keysOf s := by
  simp only [Machine.enableButton]
  (repeat' split) <;> simp

@[simp] theorem keysOf_disableButton (k : Fin 6) (i : Nat) :
    keysOf (Machine.disableButton k i s) = keysOf s := by
  simp only [Machine.disableButton]
  (repeat' split) <;> simp

@[simp] theorem keysOf_changeEnable (k : Fin 6) (i : Nat) (enable : Bool) :
    keysOf (Machine.changeEnable k i enable s) = keysOf s := by
  simp only [Machine.changeEnable]
  (repeat' split) <;> simp

@[simp] theorem keysOf_cancelActivation (k : Fin 6) :
    keysOf (Machine.cancelActivation k s) = keysOf s := by
  simp only [Machine.cancelActivation]
  (repeat' split) <;> simp

@[simp] theorem keysOf_activateButton (k : Fin 6) (i : Nat) :
    keysOf (Machine.activateButton k i s) = keysOf s := by
  simp only [Machine.activateButton]
  (repeat' split) <;> simp

/-! ## Page Exchange -/

@[simp] theorem keysOf_startLoad (t : Transfer) :
    keysOf (Machine.startLoad t s) = keysOf s := by
  simp only [Machine.startLoad]
  simp

@[simp] theorem keysOf_dropResidency (k : Fin 6) :
    keysOf (Machine.dropResidency k s) = keysOf s := by
  simp only [Machine.dropResidency]
  (repeat' split) <;> simp

@[simp] theorem keysOf_startExchange (r : PageRef) (k : Fin 6) :
    keysOf (Machine.startExchange r k s) = keysOf s := by
  simp only [Machine.startExchange]
  (repeat' split) <;> simp

@[simp] theorem keysOf_takeControllerRequest :
    keysOf (Machine.takeControllerRequest s) = keysOf s := by
  simp only [Machine.takeControllerRequest]
  (repeat' split) <;> simp

@[simp] theorem keysOf_takeRequests (qs : List Request) : ∀ s, keysOf (takeRequests qs s) = keysOf s := by
  induction qs with
  | nil => intro s; simp [takeRequests]
  | cons q qs ih =>
    intro s
    simp only [takeRequests]
    (repeat' split) <;> simp [ih]

@[simp] theorem keysOf_takeUp :
    keysOf (Machine.takeUp s) = keysOf s := by
  simp only [Machine.takeUp]
  (repeat' split) <;> simp

@[simp] theorem keysOf_requestPage (w : Requester) (r : PageRef) :
    keysOf (Machine.requestPage w r s) = keysOf s := by
  simp only [Machine.requestPage]
  (repeat' split) <;> simp

@[simp] theorem keysOf_withdrawRequest (w : Requester) (r : PageRef) :
    keysOf (Machine.withdrawRequest w r s) = keysOf s := by
  simp only [Machine.withdrawRequest]
  simp

@[simp] theorem keysOf_dropHeld :
    keysOf (Machine.dropHeld s) = keysOf s := by
  simp only [Machine.dropHeld]
  simp

@[simp] theorem keysOf_dropControllerRequest (test : PageRef → Bool) :
    keysOf (Machine.dropControllerRequest test s) = keysOf s := by
  simp only [Machine.dropControllerRequest]
  (repeat' split) <;> simp

@[simp] theorem keysOf_leaveSave (t : Transfer) :
    keysOf (Machine.leaveSave t s) = keysOf s := by
  simp only [Machine.leaveSave]
  (repeat' split) <;> simp

@[simp] theorem keysOf_abandonSave (test : PageRef → Bool) :
    keysOf (Machine.abandonSave test s) = keysOf s := by
  simp only [Machine.abandonSave]
  (repeat' split) <;> simp

@[simp] theorem keysOf_exchangeRedefined (r : PageRef) :
    keysOf (Machine.exchangeRedefined r s) = keysOf s := by
  simp only [Machine.exchangeRedefined]
  (repeat' split) <;> simp

@[simp] theorem keysOf_emptyResident (test : PageRef → Bool) (k : Fin 6) :
    keysOf (Machine.emptyResident test s k) = keysOf s := by
  simp only [Machine.emptyResident]
  (repeat' split) <;> simp

@[simp] theorem keysOf_cancelIncoming (test : PageRef → Bool) :
    keysOf (Machine.cancelIncoming test s) = keysOf s := by
  simp only [Machine.cancelIncoming]
  (repeat' split) <;> simp

@[simp] theorem keysOf_dropRequests (test : PageRef → Bool) :
    keysOf (Machine.dropRequests test s) = keysOf s := by
  simp only [Machine.dropRequests]
  simp

@[simp] theorem keysOf_exchangeDrop (test : PageRef → Bool) :
    keysOf (Machine.exchangeDrop test s) = keysOf s := by
  unfold exchangeDrop
  rw [keysOf_foldl _ (fun t k => keysOf_emptyResident t test k)]
  simp

/-! ## Page Stack -/

@[simp] theorem keysOf_pageNotice (kind : NoticeKind) (r : PageRef) (pos : Nat) (code : Half) :
    keysOf (Machine.pageNotice kind r pos code s) = keysOf s := by
  simp only [Machine.pageNotice]
  simp

@[simp] theorem keysOf_cancelUnlessFocus (k : Fin 6) :
    keysOf (Machine.cancelUnlessFocus s k) = keysOf s := by
  simp only [Machine.cancelUnlessFocus]
  (repeat' split) <;> simp

@[simp] theorem keysOf_tellNavigation :
    keysOf (Machine.tellNavigation s) = keysOf s := by
  unfold Machine.tellNavigation
  exact keysOf_foldl _ (fun t k => keysOf_cancelUnlessFocus t k) _ _

@[simp] theorem keysOf_handOn :
    keysOf (Machine.handOn s) = keysOf s := by
  simp only [Machine.handOn]
  simp

@[simp] theorem keysOf_insertEntry (i : Nat) (e : Entry) :
    keysOf (Machine.insertEntry i e s) = keysOf s := by
  simp only [Machine.insertEntry]
  simp

@[simp] theorem keysOf_dropReturnSel (test : PageRef → Bool) :
    keysOf (Machine.dropReturnSel test s) = keysOf s := by
  simp only [Machine.dropReturnSel]
  simp

@[simp] theorem keysOf_detachEntry (r : PageRef) (code : Option Half) :
    keysOf (Machine.detachEntry r code s) = keysOf s := by
  simp only [Machine.detachEntry]
  (repeat' split) <;> simp

@[simp] theorem keysOf_removeEntry (r : PageRef) (code : Option Half) :
    keysOf (Machine.removeEntry r code s) = keysOf s := by
  simp only [Machine.removeEntry]
  (repeat' split) <;> simp

@[simp] theorem keysOf_changeEntry (r : PageRef) (f : Entry → Entry) :
    keysOf (Machine.changeEntry r f s) = keysOf s := by
  simp only [Machine.changeEntry]
  simp

@[simp] theorem keysOf_turnShown (r : PageRef) (code : Half) :
    keysOf (Machine.turnShown r code s) = keysOf s := by
  simp only [Machine.turnShown]
  simp

@[simp] theorem keysOf_addEntering (r : PageRef) (i : Nat) :
    keysOf (Machine.addEntering r i s) = keysOf s := by
  simp only [Machine.addEntering]
  (repeat' split) <;> simp

theorem keysOf_roomBy (cut : PageRef → State → State) (hc : ∀ r, keysOf (cut r s) = keysOf s) {t : State}
    (h : Machine.roomBy cut s = some t) : keysOf t = keysOf s := by
  unfold Machine.roomBy at h
  split at h
  · cases h; rfl
  · obtain ⟨e, -, rfl⟩ := Option.map_eq_some_iff.1 h
    exact hc e.page

theorem keysOf_makeRoom {t : State} (h : Machine.makeRoom s = some t) : keysOf t = keysOf s :=
  keysOf_roomBy s _ (fun r => keysOf_removeEntry s r _) h

@[simp] theorem keysOf_restoreEntry (r : PageRef) :
    keysOf (Machine.restoreEntry r s) = keysOf s := by
  simp only [Machine.restoreEntry]
  (repeat' split) <;> simp

theorem keysOf_showEntry (r : PageRef) {t : State}
    (h : Machine.showEntry r s = some t) : keysOf t = keysOf s := by
  unfold Machine.showEntry at h
  split at h
  · obtain ⟨u, hu, rfl⟩ := Option.map_eq_some_iff.1 h
    simp [keysOf_makeRoom s hu]
  · cases h; split <;> simp

@[simp] theorem keysOf_startLeaving (r : PageRef) :
    keysOf (Machine.startLeaving r s) = keysOf s := by
  simp only [Machine.startLeaving]
  (repeat' split) <;> simp

@[simp] theorem keysOf_hideBandEntries (o : Owner) :
    keysOf (Machine.hideBandEntries o s) = keysOf s := keysOf_foldl _ (fun t r => keysOf_startLeaving t r) _ _

@[simp] theorem keysOf_replaceBy (acting : PageRef) (target : PageRef) :
    keysOf (Machine.replaceBy acting target s) = keysOf s := by
  simp only [Machine.replaceBy]
  split
  · split
    · simp
    · rename_i h; simp [keysOf_makeRoom _ h]
  · split <;> simp

@[simp] theorem keysOf_gotoPage (acting : PageRef) (target : PageRef) :
    keysOf (Machine.gotoPage acting target s) = keysOf s := by
  simp only [Machine.gotoPage]
  (repeat' split) <;> simp

@[simp] theorem keysOf_setFrames (o : Owner) (fs : List Frame) :
    keysOf (Machine.setFrames o fs s) = keysOf s := by cases o <;> rfl

@[simp] theorem keysOf_pushFrame (o : Owner) (f : Frame) :
    keysOf (Machine.pushFrame o f s) = keysOf s := by
  simp only [Machine.pushFrame]
  (repeat' split) <;> simp

theorem keysOf_callPage (acting : PageRef) (target : PageRef) {t : State}
    (h : Machine.callPage acting target s = some t) : keysOf t = keysOf s := by
  simp only [Machine.callPage] at h
  split at h
  · cases h; rfl
  · split at h
    · obtain ⟨u, hu, rfl⟩ := Option.map_eq_some_iff.1 h
      simp [keysOf_makeRoom s hu]
    · cases h; split <;> simp

theorem keysOf_showCalling (r : PageRef) {t : State}
    (h : Machine.showCalling r s = some t) : keysOf t = keysOf s := by
  simp only [Machine.showCalling] at h
  split at h
  · exact keysOf_showEntry s _ h
  · obtain ⟨u, hu, rfl⟩ := Option.map_eq_some_iff.1 h
    rw [keysOf_addEntering]
    split <;> simp [keysOf_makeRoom s hu]

@[simp] theorem keysOf_giveReturnSel (r : PageRef) (b : Byte) :
    keysOf (Machine.giveReturnSel r b s) = keysOf s := by
  simp only [Machine.giveReturnSel]
  (repeat' split) <;> simp

@[simp] theorem keysOf_returnFrom (acting : PageRef) :
    keysOf (Machine.returnFrom acting s) = keysOf s := by
  simp only [Machine.returnFrom]
  (repeat' split) <;> simp

@[simp] theorem keysOf_removeBeforeSlide (r : PageRef) (code : Half) :
    keysOf (Machine.removeBeforeSlide r code s) = keysOf s := by
  simp only [Machine.removeBeforeSlide]
  split <;> simp

theorem keysOf_slideRoom {t : State} (h : Machine.slideRoom s = some t) : keysOf t = keysOf s :=
  keysOf_roomBy s _ (fun r => keysOf_removeBeforeSlide s r _) h

@[simp] theorem keysOf_insertSlide (i : Nat) (e : Entry) :
    keysOf (Machine.insertSlide i e s) = keysOf s := by
  simp only [Machine.insertSlide]
  simp

theorem keysOf_addSlide (r : PageRef) {t : State}
    (h : Machine.addSlide r s = some t) : keysOf t = keysOf s := by
  obtain ⟨u, hu, rfl⟩ := Option.map_eq_some_iff.1 h
  simp [keysOf_slideRoom s hu]

theorem keysOf_addIncoming (current : PageRef) (r : PageRef) {t : State}
    (h : Machine.addIncoming current r s = some t) : keysOf t = keysOf s := by
  obtain ⟨u, hu, rfl⟩ := Option.map_eq_some_iff.1 h
  simp [keysOf_slideRoom s hu]

@[simp] theorem keysOf_endSlideTransition (outgoing : PageRef) (incoming : PageRef) :
    keysOf (Machine.endSlideTransition outgoing incoming s) = keysOf s := by
  simp only [Machine.endSlideTransition]
  split <;> simp

@[simp] theorem keysOf_renewSlide (r : PageRef) :
    keysOf (Machine.renewSlide r s) = keysOf s := by
  simp only [Machine.renewSlide]
  simp

@[simp] theorem keysOf_emptySlideBand (silent : Bool) :
    keysOf (Machine.emptySlideBand silent s) = keysOf s := keysOf_foldl _ (fun t r => keysOf_removeEntry t r _) _ _

@[simp] theorem keysOf_examineEntry (r : PageRef) :
    keysOf (Machine.examineEntry s r) = keysOf s := by
  simp only [Machine.examineEntry]
  (repeat' split) <;> simp

@[simp] theorem keysOf_stackField :
    keysOf (Machine.stackField s) = keysOf s := keysOf_foldl _ (fun t r => keysOf_examineEntry t r) _ _

@[simp] theorem keysOf_stackLoaded (r : PageRef) :
    keysOf (Machine.stackLoaded r s) = keysOf s := by
  simp only [Machine.stackLoaded]
  (repeat' split) <;> simp

@[simp] theorem keysOf_eraseStack (o : Owner) :
    keysOf (Machine.eraseStack o s) = keysOf s := by
  unfold eraseStack
  rw [keysOf_foldl _ (fun t r => keysOf_removeEntry t r _), keysOf_setFrames]

/-! ## Slide Sequencer -/

@[simp] theorem keysOf_seqNotice (kind : NoticeKind) (page : Option PageRef) (code : Half) :
    keysOf (Machine.seqNotice kind page code s) = keysOf s := by
  simp only [Machine.seqNotice]
  simp []

@[simp] theorem keysOf_wantPage (r : PageRef) :
    keysOf (Machine.wantPage r s) = keysOf s := by
  simp only [Machine.wantPage]
  (repeat' split) <;> simp []

@[simp] theorem keysOf_wantNone :
    keysOf (Machine.wantNone s) = keysOf s := by
  simp only [Machine.wantNone]
  (repeat' split) <;> simp []

@[simp] theorem keysOf_prefetch :
    keysOf (Machine.prefetch s) = keysOf s := by
  simp only [Machine.prefetch]
  (repeat' split) <;> simp []

@[simp] theorem keysOf_completeAdvance (code : Half) :
    keysOf (Machine.completeAdvance code s) = keysOf s := by
  simp only [Machine.completeAdvance]
  (repeat' split) <;> simp []

@[simp] theorem keysOf_bringInFull (r : PageRef) :
    keysOf (Machine.bringInFull r s) = keysOf s := by
  unfold bringInFull
  split
  · rfl
  · rename_i h; simp [keysOf_addSlide _ _ h]

@[simp] theorem keysOf_cutTo (shown : PageRef) (r : PageRef) :
    keysOf (Machine.cutTo shown r s) = keysOf s := by
  simp only [Machine.cutTo]
  simp []

@[simp] theorem keysOf_startTransition (shown : PageRef) (r : PageRef) (e : SlideEntry) :
    keysOf (Machine.startTransition shown r e s) = keysOf s := by
  unfold startTransition
  split
  · simp
  · split
    · simp
    · rename_i h; simp [keysOf_addIncoming _ _ _ h]

@[simp] theorem keysOf_tryBringIn :
    keysOf (Machine.tryBringIn s) = keysOf s := by
  simp only [Machine.tryBringIn]
  (repeat' split) <;> simp []

@[simp] theorem keysOf_moveTo (j : Nat) (back : Bool) :
    keysOf (Machine.moveTo j back s) = keysOf s := by
  simp only [Machine.moveTo]
  (repeat' split) <;> simp []

@[simp] theorem keysOf_resetSeq :
    keysOf (Machine.resetSeq s) = keysOf s := rfl

@[simp] theorem keysOf_stopShow (reason : Half) :
    keysOf (Machine.stopShow reason s) = keysOf s := by
  simp only [Machine.stopShow]
  simp []

@[simp] theorem keysOf_searchMove (back : Bool) :
    keysOf (Machine.searchMove back s) = keysOf s := by
  simp only [Machine.searchMove]
  (repeat' split) <;> simp []

@[simp] theorem keysOf_endTransition :
    keysOf (Machine.endTransition s) = keysOf s := by
  simp only [Machine.endTransition]
  (repeat' split) <;> simp []

@[simp] theorem keysOf_stepSettled (back : Bool) :
    keysOf (Machine.stepSettled back s) = keysOf s := by
  simp only [Machine.stepSettled]
  (repeat' split) <;> simp []

@[simp] theorem keysOf_stepShow (back : Bool) :
    keysOf (Machine.stepShow back s) = keysOf s := by
  simp only [Machine.stepShow]
  (repeat' split) <;> simp []

@[simp] theorem keysOf_pauseShow :
    keysOf (Machine.pauseShow s) = keysOf s := by
  simp only [Machine.pauseShow]
  (repeat' split) <;> simp []

@[simp] theorem keysOf_resumeShow :
    keysOf (Machine.resumeShow s) = keysOf s := by
  simp only [Machine.resumeShow]
  (repeat' split) <;> simp []

@[simp] theorem keysOf_togglePause :
    keysOf (Machine.togglePause s) = keysOf s := by
  simp only [Machine.togglePause]
  (repeat' split) <;> simp []

@[simp] theorem keysOf_slideOperation (op : Nat) :
    keysOf (Machine.slideOperation op s) = keysOf s := by
  simp only [Machine.slideOperation]
  (repeat' split) <;> simp []

@[simp] theorem keysOf_countSlideHold :
    keysOf (Machine.countSlideHold s) = keysOf s := by
  simp only [Machine.countSlideHold]
  (repeat' split) <;> simp []

@[simp] theorem keysOf_waitField  :
    keysOf (Machine.waitField s) = keysOf s := by
  simp only [Machine.waitField]
  (repeat' split) <;> simp

@[simp] theorem keysOf_sequencerField :
    keysOf (Machine.sequencerField s) = keysOf s := by
  simp only [Machine.sequencerField]
  (repeat' split) <;> simp []

@[simp] theorem keysOf_sequencerLoaded (r : PageRef) :
    keysOf (Machine.sequencerLoaded r s) = keysOf s := by
  simp only [Machine.sequencerLoaded]
  (repeat' split) <;> simp []

@[simp] theorem keysOf_heldPageGone (p : PageRef) :
    keysOf (Machine.heldPageGone p s) = keysOf s := by
  simp only [Machine.heldPageGone]
  (repeat' split) <;> simp []

@[simp] theorem keysOf_waitPageGone (p : PageRef) :
    keysOf (Machine.waitPageGone p s) = keysOf s := by
  simp only [Machine.waitPageGone]
  (repeat' split) <;> simp []

@[simp] theorem keysOf_transPageGone (p : PageRef) :
    keysOf (Machine.transPageGone p s) = keysOf s := by
  simp only [Machine.transPageGone]
  (repeat' split) <;> simp []

@[simp] theorem keysOf_slideGone (p : PageRef) :
    keysOf (Machine.slideGone p s) = keysOf s := by
  simp only [Machine.slideGone]
  (repeat' split) <;> simp []

@[simp] theorem keysOf_sequencerPageChanged (p : PageRef) :
    keysOf (Machine.sequencerPageChanged p s) = keysOf s := by
  simp only [Machine.sequencerPageChanged]
  (repeat' split) <;> simp []

@[simp] theorem keysOf_startShow (o : Owner) (list : Fin 2) (index : Nat) :
    keysOf (Machine.startShow o list index s) = keysOf s := by
  simp only [Machine.startShow]
  (repeat' split) <;> simp []

/-! ## Outcomes and activations -/

@[simp] theorem keysOf_pageFaultNotice (a : Acting) (code : Half) (detail : Word) :
    keysOf (Machine.pageFaultNotice a code detail s) = keysOf s := by
  simp only [Machine.pageFaultNotice]
  simp

@[simp] theorem keysOf_setVariable (v : Fin 16) (w : Word) :
    keysOf (Machine.setVariable v w s) = keysOf s := by
  simp only [Machine.setVariable]
  simp

@[simp] theorem keysOf_runOutcome (a : Acting) (x : Action) :
    keysOf (Machine.runOutcome a x s) = keysOf s := by
  unfold runOutcome
  dsimp only
  (repeat' split) <;> try simp
  exact keysOf_getD (fun u h => keysOf_callPage s _ _ h) (by simp)

@[simp] theorem keysOf_reportOutcome (a : Acting) (x : Action) (branch : Bool) (detail : Word) :
    keysOf (Machine.reportOutcome a x branch detail s) = keysOf s := by
  simp only [Machine.reportOutcome]
  (repeat' split) <;> simp

@[simp] theorem keysOf_finishActivation (k : Fin 6) (i : Nat) :
    keysOf (Machine.finishActivation k i s) = keysOf s := by
  simp only [Machine.finishActivation]
  (repeat' split) <;> simp

@[simp] theorem keysOf_completeActivation (k : Fin 6) :
    keysOf (Machine.completeActivation k s) = keysOf s := by
  simp only [Machine.completeActivation]
  (repeat' split) <;> simp

@[simp] theorem keysOf_beginActivation (k : Fin 6) (i : Nat) :
    keysOf (Machine.beginActivation k i s) = keysOf s := by
  simp only [Machine.beginActivation]
  (repeat' split) <;> simp

@[simp] theorem keysOf_countHold (k : Fin 6) :
    keysOf (Machine.countHold s k) = keysOf s := by
  simp only [Machine.countHold]
  (repeat' split) <;> simp

@[simp] theorem keysOf_setTimer (k : Fin 6) (timer : Half) (mark : Bool) :
    keysOf (Machine.setTimer k timer mark s) = keysOf s := by
  simp only [Machine.setTimer]
  simp

@[simp] theorem keysOf_expireTimeout (k : Fin 6) :
    keysOf (Machine.expireTimeout k s) = keysOf s := by
  simp only [Machine.expireTimeout]
  (repeat' split) <;> simp

@[simp] theorem keysOf_countTimeout (k : Fin 6) :
    keysOf (Machine.countTimeout s k) = keysOf s := by
  simp only [Machine.countTimeout]
  (repeat' split) <;> simp

@[simp] theorem keysOf_timeoutsField :
    keysOf (Machine.timeoutsField s) = keysOf s := by
  simp only [Machine.timeoutsField]
  (repeat' split) <;> simp

@[simp] theorem keysOf_reloadTimeout (k : Fin 6) :
    keysOf (Machine.reloadTimeout k s) = keysOf s := by
  simp only [Machine.reloadTimeout]
  simp

/-! ## Keys -/

@[simp] theorem keysOf_keyUnused (focus : Option PageRef) (k : Key) (reason : Word) :
    keysOf (Machine.keyUnused focus k reason s) = keysOf s := by
  simp only [Machine.keyUnused]
  simp

theorem keysOf_slideKey (focus : Option PageRef) (allowed : Bool) (k : Key) (act : State → State)
    (h : ∀ t, keysOf (act t) = keysOf t) : keysOf (slideKey focus allowed k act s) = keysOf s := by
  unfold slideKey
  split <;> simp [h]

@[simp] theorem keysOf_keyNoFocus (k : Key) :
    keysOf (Machine.keyNoFocus k s) = keysOf s := by
  simp only [Machine.keyNoFocus]
  (repeat' split) <;> simp [keysOf_slideKey]

@[simp] theorem keysOf_moveSelection (k : Fin 6) (d : PageDef) (dir : Direction) :
    keysOf (Machine.moveSelection k d dir s) = keysOf s := by
  simp only [Machine.moveSelection]
  (repeat' split) <;> simp

@[simp] theorem keysOf_enterKey (r : PageRef) (k : Fin 6) :
    keysOf (Machine.enterKey r k s) = keysOf s := by
  simp only [Machine.enterKey]
  (repeat' split) <;> simp

@[simp] theorem keysOf_backKey (r : PageRef) (d : PageDef) :
    keysOf (Machine.backKey r d s) = keysOf s := by
  simp only [Machine.backKey]
  (repeat' split) <;> simp

@[simp] theorem keysOf_keyOnPage (r : PageRef) (k : Fin 6) (d : PageDef) (key : Key) :
    keysOf (Machine.keyOnPage r k d key s) = keysOf s := by
  simp only [Machine.keyOnPage]
  (repeat' split) <;> simp [keysOf_slideKey]

@[simp] theorem keysOf_deliverKey (key : Key) :
    keysOf (Machine.deliverKey key s) = keysOf s := by
  simp only [Machine.deliverKey]
  (repeat' split) <;> simp

/-! ## Load done -/

@[simp] theorem keysOf_makeHeldEnable (k : Fin 6) (held : List (Byte × Bool)) (i : Nat) :
    keysOf (Machine.makeHeldEnable k held s i) = keysOf s := by
  simp only [Machine.makeHeldEnable]
  (repeat' split) <;> simp

@[simp] theorem keysOf_makeHeldEnables (k : Fin 6) (held : List (Byte × Bool)) :
    keysOf (Machine.makeHeldEnables k held s) = keysOf s := keysOf_foldl _ (fun t i => keysOf_makeHeldEnable t k held i) _ _

@[simp] theorem keysOf_makeReturnSel (k : Fin 6) (r : PageRef) :
    keysOf (Machine.makeReturnSel k r s) = keysOf s := by
  simp only [Machine.makeReturnSel]
  (repeat' split) <;> simp

@[simp] theorem keysOf_makeHeldSelect (k : Fin 6) (held : Option Byte) :
    keysOf (Machine.makeHeldSelect k held s) = keysOf s := by
  simp only [Machine.makeHeldSelect]
  (repeat' split) <;> simp

@[simp] theorem keysOf_loadDoneChanges (k : Fin 6) (r : PageRef) (asked : Bool) :
    keysOf (Machine.loadDoneChanges k r asked s) = keysOf s := by
  simp only [Machine.loadDoneChanges]
  (repeat' split) <;> simp

@[simp] theorem keysOf_placeLoaded (k : Fin 6) (r : PageRef) :
    keysOf (Machine.placeLoaded k r s) = keysOf s := by
  simp only [Machine.placeLoaded]
  (repeat' split) <;> simp

@[simp] theorem keysOf_autoShowPage (r : PageRef) :
    keysOf (Machine.autoShowPage r s) = keysOf s := keysOf_getD (fun u h => keysOf_showEntry s _ h) (by simp)

@[simp] theorem keysOf_stackRedefined (r : PageRef) (former : PageKind) :
    keysOf (Machine.stackRedefined r former s) = keysOf s := by
  simp only [Machine.stackRedefined]
  (repeat' split) <;> simp

end KeyQueue

end Sys2Proof.Machine
end

