-- ==== Sys2Proof/Laws/Link.lean ====
section
/-! SUPPORT. The frame assembly: what a whole frame leaves on the link, byte by byte or at once (R175, R179). -/

namespace Sys2Proof.Machine

open Sys2Proof

/-- A received byte changes nothing an answer of a read frame is made of. -/
theorem readAnswer_setFrame (cmd : Byte) (s : State) (bytes : List Byte) (ignored : Bool) (w : Wire) :
    readAnswer cmd (s.setLink { s.link with frameBytes := bytes, frameIgnored := ignored, wire := w }) =
      readAnswer cmd s := rfl

/-- A received byte changes nothing the link byte is made of. -/
theorem linkByte_setFrame (s : State) (bytes : List Byte) (ignored : Bool) (w : Wire) :
    linkByte (s.setLink { s.link with frameBytes := bytes, frameIgnored := ignored, wire := w }) =
      linkByte s := rfl

/-- The first n bytes of an answer that 0x00 follows, and the byte after them. -/
theorem take_answer_succ (answer : List Byte) (n : Nat) :
    (answer ++ List.replicate (n + 1) 0).take (n + 1) =
      (answer ++ List.replicate n 0).take n ++ [answer.getD n 0] := by
  apply List.ext_getElem
  · simp
  · intro i h1 h2
    simp only [List.length_take, List.length_append, List.length_replicate] at h1
    rcases Nat.lt_or_ge i answer.length with hi | hi
    · by_cases hn : i = n
      · subst hn
        simp [hi, List.getD]
      · have : i < n := by omega
        simp [hi, this]
    · by_cases hn : i = n
      · subst hn
        simp [List.getElem_append, List.getD, Nat.not_lt.mpr hi]
      · have : i < n := by omega
        simp [List.getElem_append, Nat.not_lt.mpr hi, this]

/-- What LSDO carries with the byte after these: one more byte of the frame's wire. -/
theorem shiftOut_eq (bytes : List Byte) (b : Byte) (s : State) :
    shiftOut (s.setLink { s.link with
      frameBytes := bytes, frameIgnored := false
      wire := if bytes = [] then s.link.wire else frameWire bytes s }) = frameWire (bytes ++ [b]) s := by
  match bytes with
  | [] =>
    cases hb : isReadCode b <;>
      simp [shiftOut, frameWire, commandWire, readWire, byteAt, hb, linkByte_setFrame]
  | [cmd] =>
    cases hc : isReadCode cmd <;> simp [shiftOut, frameWire, commandWire, readWire, byteAt, hc]
  | cmd :: x :: rest =>
    cases hc : isReadCode cmd
    · simp [shiftOut, frameWire, commandWire, byteAt, hc, List.replicate_succ']
    · have h := take_answer_succ (readAnswer cmd s) rest.length
      simp only [List.getD_eq_getElem?_getD] at h
      simp [shiftOut, frameWire, readWire, byteAt, hc, readAnswer_setFrame]
      exact h.symm

/-- What the assembly and LSDO hold after select has fallen and these bytes have been received. -/
theorem receiveFrame_eq (bytes : List Byte) (s : State) :
    receiveFrame bytes s = s.setLink { s.link with
      frameBytes := bytes, frameIgnored := false
      wire := if bytes = [] then s.link.wire else frameWire bytes s } := by
  induction bytes using List.reverseRecOn with
  | nil => rfl
  | append_singleton l b ih =>
    have hw := shiftOut_eq l b s
    simp only [receiveFrame, List.foldl_append, List.foldl_cons, List.foldl_nil] at ih ⊢
    rw [ih, receiveByte, hw]
    simp [State.setLink]

/-- A frame that has crossed the link leaves what LSDO carried and an empty assembly. -/
theorem frameCrosses_eq (bytes : List Byte) (s : State) (h : bytes ≠ []) :
    frameCrosses bytes s = frameCrossed (frameWire bytes s) s := by
  rw [frameCrosses, receiveFrame_eq]
  simp [selectRises, frameCrossed, State.setLink, h]

/-- A command frame has crossed the link. -/
theorem frameCrosses_command (cmd len : Byte) (payload : List Byte) (s : State) (h : isReadCode cmd = false) :
    frameCrosses (cmd :: len :: payload) s = crossed payload.length s := by
  simp [frameCrosses_eq, frameWire, byteAt, h, crossed]

/-- A read frame has crossed the link. -/
theorem readFrame_eq (cmd : Byte) (n : Nat) (s : State) (h : isReadCode cmd = true) (hr : s.resetLow = false)
    (hn : n ≠ 0) : readFrame cmd n s = frameCrossed (readWire (readAnswer cmd s) n s) s := by
  obtain ⟨m, rfl⟩ := Nat.exists_eq_succ_of_ne_zero hn
  simp [readFrame, hr, frameCrosses_eq, frameWire, byteAt, h]

end Sys2Proof.Machine
end

