-- ==== Sys2Proof/Laws/Memory.lean ====
section
/-! SUPPORT. The graphics memory: a read after a write, the other bytes, and the canonical form that every
operation keeps (R1). -/

namespace Sys2Proof.Machine

open Sys2Proof

theorem cellAt_cellWrite_same (a : Nat) (b : Byte) (m : Memory) : ∀ lo, cellsFrom lo m = true →
    cellAt a (cellWrite a b m) = b := by
  induction m with
  | nil => intro lo _; by_cases h : b = unlisted a <;> simp [cellWrite, cellAt, h]
  | cons c m ih =>
    obtain ⟨k, v⟩ := c
    intro lo h
    simp only [cellsFrom, Bool.and_eq_true, decide_eq_true_eq, bne_iff_ne] at h
    have absent : ∀ (m : Memory) (lo : Nat), cellsFrom lo m = true → a < lo → cellAt a m = unlisted a := by
      intro m
      induction m with
      | nil => intros; rfl
      | cons c m ih =>
        obtain ⟨k, v⟩ := c
        intro lo h ha
        simp only [cellsFrom, Bool.and_eq_true, decide_eq_true_eq] at h
        have : k ≠ a := by omega
        simp only [cellAt, this, if_false]
        exact ih _ h.2 (by omega)
    simp only [cellWrite]
    split
    · rename_i ha
      split
      · rename_i hb
        have : k ≠ a := by omega
        simp only [cellAt, this, if_false, hb]
        exact absent m _ h.2 (by omega)
      · simp [cellAt]
    · split
      · rename_i ha
        subst ha
        split
        · rename_i hb
          rw [hb]
          exact absent m _ h.2 (by omega)
        · simp [cellAt]
      · rename_i h1 h2
        have : k ≠ a := by omega
        simp only [cellAt, this, if_false]
        exact ih _ h.2

theorem cellAt_cellWrite_ne {a x : Nat} (b : Byte) (hx : x ≠ a) (m : Memory) :
    cellAt x (cellWrite a b m) = cellAt x m := by
  induction m with
  | nil =>
    simp only [cellWrite]
    split
    · rfl
    · simp [cellAt, hx.symm]
  | cons c m ih =>
    obtain ⟨k, v⟩ := c
    simp only [cellWrite]
    split
    · split
      · rfl
      · simp [cellAt, hx.symm]
    · split
      · rename_i ha
        subst ha
        split <;> simp [cellAt, hx.symm]
      · simp only [cellAt, ih]

theorem cellsFrom_mono {lo lo' : Nat} (h : lo' ≤ lo) {m : Memory} (hm : cellsFrom lo m = true) :
    cellsFrom lo' m = true := by
  cases m with
  | nil => rfl
  | cons c m =>
    obtain ⟨k, v⟩ := c
    simp only [cellsFrom, Bool.and_eq_true, decide_eq_true_eq] at hm ⊢
    exact ⟨⟨⟨by omega, hm.1.1.2⟩, hm.1.2⟩, hm.2⟩

theorem cellsFrom_cellWrite {a : Nat} (b : Byte) (ha : a < 2 ^ 25) (m : Memory) :
    ∀ lo, lo ≤ a → cellsFrom lo m = true → cellsFrom lo (cellWrite a b m) = true := by
  induction m with
  | nil =>
    intro lo hlo _
    simp only [cellWrite]
    split
    · rfl
    · rename_i hb
      simp [cellsFrom, hlo, hb]
      omega
  | cons c m ih =>
    obtain ⟨k, v⟩ := c
    intro lo hlo h
    have h' := h
    simp only [cellsFrom, Bool.and_eq_true, decide_eq_true_eq, bne_iff_ne] at h
    simp only [cellWrite]
    split
    · rename_i hk
      split
      · exact h'
      · rename_i hb
        simp only [cellsFrom, Bool.and_eq_true, decide_eq_true_eq, bne_iff_ne]
        exact ⟨⟨⟨hlo, ha⟩, hb⟩, ⟨⟨by omega, h.1.1.2⟩, h.1.2⟩, h.2⟩
    · split
      · rename_i hk
        subst hk
        split
        · exact cellsFrom_mono (by omega) h.2
        · rename_i hb
          simp only [cellsFrom, Bool.and_eq_true, decide_eq_true_eq, bne_iff_ne]
          exact ⟨⟨⟨hlo, ha⟩, hb⟩, h.2⟩
      · simp only [cellsFrom, Bool.and_eq_true, decide_eq_true_eq, bne_iff_ne]
        exact ⟨h.1, ih _ (by omega) h.2⟩

theorem cellsFrom_filter (p : Host.Cell → Bool) (m : Memory) :
    ∀ lo, cellsFrom lo m = true → cellsFrom lo (m.filter p) = true := by
  induction m with
  | nil => intros; rfl
  | cons c m ih =>
    obtain ⟨k, v⟩ := c
    intro lo h
    have h' := h
    simp only [cellsFrom, Bool.and_eq_true, decide_eq_true_eq, bne_iff_ne] at h
    by_cases hp : p (k, v) = true
    · rw [List.filter_cons_of_pos hp]
      simp only [cellsFrom, Bool.and_eq_true, decide_eq_true_eq, bne_iff_ne]
      exact ⟨h.1, ih _ h.2⟩
    · rw [List.filter_cons_of_neg hp]
      exact ih _ (cellsFrom_mono (by omega) h.2)

/-- A byte reads back as it was written. -/
theorem Memory.read_write_same {m : Memory} (h : m.wf = true) (a : Addr) (b : Byte) :
    (m.write a b).read a = b := cellAt_cellWrite_same _ _ _ _ h

/-- A write leaves every other byte as it was. -/
theorem Memory.read_write_ne (m : Memory) {a x : Addr} (b : Byte) (h : x ≠ a) :
    (m.write a b).read x = m.read x :=
  cellAt_cellWrite_ne b (fun e => h (BitVec.eq_of_toNat_eq e)) m

/-- A write keeps the canonical form. -/
theorem Memory.wf_write {m : Memory} (h : m.wf = true) (a : Addr) (b : Byte) : (m.write a b).wf = true :=
  cellsFrom_cellWrite b a.isLt m 0 (Nat.zero_le _) h

/-- Restoring addresses keeps the canonical form. -/
theorem Memory.wf_restore {m : Memory} (h : m.wf = true) (test : Nat → Bool) :
    (m.restore test).wf = true := cellsFrom_filter _ m 0 h

/-- Restored addresses read as unlisted ones, the others as before. -/
theorem Memory.read_restore (m : Memory) (test : Nat → Bool) (a : Addr) :
    (m.restore test).read a = if test a.toNat then unlisted a.toNat else m.read a := by
  unfold Memory.restore Memory.read
  induction m with
  | nil => simp [cellAt]
  | cons c m ih =>
    obtain ⟨k, v⟩ := c
    by_cases hk : test k = true
    · rw [List.filter_cons_of_neg (by simp [hk]), ih]
      by_cases ha : k = a.toNat
      · subst ha; simp [hk]
      · simp [cellAt, ha]
    · rw [List.filter_cons_of_pos (by simp [hk])]
      by_cases ha : k = a.toNat
      · subst ha; simp [cellAt, hk]
      · simp only [cellAt, ha, if_false, ih]

/-- Writing bytes keeps the canonical form. -/
theorem Memory.wf_writeBytes (bs : List Byte) : ∀ {m : Memory} (a : Nat), m.wf = true →
    (m.writeBytes a bs).wf = true := by
  induction bs with
  | nil => intro m a h; exact h
  | cons b bs ih => intro m a h; exact ih (a + 1) (Memory.wf_write h _ b)

/-- Writing bytes leaves every byte outside them as it was. -/
theorem Memory.read_writeBytes_outside (bs : List Byte) : ∀ (m : Memory) (a : Nat) (x : Addr),
    (∀ i, i < bs.length → x ≠ BitVec.ofNat 25 (a + i)) → (m.writeBytes a bs).read x = m.read x := by
  induction bs with
  | nil => intros; rfl
  | cons b bs ih =>
    intro m a x h
    have h0 : x ≠ BitVec.ofNat 25 a := by simpa using h 0 (by simp)
    rw [Memory.writeBytes, ih, Memory.read_write_ne _ _ h0]
    intro i hi
    have := h (i + 1) (by simpa using hi)
    simpa [Nat.add_assoc, Nat.add_comm 1 i] using this

/-- The memory after reset is in its canonical form. -/
theorem Memory.wf_reset : State.reset.mem.wf = true := rfl

end Sys2Proof.Machine
end

