-- ==== Sys2Proof/Laws/Still.lean ====
section
/-! SUPPORT. The Page Exchange, the Page Stack, the Navigation Unit and the Slide Sequencer leave `still` as it is:
one lemma per operation. -/

namespace Sys2Proof.Machine

open Sys2Proof

section Still

variable (s : State)

/-! ## Folds -/

theorem still_foldl {α : Type} (f : State → α → State) (h : ∀ s a, still (f s a) = still s) (l : List α) :
    ∀ s, still (l.foldl f s) = still s := by
  induction l with
  | nil => intro s; rfl
  | cons a l ih => intro s; rw [List.foldl_cons, ih, h]

theorem still_getD {t : Option State} {s d : State} (h : ∀ u, t = some u → still u = still s)
    (hd : still d = still s) : still (t.getD d) = still s := by
  cases t with
  | none => exact hd
  | some u => exact h u rfl

/-! ## Single updates -/

@[simp] theorem still_setExch (v : Exchange) : still (s.setExch v) = still s := rfl
@[simp] theorem still_setStack (v : PageStack) : still (s.setStack v) = still s := rfl
@[simp] theorem still_setNav (v : Navigation) : still (s.setNav v) = still s := rfl
@[simp] theorem still_raiseRecompose : still (raiseRecompose s) = still s := rfl
@[simp] theorem still_setSlot (k : Fin 6) (v : Slot) : still (setSlot k v s) = still s := rfl
@[simp] theorem still_setEntries (es : List Entry) : still (setEntries es s) = still s := rfl

theorem still_setSeqr (q : Sequencer) (h : q.lists = s.seqr.lists) : still (s.setSeqr q) = still s := by
  simp [still, State.setSeqr, h]

@[simp] theorem still_setNoticeOverflow : still (setNoticeOverflow s) = still s := rfl

@[simp] theorem still_post (kind : NoticeKind) (owner : Option Owner) (page : Option (Fin 32)) (index code : Half)
    (detail : Word) (flag : Bool) : still (post kind owner page index code detail flag s) = still s := by
  unfold post
  split
  · rfl
  · exact still_setNoticeOverflow s

theorem still_setPageEntry (r : PageRef) (e : PageEntry) (h : pageFacts e = pageFacts (pageEntry r s)) :
    still (setPageEntry r e s) = still s := by
  have : (s.pages.set (pageIndex r) e).map pageFacts = s.pages.map pageFacts := by
    ext i hi
    by_cases hr : (pageIndex r).val = i
    · subst hr; simpa [pageEntry] using congrArg (fun x : PageEntry => x) h
    · simp [hr]
  simp [still, setPageEntry, State.setPages, this]

@[simp] theorem still_saved (r : PageRef) (b : Bool) :
    still (setPageEntry r { pageEntry r s with saved := b } s) = still s := still_setPageEntry s r _ rfl

@[simp] theorem still_slot (r : PageRef) (k : Option (Fin 6)) :
    still (setPageEntry r { pageEntry r s with slot := k } s) = still s := still_setPageEntry s r _ rfl

@[simp] theorem pageFacts_saved (e : PageEntry) (b : Bool) : pageFacts { e with saved := b } = pageFacts e := rfl

@[simp] theorem pageFacts_slot (e : PageEntry) (k : Option (Fin 6)) : pageFacts { e with slot := k } = pageFacts e := rfl

/-! ## Buttons -/

@[simp] theorem still_markDirty (k : Fin 6) :
    still (Machine.markDirty k s) = still s := by
  simp only [Machine.markDirty]
  (repeat' split) <;> simp

@[simp] theorem still_commitButtons (k : Fin 6) (sl : Slot) :
    still (Machine.commitButtons k sl s) = still s := by
  simp only [Machine.commitButtons]
  simp

@[simp] theorem still_becomeSelection (k : Fin 6) (c : Nat) :
    still (Machine.becomeSelection k c s) = still s := by
  simp only [Machine.becomeSelection]
  (repeat' split) <;> simp

@[simp] theorem still_applyDefault (k : Fin 6) :
    still (Machine.applyDefault k s) = still s := by
  simp only [Machine.applyDefault]
  (repeat' split) <;> simp

@[simp] theorem still_selectButton (k : Fin 6) (id : Byte) :
    still (Machine.selectButton k id s) = still s := by
  simp only [Machine.selectButton]
  (repeat' split) <;> simp

@[simp] theorem still_selectIfEnabled (k : Fin 6) (id : Byte) :
    still (Machine.selectIfEnabled k id s) = still s := by
  simp only [Machine.selectIfEnabled]
  (repeat' split) <;> simp

@[simp] theorem still_enableButton (k : Fin 6) (i : Nat) :
    still (Machine.enableButton k i s) = still s := by
  simp only [Machine.enableButton]
  (repeat' split) <;> simp

@[simp] theorem still_disableButton (k : Fin 6) (i : Nat) :
    still (Machine.disableButton k i s) = still s := by
  simp only [Machine.disableButton]
  (repeat' split) <;> simp

@[simp] theorem still_changeEnable (k : Fin 6) (i : Nat) (enable : Bool) :
    still (Machine.changeEnable k i enable s) = still s := by
  simp only [Machine.changeEnable]
  (repeat' split) <;> simp

@[simp] theorem still_cancelActivation (k : Fin 6) :
    still (Machine.cancelActivation k s) = still s := by
  simp only [Machine.cancelActivation]
  (repeat' split) <;> simp

@[simp] theorem still_activateButton (k : Fin 6) (i : Nat) :
    still (Machine.activateButton k i s) = still s := by
  simp only [Machine.activateButton]
  (repeat' split) <;> simp

/-! ## Page Exchange -/

@[simp] theorem still_startLoad (t : Transfer) :
    still (Machine.startLoad t s) = still s := by
  simp only [Machine.startLoad]
  simp

@[simp] theorem still_dropResidency (k : Fin 6) :
    still (Machine.dropResidency k s) = still s := by
  simp only [Machine.dropResidency]
  (repeat' split) <;> simp

@[simp] theorem still_startExchange (r : PageRef) (k : Fin 6) :
    still (Machine.startExchange r k s) = still s := by
  simp only [Machine.startExchange]
  (repeat' split) <;> simp

@[simp] theorem still_takeControllerRequest :
    still (Machine.takeControllerRequest s) = still s := by
  simp only [Machine.takeControllerRequest]
  (repeat' split) <;> simp

@[simp] theorem still_takeRequests (qs : List Request) : ∀ s, still (takeRequests qs s) = still s := by
  induction qs with
  | nil => intro s; simp [takeRequests]
  | cons q qs ih =>
    intro s
    simp only [takeRequests]
    (repeat' split) <;> simp [ih]

@[simp] theorem still_takeUp :
    still (Machine.takeUp s) = still s := by
  simp only [Machine.takeUp]
  (repeat' split) <;> simp

@[simp] theorem still_requestPage (w : Requester) (r : PageRef) :
    still (Machine.requestPage w r s) = still s := by
  simp only [Machine.requestPage]
  (repeat' split) <;> simp

@[simp] theorem still_withdrawRequest (w : Requester) (r : PageRef) :
    still (Machine.withdrawRequest w r s) = still s := by
  simp only [Machine.withdrawRequest]
  simp

@[simp] theorem still_dropHeld :
    still (Machine.dropHeld s) = still s := by
  simp only [Machine.dropHeld]
  simp

@[simp] theorem still_dropControllerRequest (test : PageRef → Bool) :
    still (Machine.dropControllerRequest test s) = still s := by
  simp only [Machine.dropControllerRequest]
  (repeat' split) <;> simp

@[simp] theorem still_leaveSave (t : Transfer) :
    still (Machine.leaveSave t s) = still s := by
  simp only [Machine.leaveSave]
  (repeat' split) <;> simp

@[simp] theorem still_abandonSave (test : PageRef → Bool) :
    still (Machine.abandonSave test s) = still s := by
  simp only [Machine.abandonSave]
  (repeat' split) <;> simp

@[simp] theorem still_exchangeRedefined (r : PageRef) :
    still (Machine.exchangeRedefined r s) = still s := by
  simp only [Machine.exchangeRedefined]
  (repeat' split) <;> simp

@[simp] theorem still_emptyResident (test : PageRef → Bool) (k : Fin 6) :
    still (Machine.emptyResident test s k) = still s := by
  simp only [Machine.emptyResident]
  (repeat' split) <;> simp

@[simp] theorem still_cancelIncoming (test : PageRef → Bool) :
    still (Machine.cancelIncoming test s) = still s := by
  simp only [Machine.cancelIncoming]
  (repeat' split) <;> simp

@[simp] theorem still_dropRequests (test : PageRef → Bool) :
    still (Machine.dropRequests test s) = still s := by
  simp only [Machine.dropRequests]
  simp

@[simp] theorem still_exchangeDrop (test : PageRef → Bool) :
    still (Machine.exchangeDrop test s) = still s := by
  unfold exchangeDrop
  rw [still_foldl _ (fun t k => still_emptyResident t test k)]
  simp

/-! ## Page Stack -/

@[simp] theorem still_pageNotice (kind : NoticeKind) (r : PageRef) (pos : Nat) (code : Half) :
    still (Machine.pageNotice kind r pos code s) = still s := by
  simp only [Machine.pageNotice]
  simp

@[simp] theorem still_cancelUnlessFocus (k : Fin 6) :
    still (Machine.cancelUnlessFocus s k) = still s := by
  simp only [Machine.cancelUnlessFocus]
  (repeat' split) <;> simp

@[simp] theorem still_tellNavigation :
    still (Machine.tellNavigation s) = still s := still_foldl _ (fun t k => still_cancelUnlessFocus t k) _ _

@[simp] theorem still_handOn :
    still (Machine.handOn s) = still s := by
  simp only [Machine.handOn]
  simp

@[simp] theorem still_insertEntry (i : Nat) (e : Entry) :
    still (Machine.insertEntry i e s) = still s := by
  simp only [Machine.insertEntry]
  simp

@[simp] theorem still_dropReturnSel (test : PageRef → Bool) :
    still (Machine.dropReturnSel test s) = still s := by
  simp only [Machine.dropReturnSel]
  simp

@[simp] theorem still_detachEntry (r : PageRef) (code : Option Half) :
    still (Machine.detachEntry r code s) = still s := by
  simp only [Machine.detachEntry]
  (repeat' split) <;> simp

@[simp] theorem still_removeEntry (r : PageRef) (code : Option Half) :
    still (Machine.removeEntry r code s) = still s := by
  simp only [Machine.removeEntry]
  (repeat' split) <;> simp

@[simp] theorem still_changeEntry (r : PageRef) (f : Entry → Entry) :
    still (Machine.changeEntry r f s) = still s := by
  simp only [Machine.changeEntry]
  simp

@[simp] theorem still_turnShown (r : PageRef) (code : Half) :
    still (Machine.turnShown r code s) = still s := by
  simp only [Machine.turnShown]
  simp

@[simp] theorem still_addEntering (r : PageRef) (i : Nat) :
    still (Machine.addEntering r i s) = still s := by
  simp only [Machine.addEntering]
  (repeat' split) <;> simp

theorem still_roomBy (cut : PageRef → State → State) (hc : ∀ r, still (cut r s) = still s) {t : State}
    (h : Machine.roomBy cut s = some t) : still t = still s := by
  unfold Machine.roomBy at h
  split at h
  · cases h; rfl
  · obtain ⟨e, -, rfl⟩ := Option.map_eq_some_iff.1 h
    exact hc e.page

theorem still_makeRoom {t : State} (h : Machine.makeRoom s = some t) : still t = still s :=
  still_roomBy s _ (fun r => still_removeEntry s r _) h

@[simp] theorem still_restoreEntry (r : PageRef) :
    still (Machine.restoreEntry r s) = still s := by
  simp only [Machine.restoreEntry]
  (repeat' split) <;> simp

theorem still_showEntry (r : PageRef) {t : State}
    (h : Machine.showEntry r s = some t) : still t = still s := by
  unfold Machine.showEntry at h
  split at h
  · obtain ⟨u, hu, rfl⟩ := Option.map_eq_some_iff.1 h
    simp [still_makeRoom s hu]
  · cases h; split <;> simp

@[simp] theorem still_startLeaving (r : PageRef) :
    still (Machine.startLeaving r s) = still s := by
  simp only [Machine.startLeaving]
  (repeat' split) <;> simp

@[simp] theorem still_hideBandEntries (o : Owner) :
    still (Machine.hideBandEntries o s) = still s := still_foldl _ (fun t r => still_startLeaving t r) _ _

@[simp] theorem still_replaceBy (acting : PageRef) (target : PageRef) :
    still (Machine.replaceBy acting target s) = still s := by
  simp only [Machine.replaceBy]
  split
  · split
    · simp
    · rename_i h; simp [still_makeRoom _ h]
  · split <;> simp

@[simp] theorem still_gotoPage (acting : PageRef) (target : PageRef) :
    still (Machine.gotoPage acting target s) = still s := by
  simp only [Machine.gotoPage]
  (repeat' split) <;> simp

@[simp] theorem still_setFrames (o : Owner) (fs : List Frame) :
    still (Machine.setFrames o fs s) = still s := by cases o <;> rfl

@[simp] theorem still_pushFrame (o : Owner) (f : Frame) :
    still (Machine.pushFrame o f s) = still s := by
  simp only [Machine.pushFrame]
  (repeat' split) <;> simp

theorem still_callPage (acting : PageRef) (target : PageRef) {t : State}
    (h : Machine.callPage acting target s = some t) : still t = still s := by
  simp only [Machine.callPage] at h
  split at h
  · cases h; rfl
  · split at h
    · obtain ⟨u, hu, rfl⟩ := Option.map_eq_some_iff.1 h
      simp [still_makeRoom s hu]
    · cases h; split <;> simp

theorem still_showCalling (r : PageRef) {t : State}
    (h : Machine.showCalling r s = some t) : still t = still s := by
  simp only [Machine.showCalling] at h
  split at h
  · exact still_showEntry s _ h
  · obtain ⟨u, hu, rfl⟩ := Option.map_eq_some_iff.1 h
    rw [still_addEntering]
    split <;> simp [still_makeRoom s hu]

@[simp] theorem still_giveReturnSel (r : PageRef) (b : Byte) :
    still (Machine.giveReturnSel r b s) = still s := by
  simp only [Machine.giveReturnSel]
  (repeat' split) <;> simp

@[simp] theorem still_returnFrom (acting : PageRef) :
    still (Machine.returnFrom acting s) = still s := by
  simp only [Machine.returnFrom]
  (repeat' split) <;> simp

@[simp] theorem still_removeBeforeSlide (r : PageRef) (code : Half) :
    still (Machine.removeBeforeSlide r code s) = still s := by
  simp only [Machine.removeBeforeSlide]
  split <;> simp

theorem still_slideRoom {t : State} (h : Machine.slideRoom s = some t) : still t = still s :=
  still_roomBy s _ (fun r => still_removeBeforeSlide s r _) h

@[simp] theorem still_insertSlide (i : Nat) (e : Entry) :
    still (Machine.insertSlide i e s) = still s := by
  simp only [Machine.insertSlide]
  simp

theorem still_addSlide (r : PageRef) {t : State}
    (h : Machine.addSlide r s = some t) : still t = still s := by
  obtain ⟨u, hu, rfl⟩ := Option.map_eq_some_iff.1 h
  simp [still_slideRoom s hu]

theorem still_addIncoming (current : PageRef) (r : PageRef) {t : State}
    (h : Machine.addIncoming current r s = some t) : still t = still s := by
  obtain ⟨u, hu, rfl⟩ := Option.map_eq_some_iff.1 h
  simp [still_slideRoom s hu]

@[simp] theorem still_endSlideTransition (outgoing : PageRef) (incoming : PageRef) :
    still (Machine.endSlideTransition outgoing incoming s) = still s := by
  simp only [Machine.endSlideTransition]
  split <;> simp

@[simp] theorem still_renewSlide (r : PageRef) :
    still (Machine.renewSlide r s) = still s := by
  simp only [Machine.renewSlide]
  simp

@[simp] theorem still_emptySlideBand (silent : Bool) :
    still (Machine.emptySlideBand silent s) = still s := still_foldl _ (fun t r => still_removeEntry t r _) _ _

@[simp] theorem still_examineEntry (r : PageRef) :
    still (Machine.examineEntry s r) = still s := by
  simp only [Machine.examineEntry]
  (repeat' split) <;> simp

@[simp] theorem still_stackField :
    still (Machine.stackField s) = still s := still_foldl _ (fun t r => still_examineEntry t r) _ _

@[simp] theorem still_stackLoaded (r : PageRef) :
    still (Machine.stackLoaded r s) = still s := by
  simp only [Machine.stackLoaded]
  (repeat' split) <;> simp

@[simp] theorem still_eraseStack (o : Owner) :
    still (Machine.eraseStack o s) = still s := by
  unfold eraseStack
  rw [still_foldl _ (fun t r => still_removeEntry t r _), still_setFrames]

/-! ## Slide Sequencer -/

theorem still_updateSeq {f : Sequencer → Sequencer} (h : ∀ q, (f q).lists = q.lists) :
    still (updateSeq f s) = still s := still_setSeqr s _ (h _)

@[simp] theorem still_seqNotice (kind : NoticeKind) (page : Option PageRef) (code : Half) :
    still (Machine.seqNotice kind page code s) = still s := by
  simp only [Machine.seqNotice]
  simp

@[simp] theorem still_wantPage (r : PageRef) :
    still (Machine.wantPage r s) = still s := by
  simp only [Machine.wantPage]
  (repeat' split) <;> simp [still_updateSeq]

@[simp] theorem still_wantNone :
    still (Machine.wantNone s) = still s := by
  simp only [Machine.wantNone]
  (repeat' split) <;> simp [still_updateSeq]

@[simp] theorem still_prefetch :
    still (Machine.prefetch s) = still s := by
  simp only [Machine.prefetch]
  (repeat' split) <;> simp

@[simp] theorem still_completeAdvance (code : Half) :
    still (Machine.completeAdvance code s) = still s := by
  simp only [Machine.completeAdvance]
  (repeat' split) <;> simp [still_updateSeq]

@[simp] theorem still_bringInFull (r : PageRef) :
    still (Machine.bringInFull r s) = still s := by
  unfold bringInFull
  split
  · rfl
  · rename_i h; simp [still_updateSeq, still_addSlide _ _ h]

@[simp] theorem still_cutTo (shown : PageRef) (r : PageRef) :
    still (Machine.cutTo shown r s) = still s := by
  simp only [Machine.cutTo]
  simp [still_updateSeq]

@[simp] theorem still_startTransition (shown : PageRef) (r : PageRef) (e : SlideEntry) :
    still (Machine.startTransition shown r e s) = still s := by
  unfold startTransition
  split
  · simp
  · split
    · simp
    · rename_i h; simp [still_updateSeq, still_addIncoming _ _ _ h]

@[simp] theorem still_tryBringIn :
    still (Machine.tryBringIn s) = still s := by
  simp only [Machine.tryBringIn]
  (repeat' split) <;> simp

@[simp] theorem still_moveTo (j : Nat) (back : Bool) :
    still (Machine.moveTo j back s) = still s := by
  simp only [Machine.moveTo]
  (repeat' split) <;> simp [still_updateSeq]

@[simp] theorem still_resetSeq :
    still (Machine.resetSeq s) = still s := still_setSeqr s _ rfl

@[simp] theorem still_stopShow (reason : Half) :
    still (Machine.stopShow reason s) = still s := by
  simp only [Machine.stopShow]
  simp

@[simp] theorem still_searchMove (back : Bool) :
    still (Machine.searchMove back s) = still s := by
  simp only [Machine.searchMove]
  (repeat' split) <;> simp [still_updateSeq]

@[simp] theorem still_endTransition :
    still (Machine.endTransition s) = still s := by
  simp only [Machine.endTransition]
  (repeat' split) <;> simp [still_updateSeq]

@[simp] theorem still_stepSettled (back : Bool) :
    still (Machine.stepSettled back s) = still s := by
  simp only [Machine.stepSettled]
  (repeat' split) <;> simp [still_updateSeq]

@[simp] theorem still_stepShow (back : Bool) :
    still (Machine.stepShow back s) = still s := by
  simp only [Machine.stepShow]
  (repeat' split) <;> simp

@[simp] theorem still_pauseShow :
    still (Machine.pauseShow s) = still s := by
  simp only [Machine.pauseShow]
  (repeat' split) <;> simp [still_updateSeq]

@[simp] theorem still_resumeShow :
    still (Machine.resumeShow s) = still s := by
  simp only [Machine.resumeShow]
  (repeat' split) <;> simp [still_updateSeq]

@[simp] theorem still_togglePause :
    still (Machine.togglePause s) = still s := by
  simp only [Machine.togglePause]
  (repeat' split) <;> simp [still_updateSeq]

@[simp] theorem still_slideOperation (op : Nat) :
    still (Machine.slideOperation op s) = still s := by
  simp only [Machine.slideOperation]
  (repeat' split) <;> simp

@[simp] theorem still_countSlideHold :
    still (Machine.countSlideHold s) = still s := by
  simp only [Machine.countSlideHold]
  (repeat' split) <;> simp [still_updateSeq]

@[simp] theorem still_waitField  :
    still (Machine.waitField s) = still s := by
  simp only [Machine.waitField]
  (repeat' split) <;> simp

@[simp] theorem still_sequencerField :
    still (Machine.sequencerField s) = still s := by
  simp only [Machine.sequencerField]
  (repeat' split) <;> simp [still_updateSeq]

@[simp] theorem still_sequencerLoaded (r : PageRef) :
    still (Machine.sequencerLoaded r s) = still s := by
  simp only [Machine.sequencerLoaded]
  (repeat' split) <;> simp

@[simp] theorem still_heldPageGone (p : PageRef) :
    still (Machine.heldPageGone p s) = still s := by
  simp only [Machine.heldPageGone]
  (repeat' split) <;> simp [still_updateSeq]

@[simp] theorem still_waitPageGone (p : PageRef) :
    still (Machine.waitPageGone p s) = still s := by
  simp only [Machine.waitPageGone]
  (repeat' split) <;> simp [still_updateSeq]

@[simp] theorem still_transPageGone (p : PageRef) :
    still (Machine.transPageGone p s) = still s := by
  simp only [Machine.transPageGone]
  (repeat' split) <;> simp [still_updateSeq]

@[simp] theorem still_slideGone (p : PageRef) :
    still (Machine.slideGone p s) = still s := by
  simp only [Machine.slideGone]
  (repeat' split) <;> simp

@[simp] theorem still_sequencerPageChanged (p : PageRef) :
    still (Machine.sequencerPageChanged p s) = still s := by
  simp only [Machine.sequencerPageChanged]
  (repeat' split) <;> simp

@[simp] theorem still_startShow (o : Owner) (list : Fin 2) (index : Nat) :
    still (Machine.startShow o list index s) = still s := by
  simp only [Machine.startShow]
  (repeat' split) <;> simp [still_updateSeq]

/-! ## Outcomes and activations -/

@[simp] theorem still_pageFaultNotice (a : Acting) (code : Half) (detail : Word) :
    still (Machine.pageFaultNotice a code detail s) = still s := by
  simp only [Machine.pageFaultNotice]
  simp

@[simp] theorem still_setVariable (v : Fin 16) (w : Word) :
    still (Machine.setVariable v w s) = still s := by
  simp only [Machine.setVariable]
  simp

@[simp] theorem still_runOutcome (a : Acting) (x : Action) :
    still (Machine.runOutcome a x s) = still s := by
  unfold runOutcome
  dsimp only
  (repeat' split) <;> try simp
  exact still_getD (fun u h => still_callPage s _ _ h) (by simp)

@[simp] theorem still_reportOutcome (a : Acting) (x : Action) (branch : Bool) (detail : Word) :
    still (Machine.reportOutcome a x branch detail s) = still s := by
  simp only [Machine.reportOutcome]
  (repeat' split) <;> simp

@[simp] theorem still_finishActivation (k : Fin 6) (i : Nat) :
    still (Machine.finishActivation k i s) = still s := by
  simp only [Machine.finishActivation]
  (repeat' split) <;> simp

@[simp] theorem still_completeActivation (k : Fin 6) :
    still (Machine.completeActivation k s) = still s := by
  simp only [Machine.completeActivation]
  (repeat' split) <;> simp

@[simp] theorem still_beginActivation (k : Fin 6) (i : Nat) :
    still (Machine.beginActivation k i s) = still s := by
  simp only [Machine.beginActivation]
  (repeat' split) <;> simp

@[simp] theorem still_countHold (k : Fin 6) :
    still (Machine.countHold s k) = still s := by
  simp only [Machine.countHold]
  (repeat' split) <;> simp

@[simp] theorem still_setTimer (k : Fin 6) (timer : Half) (mark : Bool) :
    still (Machine.setTimer k timer mark s) = still s := by
  simp only [Machine.setTimer]
  simp

@[simp] theorem still_expireTimeout (k : Fin 6) :
    still (Machine.expireTimeout k s) = still s := by
  simp only [Machine.expireTimeout]
  (repeat' split) <;> simp

@[simp] theorem still_countTimeout (k : Fin 6) :
    still (Machine.countTimeout s k) = still s := by
  simp only [Machine.countTimeout]
  (repeat' split) <;> simp

@[simp] theorem still_timeoutsField :
    still (Machine.timeoutsField s) = still s := by
  simp only [Machine.timeoutsField]
  (repeat' split) <;> simp

@[simp] theorem still_reloadTimeout (k : Fin 6) :
    still (Machine.reloadTimeout k s) = still s := by
  simp only [Machine.reloadTimeout]
  simp

/-! ## Keys -/

@[simp] theorem still_keyUnused (focus : Option PageRef) (k : Key) (reason : Word) :
    still (Machine.keyUnused focus k reason s) = still s := by
  simp only [Machine.keyUnused]
  simp

theorem still_slideKey (focus : Option PageRef) (allowed : Bool) (k : Key) (act : State → State)
    (h : ∀ t, still (act t) = still t) : still (slideKey focus allowed k act s) = still s := by
  unfold slideKey
  split <;> simp [h]

@[simp] theorem still_keyNoFocus (k : Key) :
    still (Machine.keyNoFocus k s) = still s := by
  simp only [Machine.keyNoFocus]
  (repeat' split) <;> simp [still_slideKey]

@[simp] theorem still_moveSelection (k : Fin 6) (d : PageDef) (dir : Direction) :
    still (Machine.moveSelection k d dir s) = still s := by
  simp only [Machine.moveSelection]
  (repeat' split) <;> simp

@[simp] theorem still_enterKey (r : PageRef) (k : Fin 6) :
    still (Machine.enterKey r k s) = still s := by
  simp only [Machine.enterKey]
  (repeat' split) <;> simp

@[simp] theorem still_backKey (r : PageRef) (d : PageDef) :
    still (Machine.backKey r d s) = still s := by
  simp only [Machine.backKey]
  (repeat' split) <;> simp

@[simp] theorem still_keyOnPage (r : PageRef) (k : Fin 6) (d : PageDef) (key : Key) :
    still (Machine.keyOnPage r k d key s) = still s := by
  simp only [Machine.keyOnPage]
  (repeat' split) <;> simp [still_slideKey]

@[simp] theorem still_deliverKey (key : Key) :
    still (Machine.deliverKey key s) = still s := by
  simp only [Machine.deliverKey]
  (repeat' split) <;> simp

@[simp] theorem still_deliverUpTo (n : Nat) : ∀ s, still (deliverUpTo n s) = still s := by
  induction n with
  | zero => intro s; rfl
  | succ n ih =>
    intro s
    simp only [deliverUpTo]
    (repeat' split) <;> simp [ih]

@[simp] theorem still_deliverKeys :
    still (Machine.deliverKeys s) = still s := by
  simp only [Machine.deliverKeys]
  simp

@[simp] theorem still_navigationField :
    still (Machine.navigationField s) = still s := by
  unfold navigationField
  rw [still_deliverKeys, still_timeoutsField, still_foldl _ (fun t k => still_countHold t k)]

/-! ## Load done -/

@[simp] theorem still_makeHeldEnable (k : Fin 6) (held : List (Byte × Bool)) (i : Nat) :
    still (Machine.makeHeldEnable k held s i) = still s := by
  simp only [Machine.makeHeldEnable]
  (repeat' split) <;> simp

@[simp] theorem still_makeHeldEnables (k : Fin 6) (held : List (Byte × Bool)) :
    still (Machine.makeHeldEnables k held s) = still s := still_foldl _ (fun t i => still_makeHeldEnable t k held i) _ _

@[simp] theorem still_makeReturnSel (k : Fin 6) (r : PageRef) :
    still (Machine.makeReturnSel k r s) = still s := by
  simp only [Machine.makeReturnSel]
  (repeat' split) <;> simp

@[simp] theorem still_makeHeldSelect (k : Fin 6) (held : Option Byte) :
    still (Machine.makeHeldSelect k held s) = still s := by
  simp only [Machine.makeHeldSelect]
  (repeat' split) <;> simp

@[simp] theorem still_loadDoneChanges (k : Fin 6) (r : PageRef) (asked : Bool) :
    still (Machine.loadDoneChanges k r asked s) = still s := by
  simp only [Machine.loadDoneChanges]
  (repeat' split) <;> simp

@[simp] theorem still_placeLoaded (k : Fin 6) (r : PageRef) :
    still (Machine.placeLoaded k r s) = still s := by
  simp only [Machine.placeLoaded]
  (repeat' split) <;> simp

@[simp] theorem still_finishLoad (k : Fin 6) (r : PageRef) :
    still (Machine.finishLoad k r s) = still s := by
  simp only [Machine.finishLoad]
  simp

@[simp] theorem still_completeLoad (k : Fin 6) :
    still (Machine.completeLoad k s) = still s := by
  simp only [Machine.completeLoad]
  (repeat' split) <;> simp

@[simp] theorem still_autoShowPage (r : PageRef) :
    still (Machine.autoShowPage r s) = still s := still_getD (fun u h => still_showEntry s _ h) (by simp)

@[simp] theorem still_stackRedefined (r : PageRef) (former : PageKind) :
    still (Machine.stackRedefined r former s) = still s := by
  simp only [Machine.stackRedefined]
  (repeat' split) <;> simp

end Still

end Sys2Proof.Machine
end

