-- ==== Sys2Proof/Tests/Slice0.lean ====
section
/-! SUPPORT. Tests: ill-formed commands are refused by the check, values from the manual's tables and worked
examples, and for every statement with hypotheses a state that meets them. -/

namespace Sys2Proof.Tests

-- One theorem at a time, so that few threads run.
set_option Elab.async false

open Sys2Proof Sys2Proof.Machine

/-! ## Ill-formed commands -/

theorem test_wf_field_order_repeats : (Instr.fieldStart [.cues, .cues]).wf = false := by decide

theorem test_wf_field_order : (Instr.fieldStart [.cues, .pageStack]).wf = true := by decide

theorem test_wf_edition_too_long : (Instr.edition .player (List.replicate 4097 0)).wf = false := by decide +kernel

theorem test_wf_time_too_long : (Instr.time .player (List.replicate 4097 0)).wf = false := by decide +kernel

theorem test_wf_palette_too_long : (Instr.palette .player (List.replicate 4097 0)).wf = false := by decide +kernel

theorem test_wf_palette_disc_fits : (Instr.palette .disc (List.replicate 4097 0)).wf = true := by decide +kernel

theorem test_wf_first_part_too_long :
    (Instr.objectFirstPart .player 0 true 0 1 1 0 (List.replicate 4085 0)).wf = false := by decide +kernel

theorem test_wf_part_too_long : (Instr.objectPart .player 0 true 1 (List.replicate 4093 0)).wf = false := by
  decide +kernel

theorem test_wf_part_fits : (Instr.objectPart .player 0 true 1 (List.replicate 4092 0)).wf = true := by decide +kernel

theorem test_wf_page_too_long : (Instr.page .player (List.replicate 4097 0)).wf = false := by decide +kernel

theorem test_wf_slidelist_too_long : (Instr.slidelist .player (List.replicate 4097 0)).wf = false := by decide +kernel

theorem test_wf_cue_too_long : (Instr.cue .player (List.replicate 4097 0)).wf = false := by decide +kernel

theorem test_wf_delete_too_long : (Instr.delete .player (List.replicate 4097 0)).wf = false := by decide +kernel

theorem test_wf_disc_too_long : laneFits .disc 65536 = false := by decide

theorem test_wf_seg_data_too_long : (Instr.segData (List.replicate 251 0)).wf = false := by decide +kernel

theorem test_wf_unknown_is_known : (Instr.unknownCommand [0x22, 0x00]).wf = false := by decide

theorem test_wf_unknown_is_read : (Instr.unknownCommand [0x01, 0x00]).wf = false := by decide

theorem test_wf_unknown_is_empty : (Instr.unknownCommand []).wf = false := by decide

theorem test_wf_unknown : (Instr.unknownCommand [0x99, 0x00]).wf = true := by decide

/-! ## States and pages -/

/-- The state a command leads to. -/
def after (c : Instr) (s : State) : State :=
  match exec c s with
  | .next t => t
  | .fault _ => s
  | .refused _ => s

/-- A CONFIGURED part in HD1080. -/
def conf : State :=
  ((State.reset.setLink { State.reset.link with configured := true }).setStream ⟨[], false⟩).setComp
    { State.reset.comp with format := some .hd1080 }

/-- The same while SETUP is in processing. -/
def busy : State := conf.setLink { conf.link with processing := some 0x06 }

/-- The same at a field number. -/
def atField (n : Nat) (s : State) : State := s.setDisp { s.disp with counter := BitVec.ofNat 32 n }

/-- An outcome NONE. -/
def idleAction : Action := ⟨.nothing, false, false, 0, 0, 0⟩

/-- A button without visuals, links, flags and outcomes. -/
def plainButton (id : Byte) : Button :=
  ⟨id, false, false, 0, 0, none, none, none, none, .absent, .absent, .absent, .absent, ⟨.always, 0, 8⟩, idleAction,
    idleAction⟩

/-- A menu page with these buttons and nothing else. -/
def menuOf (bs : List Button) : PageDef := ⟨.menu, 0, none, false, false, 0, 0, 3, 900, idleAction, idleAction, [], bs⟩

/-- A page of a kind is defined. -/
def define (r : PageRef) (kind : PageKind) (s : State) : State := setPageEntry r ⟨true, kind, 32, false, none⟩ s

/-- A page is READY in a slot with these button states and this selection. -/
def ready (k : Fin 6) (r : PageRef) (d : PageDef) (bs : List ButtonState) (sel : Option Byte) (s : State) : State :=
  setSlot k ⟨.ready, some r, false, some d, bs.map (fun b => ⟨b, 7⟩), sel, 0, d.timeout, d.timeout, false⟩
    (setPageEntry r ⟨true, d.kind, 32, false, some k⟩ s)

/-- An entry on top of the stack. -/
def push (r : PageRef) (st : EntryState) (start : Option Word) (s : State) : State :=
  setEntries (s.stack.entries ++ [⟨r, menuBand r.owner, st, start, 0, .plain⟩]) s

/-- Five entries of player menus in one state. -/
def fullStack (st : EntryState) : State :=
  push ⟨.player, 14⟩ st (some 0) (push ⟨.player, 13⟩ st (some 0) (push ⟨.player, 12⟩ st (some 0)
    (push ⟨.player, 11⟩ st (some 0) (push ⟨.player, 10⟩ st (some 0) (define ⟨.disc, 4⟩ .menu conf)))))

/-! ## The manual's values -/

/-- Section 1.9, step 8. -/
theorem test_first_fit : allocate 2025 [⟨157, 1868⟩, ⟨10282, 54966⟩] =
    some (⟨10282, 2025⟩, [⟨157, 1868⟩, ⟨12307, 52941⟩]) := by decide

/-- Section 1.9, step 9. -/
theorem test_release_joins : giveBack ⟨2025, 157⟩ [⟨157, 1868⟩, ⟨12307, 52941⟩] =
    [⟨157, 2025⟩, ⟨12307, 52941⟩] := by decide

/-- Section 1.9, step 2: 400 by 100 pixels need 157 granules. -/
theorem test_first_part_allocates :
    (after (.objectFirstPart .disc 2 false 0 400 100 0 []) conf).objs.free = [⟨157, 65091⟩] ∧
    (objEntry 2 (after (.objectFirstPart .disc 2 false 0 400 100 0 []) conf)).st = .loading := by decide +kernel

/-- Section 8.9: a level of 96 on an alpha of 192, then the pop-up at level 64. -/
theorem test_blend : effectiveAlpha 192 96 = 144 ∧
    blend 144 ⟨200, 90, 160, 192⟩ transparentBlack = ⟨120, 107, 146, 144⟩ ∧
    effectiveAlpha 128 64 = 64 ∧ blend 64 ⟨235, 128, 128, 128⟩ ⟨120, 107, 146, 144⟩ = ⟨149, 112, 141, 172⟩ := by
  decide

/-- Section 8.10: FADE_THROUGH over 25 and over 1 fields, CROSSFADE; the incoming level first. -/
theorem test_transition_levels : transitionLevels .fadeThrough 25 6 = (0, 64) ∧
    transitionLevels .fadeThrough 25 12 = (0, 0) ∧ transitionLevels .fadeThrough 25 19 = (68, 0) ∧
    transitionLevels .fadeThrough 1 0 = (0, 128) ∧ transitionLevels .fadeThrough 1 1 = (128, 0) ∧
    transitionLevels .crossfade 25 7 = (35, 93) := by decide

/-- Section 8.10: the boundary of a wipe. -/
theorem test_wipe : incomingColumns .wipeLeft 1920 25 7 = 537 ∧ incomingColumns .wipeLeft 720 25 7 = 201 ∧
    incomingColumns .wipeLeft 1920 25 25 = 1920 := by decide

/-- R119, R65: at its end a wipe draws the outgoing slide at none, a page with fade-out 0 is gone at once. -/
theorem test_levels_at_the_end : transitionLevels .wipeLeft 25 24 = (128, 128) ∧
    transitionLevels .wipeLeft 25 25 = (128, 0) ∧ leavingLevel 0 0 = 0 ∧ leavingLevel 8 8 = 0 := by decide

/-- Section 8.11: button 10's frames of 4 with a period of 3 from field 6,999. -/
theorem test_visual_frames : visualFrame ⟨31, 4, 3⟩ 6999 7001 = 0 ∧ visualFrame ⟨31, 4, 3⟩ 6999 7003 = 1 := by decide

/-- R132's table. -/
theorem test_time_table : hasReached 0x10 0xFFFFFFF0 = true ∧ hasReached 0x90000001 0x10000000 = false ∧
    inRange 0x10 0xFFFFFF00 0x100 = true ∧ inRange 0x200 0xFFFFFF00 0x100 = false ∧
    inRange 0x500 0x500 0x500 = true := by decide

/-- R96's example. -/
theorem test_button_tests : testResult ⟨.high, 3, 8⟩ 0x180 = true ∧ testResult ⟨.low, 3, 8⟩ 0x180 = false ∧
    testResult ⟨.zero, 3, 8⟩ 0x180 = false ∧ testResult ⟨.high, 3, 16⟩ 0x180 = false ∧
    testResult ⟨.notHigh, 3, 16⟩ 0x180 = true := by decide

/-- Section 11.5. -/
theorem test_notice_bytes :
    noticeBytes ⟨.actionReport, some .disc, some 4, 12, 0x0120, 0, true, 131077, 90000⟩ =
      [0x21, 0x04, 0x00, 0x0C, 0x01, 0x20, 0, 0, 0, 0, 0x00, 0x05, 0x00, 0x01, 0x5F, 0x90] := by decide

/-- Section 10.8: a key before SETUP. -/
theorem test_key_unconfigured : (after (.key 4) State.reset).link.reply = ⟨0x10, .notConfigured, [], false⟩ := by
  decide +kernel

/-- Section 10.8: SETUP stays in processing; the part is CONFIGURED at once. -/
theorem test_setup_in_processing : (after (.setup 3 1500) State.reset).link.configured = true ∧
    (after (.setup 3 1500) State.reset).link.processing = some 0x06 := by decide +kernel

/-- Section 10.8: a key while SETUP is in processing. -/
theorem test_key_dropped : (after (.key 1) busy).link.conds.linkOverrun = true ∧
    (after (.key 1) busy).nav.keys = [] ∧ attn (after (.key 1) busy) = true := by decide +kernel

/-- Section 10.8: READ_REPLY while SETUP is in processing. -/
theorem test_read_reply_pending : (after (.readReply 5) busy).link.wire.tail = [0x01, 0x06, 0x00] := by decide +kernel

/-- R175: a command frame carries 0x00 after the link byte, with its length byte and with every payload byte. -/
theorem test_command_wire : (after (.setVar 5 7) conf).link.wire.lengthByte = some 0 ∧
    (after (.setVar 5 7) conf).link.wire.tail = [0, 0, 0, 0, 0] := by decide +kernel

/-- Section 10.8: the key with no focus is answered OK and reported with reason NO_FOCUS. -/
theorem test_key_unused : (after (.key 1) conf).link.reply = ⟨0x10, .ok, [], false⟩ ∧
    (after (.key 1) conf).link.notices.map Notice.kind = [.keyUnused] ∧
    (after (.key 1) conf).link.notices.map Notice.detail = [0] := by decide +kernel

/-- Section 10.8: the notice has left the queue, LINK_OVERRUN still holds ATTN. -/
theorem test_attn_falls :
    attn (after (.clearConditions 0x08) (conf.setLink { conf.link with conds := ⟨false, false, false, true, false, false⟩ }))
      = false := by decide +kernel

/-- Disc page 12 of section 5.10. -/
def page12 : PageDef :=
  menuOf [{ plainButton 20 with right := .rel 1 },
    { plainButton 21 with right := .rel 1, up := .abs 22, initDisabled := true },
    { plainButton 22 with right := .rel 1, up := .abs 21, initDisabled := true },
    { plainButton 23 with right := .rel 1, up := .abs 22 },
    { plainButton 24 with right := .rel 1, autoActivate := true, onTrue := ⟨.setvar, false, false, 2, 7, 0⟩ }]

/-- Section 5.10 during field 30,000, 30,005 or 30,010, the selection at 20 or at 23. -/
def at12 (field : Nat) (first fourth : ButtonState) (sel : Byte) : State :=
  push ⟨.disc, 12⟩ .shown none
    (ready 2 ⟨.disc, 12⟩ page12 [first, .disabled, .disabled, fourth, .normal] (some sel) (atField field conf))

/-- RIGHT from 20 passes two DISABLED buttons. -/
theorem test_key_right : (slotAt 2 (after (.key 3) (at12 30000 .selected .normal 20))).selection = some 23 ∧
    (slotAt 2 (after (.key 3) (at12 30000 .selected .normal 20))).dirty = true := by decide +kernel

/-- UP from 23 ends at the eighth candidate. -/
theorem test_key_up_no_move : (slotAt 2 (after (.key 0) (at12 30005 .normal .selected 23))).selection = some 23 := by
  decide +kernel

/-- RIGHT from 23 activates 24, which has AUTO_ACTIVATE. -/
theorem test_auto_activate : (slotAt 2 (after (.key 3) (at12 30010 .normal .selected 23))).buttons[4]? =
    some ⟨.activated, 30010⟩ ∧ (slotAt 2 (after (.key 3) (at12 30010 .normal .selected 23))).hold = 3 := by
  decide +kernel

/-- Field start 30,013 of section 5.10: the hold reaches 0, variable 2 takes 7, the timeout counts to 899. -/
theorem test_activation_completes :
    let s := setSlot 2 { slotAt 2 (at12 30012 .normal .normal 24) with
      buttons := [⟨.normal, 7⟩, ⟨.disabled, 7⟩, ⟨.disabled, 7⟩, ⟨.normal, 7⟩, ⟨.activated, 30010⟩], hold := 1 }
      (at12 30012 .normal .normal 24)
    let t := after (.fieldStart [.navigation]) s
    (slotAt 2 t).buttons[4]? = some ⟨.selected, 30013⟩ ∧ t.nav.vars[2] = 7 ∧ (slotAt 2 t).timer = 899 := by
  decide +kernel

/-- Section 4.10, field start 6,010: player 6, ENTERING from 6,000 with fade-in 10, turns SHOWN. -/
theorem test_fade_in : (after (.fieldStart [.pageStack]) (atField 6009 (push ⟨.player, 6⟩ .entering (some 6000)
    ((ready 0 ⟨.player, 6⟩ (menuOf []) [] none conf).setMem
      (conf.mem.writeBytes (imageAddr ⟨.player, 6⟩) [6, 0, 0, 0xFF, 0, 10]))))).stack.entries.map Entry.st =
      [.shown] := by decide +kernel

/-- The same where no order is given, and where the event of the fade stands next in the queue. -/
def fadingIn : State := atField 6009 (push ⟨.player, 6⟩ .entering (some 6000)
    ((ready 0 ⟨.player, 6⟩ (menuOf []) [] none conf).setMem
      (conf.mem.writeBytes (imageAddr ⟨.player, 6⟩) [6, 0, 0, 0xFF, 0, 10])))

theorem test_field_start_is_whole : (after (.fieldStart []) fadingIn).stack.entries.map Entry.st = [.shown] ∧
    (after (.fieldStart []) fadingIn).due = [] := by decide +kernel

theorem test_fade_event :
    (after (.fieldStart []) (fadingIn.setPending [.fadeInEnd])).stack.entries.map Entry.st = [.entering] ∧
    (after .fadeInEnd ((after (.fieldStart []) (fadingIn.setPending [.fadeInEnd])).setPending [])).stack.entries.map
      Entry.st = [.shown] := by decide +kernel

/-- Section 4.10, field start 6,002: with five entries the oldest LEAVING one is cut. -/
theorem test_show_cuts : (after (.showPage 0 4 0) (fullStack .leaving)).stack.entries.length = 5 ∧
    (after (.showPage 0 4 0) (fullStack .leaving)).link.notices.map Notice.code = [1] := by decide +kernel

/-- R68: five entries and none LEAVING. -/
theorem test_show_stack_full :
    (after (.showPage 0 4 0) (fullStack .shown)).link.reply = ⟨0x11, .stackFull, [], false⟩ := by decide +kernel

/-- HIDE of a page whose fade-out is 0 removes it. -/
theorem test_hide : (after (.hidePage 1 10) (define ⟨.player, 10⟩ .menu (fullStack .shown))).stack.entries.length = 4 := by
  decide +kernel

/-- Two cues of section 7.6, at field start 50,001: the time reaches 90,000, slot 2 turns ARMED, slot 0 stays. -/
def twoCues (time : Word) (st2 : CueState) : State :=
  let c2 : CueRecord := ⟨false, ⟨.timeIn, 0, 90000, 180000⟩, ⟨.varEq, 5, 1, 0xFF⟩, ⟨.bringUp, true, false, 6, 0, 0x300⟩⟩
  let c0 : CueRecord := ⟨false, ⟨.timeAt, 0, 91500, 0⟩, ⟨.absent, 0, 0, 0⟩, ⟨.setvar, true, false, 6, 0x2A, 0x301⟩⟩
  setCueSlot 2 ⟨st2, some c2⟩ (setCueSlot 0 ⟨.watching, some c0⟩
    (conf.setCues ⟨time, true, 1500, conf.cues.slots⟩))

theorem test_cue_arms :
    (cueSlot 2 (after (.fieldStart []) (twoCues 88500 .watching))).st = .armed ∧
    (cueSlot 0 (after (.fieldStart []) (twoCues 88500 .watching))).st = .watching ∧
    (after (.fieldStart []) (twoCues 88500 .watching)).cues.time = 90000 := by decide +kernel

/-- Field start 50,002: disc cue 0 fires, variable 6 takes 0x2A, CUE_FIRED carries 0x0301. -/
theorem test_cue_fires :
    (after (.fieldStart []) (twoCues 90000 .armed)).nav.vars[6] = 0x2A ∧
    (cueSlot 0 (after (.fieldStart []) (twoCues 90000 .armed))).st = .fired ∧
    (after (.fieldStart []) (twoCues 90000 .armed)).link.notices.map Notice.code = [0x301] := by decide +kernel

/-- The TIME segment of section 7.6: 30,000 with DISCONTINUITY. -/
theorem test_time_discontinuity :
    (cueSlot 2 (after (.time .disc [0x00, 0x00, 0x75, 0x30, 0x01]) (twoCues 96000 .armed))).st = .watching ∧
    (after (.time .disc [0x00, 0x00, 0x75, 0x30, 0x01]) (twoCues 96000 .armed)).cues.time = 30000 := by decide +kernel

/-- Section 6.12's disc list 0 on three SLIDE pages, the first READY and shown. -/
def slideShow : State :=
  let s := define ⟨.disc, 22⟩ .slide (define ⟨.disc, 21⟩ .slide (define ⟨.disc, 20⟩ .slide conf))
  s.setSeqr { s.seqr with lists := s.seqr.lists.set 0 (some ⟨true,
    [⟨20, 150, .crossfade, 25⟩, ⟨21, 0, .crossfade, 25⟩, ⟨22, 100, .cut, 0⟩]⟩) }

/-- SLIDE_START: WAITING for disc 20, which is requested. -/
theorem test_slide_start : (after (.slideStart 0 0 0) slideShow).seqr.st = .waiting ∧
    (after (.slideStart 0 0 0) slideShow).seqr.wanted = some ⟨.disc, 20⟩ ∧
    (after (.slideStart 0 0 0) slideShow).exch.current = some ⟨⟨.disc, 20⟩, 0, .load, false⟩ := by decide +kernel

/-- The show in a state, with a counter. -/
def showing (st : SeqState) (index : Nat) (counter : Half) : State :=
  slideShow.setSeqr { slideShow.seqr with st := st, index := index, counter := counter, latch := 150 }

/-- SET_HOLD on a PAUSED show sets the latch mark; the counter stays. -/
theorem test_set_hold : (after (.setHold 50 0) (showing .paused 1 0)).seqr.latch = 50 ∧
    (after (.setHold 50 0) (showing .paused 1 0)).seqr.latchMark = true ∧
    (after (.setHold 50 0) (showing .paused 1 0)).seqr.counter = 0 := by decide +kernel

/-- Section 6.12, field start 10,153: the hold runs out and entry 1 is wanted. -/
theorem test_hold_run_out : (after (.fieldStart [.sequencer]) (showing .holding 0 1)).seqr.index = 1 ∧
    (after (.fieldStart [.sequencer]) (showing .holding 0 1)).seqr.wanted = some ⟨.disc, 21⟩ := by decide +kernel

/-- Section 9.6: the lane finds the marker and reads a PAGE header of 576 bytes. -/
theorem test_lane_marker : (after .discLaneByte ((conf.setStream ⟨[0x3C], false⟩).setRecv
    { conf.recv with disc := .hunt true })).recv.disc = .header [] := by decide +kernel

theorem test_header_served : (after .discLaneByte ((conf.setStream ⟨[0x40], false⟩).setRecv
    { conf.recv with disc := .header [0x12, 0x02] })).recv =
      ⟨.payload 0x12 576 576 [] none, .disc, 0⟩ := by decide +kernel

/-- A relay buffer that waits for 50 of 300 bytes. -/
def filling : State := conf.setRelay ⟨.filling, 0x11, 300, List.replicate 250 0⟩

/-- Section 9.6: SEG_DATA with 60 bytes where 50 are wanted, while the receiver serves the disc. -/
theorem test_seg_data_too_many :
    let s := filling.setRecv ⟨.payload 0x12 576 10 [] none, .disc, 0⟩
    (after (.segData (List.replicate 60 0)) s).link.reply = ⟨0x41, .badLength, [], false⟩ ∧
    (after (.segData (List.replicate 60 0)) s).relay.st = .complete ∧
    (after (.segData (List.replicate 60 0)) s).relay.data.length = 300 := by decide +kernel

/-- Section 9.6: a byte joins at count 3,071, and a byte is presented to a full FIFO. -/
theorem test_stream_hold :
    (after (.streamByte 0) (conf.setStream ⟨List.replicate 3071 0, false⟩)).stream.hold = true := by decide +kernel

theorem test_stream_overrun :
    (after (.streamByte 0) (conf.setStream ⟨List.replicate 4096 0, true⟩)).stream = ⟨[], false⟩ ∧
    (after (.streamByte 0) (conf.setStream ⟨List.replicate 4096 0, true⟩)).link.conds.streamOverrun = true := by
  decide +kernel

/-- Section 8.11: a field start that finds a pass DRAWING is late; a DONE pass is swapped in. -/
theorem test_late : (after (.fieldStart []) (conf.setComp { conf.comp with pass := .drawing })).link.conds.late = true := by
  decide +kernel

theorem test_swap : (after (.fieldStart []) (conf.setComp { conf.comp with pass := .done })).comp.front = .b := by
  decide +kernel

/-- R184: a soft reset answers RESET_DONE and leaves the part UNCONFIGURED. -/
theorem test_reset : (after .reset conf).link.reply = ⟨0x05, .resetDone, [], false⟩ ∧
    (after .reset conf).link.configured = false := by decide +kernel

/-- R173: the edition number. -/
theorem test_edition : (after (.edition .disc [0x12, 0x34]) conf).recv.edition = 0x1234 := by decide +kernel

/-- R24: one record into entry 17 of disc palette 2; the live copy stays. -/
theorem test_palette :
    let t := after (.palette .disc [2, 0, 1, 17, 200, 90, 160, 192]) conf
    t.pals[2].pending[17] = ⟨200, 90, 160, 192⟩ ∧ t.pals[2].live[17] = transparentBlack ∧ t.pals[2].changed = true := by
  decide +kernel

/-- R110: SET_VAR, and GET_VAR's answer data. -/
theorem test_set_var : (after (.setVar 5 0x12345678) conf).nav.vars[5] = 0x12345678 := by decide +kernel

theorem test_get_var : (after (.getVar 5) (after (.setVar 5 0x12345678) conf)).link.reply.data =
    [0x12, 0x34, 0x56, 0x78] := by decide +kernel

/-- A step takes the front of the queue. -/
theorem test_step_queue : (match step (conf.setPending [.timeRun, .nop]) with
    | .next t => t.cues.running && t.pending == [.nop]
    | .fault _ => false
    | .refused _ => false) = true := by decide +kernel

/-! ## Witnesses: for every statement with hypotheses, a state that meets them -/

/-- Two commands wait; none waits. -/
theorem witness_StepRunsFrontCommand :
    (conf.setPending [.nop, .timeRun]).pending = .nop :: [.timeRun] ∧ State.reset.pending = [] := ⟨rfl, rfl⟩

/-- An event of a field start stands next, or nothing is outstanding. -/
theorem witness_EveryCommandLeavesTheQueue :
    fieldWorkSound ((conf.setDue [.pageStack, .sequencer]).setPending [.fadeInEnd, .nop]) = true ∧
    fieldWorkSound (conf.setPending [.nop]) = true ∧ step conf = .next conf := ⟨by decide +kernel, by decide +kernel, rfl⟩

theorem witness_NopAndClearConditions : linkFree State.reset = true ∧ linkOpen conf = true := by decide +kernel

theorem witness_LinkTurnsCommandsAway :
    encodeFrame .timeRun = some [0x22, 0x00] ∧ busy.resetLow = false ∧ busy.link.processing.isSome = true ∧
    State.reset.link.processing = none ∧ State.reset.link.configured = false := by decide +kernel

/-- Frames that fail each of the three checks, at the shortest length; a frame of one byte that timed out. -/
theorem witness_BrokenFramesAreNotCarriedOut :
    isBadFrame [0x22] = true ∧ isBadFrame [0x99, 0x00] = true ∧ isBadFrame [0x22, 0x01, 0x00] = true ∧
    linkFree State.reset = true ∧ State.reset.resetLow = false := by decide +kernel

/-- A notice. -/
def oneNotice : Notice := ⟨.keyUnused, none, none, 0xFFFF, 1, 0, false, 5, 6⟩

theorem witness_ReadFramesAnswer :
    State.reset.resetLow = false ∧ (1 : Nat) ≠ 0 ∧ State.reset.link.notices = [] ∧
    (conf.setLink { conf.link with notices := [oneNotice] }).resetLow = false ∧
    (conf.setLink { conf.link with notices := [oneNotice] }).link.notices = oneNotice :: [] := by decide +kernel

theorem witness_ResetsGiveResetValues :
    linkFree conf = true ∧ (conf.setResetLow true).resetLow = true ∧ conf.resetLow = false := by decide +kernel

theorem witness_SetupConfiguresAndClears :
    linkFree State.reset = true ∧ format? 3 = some .hd1080 ∧ (1 : Half) ≠ 0 ∧ (4 ≤ (4 : Byte).toNat) ∧
    (0 < 1920 ∧ 1919 < 1920 ∧ 0 < 1080 ∧ 1079 < 1080) ∧ imageBase ≤ (BitVec.ofNat 25 imageBase).toNat ∧
    (busy.setComp { busy.comp with clearing := true }).comp.clearing = true ∧
    (busy.setComp { busy.comp with clearing := true }).link.processing = some 0x06 ∧
    (busy.setComp { busy.comp with clearing := true }).resetLow = false := by decide +kernel

theorem witness_SettingsAreWritten :
    linkOpen conf = true ∧ 2 ≤ (2 : Byte).toNat ∧ (15 : Byte).toNat < 16 ∧ 16 ≤ (16 : Byte).toNat := by decide +kernel

/-- The DISC lane decodes a part for object 5 with 10 bytes to come. -/
def inPart : State := conf.setRecv ⟨.payload 0x11 14 10 [] (some ⟨5, true⟩), .disc, 0⟩

theorem witness_StreamBytesJoinTheFifo :
    State.reset.link.configured = false ∧ conf.link.configured = true ∧ conf.stream.fifo.length < 4096 ∧
    (inPart.setStream ⟨List.replicate 4096 0, true⟩).stream.fifo.length = 4096 ∧
    (inPart.setStream ⟨List.replicate 4096 0, true⟩).recv.disc = .payload 0x11 14 10 [] (some ⟨5, true⟩) ∧
    (conf.setStream ⟨List.replicate 4096 0, true⟩).recv.disc = .hunt false ∧
    (conf.setStream ⟨List.replicate 4096 0, true⟩).resetLow = false := by decide +kernel

/-- A configured part with one byte in the FIFO and this parse state. -/
def lane (l : LaneState) : State := (conf.setStream ⟨[0x3C], false⟩).setRecv ⟨l, .player, 0⟩

theorem witness_DiscLaneTakesBytes :
    ((lane (.hunt true)).resetLow = false ∧ (lane (.hunt true)).stream.fifo = 0x3C :: []) ∧
    ((lane (.hunt true)).recv.disc = .hunt true ∧ (lane (.hunt true)).relay.st ≠ .complete) ∧
    ((lane (.header [0x12])).recv.disc = .header [0x12] ∧ [(0x12 : Byte)].length < 2) ∧
    ((lane (.header [0x12, 1, 0])).recv.disc = .header [0x12, 1, 0] ∧ 3 ≤ [(0x12 : Byte), 1, 0].length) ∧
    ((lane (.payload 0x12 36 2 [] none)).recv.disc = .payload 0x12 36 2 [] none ∧ (0x12 : Byte) ≠ 0x11) ∧
    ((lane (.payload 0x12 36 1 [] none)).recv.disc = .payload 0x12 36 1 [] none ∧
      (lane (.payload 0x12 36 1 [] none)).relay.st ≠ .complete) ∧
    ((lane (.skip 0x33 9 2 true)).recv.disc = .skip 0x33 9 2 true ∧
      (lane (.skip 0x33 9 1 true)).recv.disc = .skip 0x33 9 1 true) ∧
    ((lane (.header [0x10, 0])).recv.disc = .header [0x10, 0] ∧
      ((lane (.header [0x10, 0])).setRelay ⟨.complete, 0x10, 0, []⟩).relay.st = .complete) ∧
    ((lane (.payload 0x11 14 2 [] (some ⟨5, true⟩))).recv.disc = .payload 0x11 14 2 [] (some ⟨5, true⟩) ∧
      (lane (.payload 0x11 14 1 [] (some ⟨5, true⟩))).recv.disc = .payload 0x11 14 1 [] (some ⟨5, true⟩)) ∧
    ((lane (.payload 0x11 5 2 [0, 5, 0] none)).recv.disc = .payload 0x11 5 2 [0, 5, 0] none ∧
      (byteAt [0, 5, 0, 0x3C] 2).getLsbD 0 = false ∧ [(0 : Byte), 5, 0, 0x3C].length = 4) ∧
    ((byteAt [0, 5, 0x01] 2).getLsbD 0 = true ∧ [(0 : Byte), 5, 0x01].length = 3 ∧
      (byteAt [0, 5, 0x3D, 0, 0, 1, 0, 1, 0, 0, 0, 0x3C] 2).getLsbD 0 = true ∧
      [(0 : Byte), 5, 0x3D, 0, 0, 1, 0, 1, 0, 0, 0, 0x3C].length = 12) := by decide +kernel

/-- A configured part with this parse state, a complete relay buffer of kind PALETTE, and this lane served last. -/
def bothWait (l : LaneState) (o : Owner) : State :=
  (conf.setRecv ⟨l, o, 0⟩).setRelay ⟨.complete, 0x10, 8, [2, 0, 1, 17, 1, 2, 3, 4]⟩

theorem witness_LanesAreServedInTurn :
    receiverFree inPart = false ∧ inPart.resetLow = false ∧
    (receiverFree conf = true ∧ discPending conf = false ∧ conf.relay.st ≠ .complete) ∧
    (receiverFree (bothWait (.hunt false) .disc) = true ∧ discPending (bothWait (.hunt false) .disc) = false ∧
      (bothWait (.hunt false) .disc).relay.st = .complete) ∧
    (discPending (lane (.header [0x10, 0, 8])) = true ∧ (lane (.header [0x10, 0, 8])).relay.st ≠ .complete) ∧
    (discPending (bothWait (.header [0x10, 0, 8]) .disc) = true ∧
      (bothWait (.header [0x10, 0, 8]) .disc).relay.st = .complete ∧
      (bothWait (.header [0x10, 0, 8]) .disc).recv.lastServed = .disc) ∧
    (bothWait (.header [0x10, 0, 8]) .player).recv.lastServed = .player ∧
    (bothWait (.header [0x10, 0, 8]) .player).resetLow = false := by decide +kernel

/-- A header that is accepted, one of length 0, and every refusal, at the ends of the ranges; a PLAYER segment accepted
and one refused; a segment row that is handed over. -/
theorem witness_LanesAreServedInTurn_serving :
    (headerFault .disc (byteAt [0x12, 0x0F, 0xF0] 0) (halfAt [0x12, 0x0F, 0xF0] 1).toNat = none ∧
      (halfAt [0x12, 0x0F, 0xF0] 1).toNat = 4080) ∧
    headerFault .disc 0x12 32 = none ∧ headerFault .disc 0x14 0 = none ∧ headerFault .disc 0x33 0 = some 0x00 ∧
    headerFault .disc 0x12 31 = some 0x02 ∧ headerFault .disc 0x12 4081 = some 0x02 ∧
    headerFault .disc 0x11 3 = some 0x02 ∧ headerFault .player 0x01 2 = some 0x01 ∧
    (let s := bothWait (.hunt false) .disc
     s.relay.data.length = s.relay.len.toNat ∧ headerFault .player s.relay.kind s.relay.len.toNat = none) ∧
    (let s := conf.setRelay ⟨.complete, 0x02, 0, []⟩
     s.relay.data.length = s.relay.len.toNat ∧ headerFault .player s.relay.kind s.relay.len.toNat = some 0x01) ∧
    (segmentOf (.time .disc [0, 0, 0, 0, 1]) = some (.disc, 0x02, [0, 0, 0, 0, 1]) ∧ laneOpen conf = true ∧
      headerFault .disc 0x02 5 = none) := by decide +kernel

theorem witness_RelayBufferFills :
    linkOpen conf = true ∧ conf.relay.st = .empty ∧ linkOpen filling = true ∧ filling.relay.st ≠ .empty ∧
    4096 < (4097 : Half).toNat ∧ (4096 : Half).toNat ≤ 4096 ∧ conf.relay.st ≠ .filling ∧ filling.relay.st = .filling ∧
    filling.relay.data.length + (List.replicate 49 (0 : Byte)).length < filling.relay.len.toNat ∧
    filling.relay.data.length + (List.replicate 50 (0 : Byte)).length = filling.relay.len.toNat ∧
    filling.relay.data.length < filling.relay.len.toNat ∧
    filling.relay.len.toNat < filling.relay.data.length + (List.replicate 51 (0 : Byte)).length := by decide +kernel

theorem witness_HeadersAreJudged :
    (segmentOf (.edition .player []) = some (.player, 0x01, []) ∧ State.reset.link.configured = false ∧
      conf.resetLow = false ∧ conf.link.configured = true) ∧
    (segmentOf (.time .player []) = some (.player, 0x02, [])) ∧
    (segmentOf (.page .disc (List.replicate 31 0)) = some (.disc, 0x12, List.replicate 31 0) ∧
      (List.replicate 31 (0 : Byte)).length < 32 ∧ 4080 < (List.replicate 4081 (0 : Byte)).length) ∧
    (segmentOf (.palette .disc [0, 0]) = some (.disc, 0x10, [0, 0]) ∧
      segmentOf (.slidelist .disc [0, 0]) = some (.disc, 0x13, [0, 0])) := by decide +kernel

/-- A FIRED disc cue in slot 7, the last of the disc's, and another length of payload. -/
theorem witness_TimeSegmentSetsTime :
    laneOpen conf = true ∧ ([0, 0, 0, 0] : List Byte).length ≠ 5 ∧ ([0, 0, 0, 0, 1] : List Byte).length = 5 ∧
    (byteAt [0, 0, 0, 0, 1] 4).getLsbD 0 = true ∧ (7 : Fin 16).val < 8 ∧
    (cueSlot 7 (setCueSlot 7 ⟨.fired, none⟩ conf)).st = .fired := by decide +kernel

/-- PALETTE payloads for each clause: 0, 257 and 256 records, a wrong length, palette 8, palette 7. -/
theorem witness_PaletteSegmentWritesPending :
    laneOpen conf = true ∧ 3 ≤ ([7, 0, 0] : List Byte).length ∧ (halfAt [7, 0, 0] 1).toNat = 0 ∧
    256 < (halfAt [7, 1, 1] 1).toNat ∧ (halfAt [7, 1, 0] 1).toNat = 256 ∧
    ([7, 0, 1] : List Byte).length ≠ 3 + 5 * (halfAt [7, 0, 1] 1).toNat ∧
    (let p : List Byte := [8, 0, 1, 255, 1, 2, 3, 4]
     p.length = 3 + 5 * (halfAt p 1).toNat ∧ 8 ≤ (byteAt p 0).toNat) ∧
    (let p : List Byte := [7, 0, 1, 255, 1, 2, 3, 4]
     p.length = 3 + 5 * (halfAt p 1).toNat ∧ (byteAt p 0).toNat = (7 : Fin 8).val) := by decide +kernel

/-- A cue with id 7 that is always out of the range 0 to 1, and one with id 8; a list of one entry. -/
def cueBytes (id : Byte) : List Byte :=
  [id, 0, 3, 0, 0, 0, 0, 0, 0, 0, 0, 1, 0, 0, 0, 0, 0, 0, 0, 0, 0, 0, 0, 0, 0, 0, 0, 0, 0, 0, 0, 0]

def listBytes (id : Byte) : List Byte := [id, 1, 1, 20, 0, 150, 1, 25]

theorem witness_CueAndSlideListSegmentsDefine :
    laneOpen conf = true ∧ cueFault (cueBytes 7) = none ∧ (byteAt (cueBytes 7) 0).toNat = (7 : Fin 8).val ∧
    (cueFault (cueBytes 8)).isSome = true ∧
    3 ≤ (listBytes 1).length ∧ slideListFault (listBytes 1) = none ∧ (byteAt (listBytes 1) 0).toNat = (1 : Fin 2).val ∧
    (slideListFault (listBytes 2)).isSome = true ∧
    (conf.seqr.st = .stopped ∧ (showing .holding 0 1).seqr.st ≠ .stopped ∧
      (showing .holding 0 1).seqr.owner = .disc ∧ (showing .holding 0 1).seqr.list = 0 ∧
      slideListFault (listBytes 0) = none ∧ laneOpen (showing .holding 0 1) = true) := by decide +kernel

/-- The smallest page record, with id 31, and one with id 32. -/
def pageBytes (id : Byte) : List Byte := [id, 0, 0, 0xFF] ++ List.replicate 28 0

theorem witness_PageSegmentDefinesAPage :
    laneOpen conf = true ∧ 32 ≤ (pageBytes 31).length ∧ (pageBytes 31).length ≤ 4080 ∧
    pageFault .disc (pageBytes 31) = none ∧ (byteAt (pageBytes 31) 0).toNat = (31 : Fin 32).val ∧
    (pageFault .disc (pageBytes 32)).isSome = true ∧ conf.mem.wf = true := by decide +kernel

/-- An entry in decode, and one that is marked to skip. -/
def decoding : State :=
  setObjEntry 5 { objEntryReset with st := .loading, incoming := some ⟨⟨0, 1⟩, 4, 3, 0, 0, .idle⟩, expectSeq := 1 } conf

theorem witness_FirstPartStartsADecode :
    laneOpen conf = true ∧ objectIndex .disc (384 : Half).toNat = none ∧ objectIndex .disc (383 : Half).toNat = some 383 ∧
    (1 : Byte) ≠ 0 ∧ (1920 < (1921 : Half).toNat ∧ (1920 : Half).toNat ≤ 1920) ∧
    (1080 < (1081 : Half).toNat ∧ (1080 : Half).toNat ≤ 1080) ∧
    (objEntry 5 decoding).incoming = some ⟨⟨0, 1⟩, 4, 3, 0, 0, .idle⟩ ∧ laneOpen decoding = true ∧
    (objEntry 383 conf).incoming = none ∧
    allocate ((1920 * 1080 + 255) / 256) conf.objs.free = some (⟨0, 8100⟩, [⟨8100, 57148⟩]) ∧
    allocate 1 (conf.setObjs { conf.objs with free := [] }).objs.free = none := by decide +kernel

theorem witness_LaterPartsContinueOrFault :
    laneOpen decoding = true ∧ objectIndex .player (128 : Half).toNat = none ∧ objectIndex .disc (5 : Half).toNat = some 5 ∧
    (objEntry 5 decoding).incoming = some ⟨⟨0, 1⟩, 4, 3, 0, 0, .idle⟩ ∧ (1 : Byte) = (objEntry 5 decoding).expectSeq ∧
    (2 : Byte) ≠ (objEntry 5 decoding).expectSeq ∧
    ((objEntry 5 conf).incoming = none ∧ (objEntry 5 conf).skipping = false) ∧
    (objEntry 5 (setObjEntry 5 { objEntryReset with skipping := true } conf)).skipping = true := by decide +kernel

/-- DELETE of the highest id of each kind, and of one beyond. -/
theorem witness_DeleteRemovesTheItem :
    laneOpen conf = true ∧ (deleteFault .disc [0x12, 0, 32]).isSome = true ∧
    (deleteFault .disc [0x11, 1, 0x7F] = none ∧ objectIndex .disc (halfAt [0x11, 1, 0x7F] 1).toNat = some 383) ∧
    (deleteFault .disc [0x10, 0, 7] = none ∧ (halfAt [0x10, 0, 7] 1).toNat = (7 : Fin 8).val) ∧
    (deleteFault .disc [0x12, 0, 31] = none ∧ (halfAt [0x12, 0, 31] 1).toNat = (31 : Fin 32).val) ∧
    (deleteFault .disc [0x13, 0, 1] = none ∧ (halfAt [0x13, 0, 1] 1).toNat = (1 : Fin 2).val) ∧
    (deleteFault .disc [0x14, 0, 7] = none ∧ (halfAt [0x14, 0, 7] 1).toNat = (7 : Fin 8).val) := by decide +kernel

/-- A disc show runs below player page 6, which is READY in slot 0. -/
def showBelowMenu : State :=
  let s := define ⟨.disc, 20⟩ .slide (push ⟨.player, 6⟩ .shown (some 0) (ready 0 ⟨.player, 6⟩ (menuOf []) [] none conf))
  (setEntries (⟨⟨.disc, 20⟩, .slide, .shown, some 0, 0, .plain⟩ :: s.stack.entries) s).setSeqr
    { s.seqr with st := .holding, shown := some ⟨.disc, 20⟩ }

theorem witness_OwnerErasesClearOneOwner :
    laneOpen conf = true ∧ linkOpen conf = true ∧ ([1, 2] : List Byte).length = 2 ∧ ([1] : List Byte).length ≠ 2 ∧
    (laneOpen showBelowMenu = true ∧ slidesRunFor .disc showBelowMenu = true ∧
      slidesErased .disc showBelowMenu = [⟨.disc, 20⟩] ∧ outlives .disc showBelowMenu ⟨.player, 6⟩ = true ∧
      hasEntry ⟨.player, 6⟩ showBelowMenu = true ∧ readySlot ⟨.player, 6⟩ showBelowMenu = some 0 ∧
      (slotAt 0 showBelowMenu).page = some ⟨.player, 6⟩ ∧ showBelowMenu.exch.current = none) := by
  decide +kernel

/-- The exchange saves disc page 9 out of slot 5 for disc page 22. -/
def saving (cancelled : Bool) : State :=
  let s := ready 5 ⟨.disc, 9⟩ (menuOf [plainButton 40]) [.selected] (some 40) (define ⟨.disc, 22⟩ .menu conf)
  s.setExch { s.exch with current := some ⟨⟨.disc, 22⟩, 5, .save, cancelled⟩ }

theorem witness_SaveDoneRecordsTheVictim (c : Bool) :
    (saving c).resetLow = false ∧ (saving c).exch.current = some ⟨⟨.disc, 22⟩, 5, .save, c⟩ ∧
    (slotAt 5 (saving c)).page = some ⟨.disc, 9⟩ := by
  cases c <;> decide +kernel

/-- Disc page 9 is loading into slot 5. -/
def loading : State :=
  let s := setSlot 5 { slotReset with st := .loading, page := some ⟨.disc, 9⟩ } (define ⟨.disc, 9⟩ .menu conf)
  s.setExch { s.exch with current := some ⟨⟨.disc, 9⟩, 5, .load, false⟩ }

theorem witness_LoadDoneMakesThePageResident :
    loading.resetLow = false ∧ (slotAt 5 loading).st = .loading ∧ (slotAt 5 loading).page = some ⟨.disc, 9⟩ ∧
    loading.exch.current = some ⟨⟨.disc, 9⟩, 5, .load, false⟩ := by decide +kernel

/-- Disc page 9 with button 40 alone, and its save record. -/
def savedPage : State :=
  let m := conf.mem.writeBytes (imageAddr ⟨.disc, 9⟩)
    ([9, 0, 0, 0xFF] ++ List.replicate 27 0 ++ [1, 40] ++ List.replicate 48 0)
  (setPageEntry ⟨.disc, 9⟩ ⟨true, .menu, 81, true, none⟩ conf).setMem (m.writeBytes (saveAddr ⟨.disc, 9⟩) [40, 0, 0, 0])

/-- A working copy of that page, its button SELECTED. -/
def savedSlot : Slot :=
  { slotReset with
    defn := some (pageDefinition ⟨.disc, 9⟩ savedPage), buttons := [⟨.selected, 7⟩], selection := some 40 }

theorem witness_LoadDoneMakesThePageResident_record :
    savedSlot.defn = some (pageDefinition ⟨.disc, 9⟩ savedPage) ∧ savedPage.mem.wf = true ∧
    saveAddr ⟨.disc, 9⟩ + 16 ≤ 2 ^ 25 ∧ (pageDefinition ⟨.disc, 9⟩ savedPage).buttons.length = 1 ∧
    (pageEntry ⟨.disc, 9⟩ savedPage).saved = true ∧
    savedPage.mem.readBytes (saveAddr ⟨.disc, 9⟩) 16 = saveRecord savedSlot ++ List.replicate 12 0 ∧
    savedSlot.selection = some 40 ∧ (40 : Byte) ≠ 0xFF ∧ slotButton savedSlot 40 = some 0 ∧
    enabledAt savedSlot 0 = true := by decide +kernel

theorem witness_SlotChoiceFollowsThePasses : chooseSlot conf = some 0 ∧
    chooseSlot (conf.setExch { conf.exch with slots := Vector.replicate 6 { slotReset with st := .loading } }) = none := by
  decide +kernel

/-- Disc menu 4 is READY in slot 0 and SHOWN. -/
def menuShown : State :=
  push ⟨.disc, 4⟩ .shown (some 0) (ready 0 ⟨.disc, 4⟩ (menuOf [plainButton 10, plainButton 11]) [.selected, .normal]
    (some 10) conf)

theorem witness_ShowPutsThePageOnTheStack :
    pageArgument 0 4 = some ⟨.disc, 4⟩ ∧
    (linkOpen (define ⟨.disc, 4⟩ .menu conf) = true ∧ isMenuPage ⟨.disc, 4⟩ (define ⟨.disc, 4⟩ .menu conf) = true ∧
      entryOf ⟨.disc, 4⟩ (define ⟨.disc, 4⟩ .menu conf) = none ∧
      (define ⟨.disc, 4⟩ .menu conf).stack.entries.length < 5 ∧ (define ⟨.disc, 4⟩ .menu conf).nav.keys = [] ∧
      readySlot ⟨.disc, 4⟩ (define ⟨.disc, 4⟩ .menu conf) = none) ∧
    (linkOpen (fullStack .leaving) = true ∧ isMenuPage ⟨.disc, 4⟩ (fullStack .leaving) = true ∧
      entryOf ⟨.disc, 4⟩ (fullStack .leaving) = none ∧ 5 ≤ (fullStack .leaving).stack.entries.length ∧
      oldestLeaving (fullStack .leaving) = some ⟨⟨.player, 10⟩, .player, .leaving, some 0, 0, .plain⟩) ∧
    (linkOpen menuShown = true ∧ isMenuPage ⟨.disc, 4⟩ menuShown = true ∧
      entryOf ⟨.disc, 4⟩ menuShown = some ⟨⟨.disc, 4⟩, .disc, .shown, some 0, 0, .plain⟩) ∧
    entryOf ⟨.player, 12⟩ (fullStack .leaving) = some ⟨⟨.player, 12⟩, .player, .leaving, some 0, 0, .plain⟩ := by
  decide +kernel

theorem witness_ShowAndHideRefusals :
    linkOpen conf = true ∧ 1 < (2 : Byte).toNat ∧ 32 ≤ (32 : Byte).toNat ∧ pageArgument 1 31 = some ⟨.player, 31⟩ ∧
    (pageEntry ⟨.player, 31⟩ conf).defined = false ∧ isSlidePage ⟨.player, 31⟩ (define ⟨.player, 31⟩ .slide conf) = true ∧
    pageArgument 0 4 = some ⟨.disc, 4⟩ ∧ isMenuPage ⟨.disc, 4⟩ (fullStack .shown) = true ∧
    entryOf ⟨.disc, 4⟩ (fullStack .shown) = none ∧ 5 ≤ (fullStack .shown).stack.entries.length ∧
    (∀ e ∈ (fullStack .shown).stack.entries, e.st ≠ .leaving) ∧ linkOpen (fullStack .shown) = true := by decide +kernel

/-- Disc page 4 with fade-out 8 in one state. -/
def fading (st : EntryState) (start : Option Word) : State :=
  push ⟨.disc, 4⟩ st start ((ready 0 ⟨.disc, 4⟩ (menuOf []) [] none conf).setMem
    (conf.mem.writeBytes (imageAddr ⟨.disc, 4⟩) [4, 0, 0, 0xFF, 0, 12, 8]))

theorem witness_HideMakesEntriesLeave :
    (linkOpen menuShown = true ∧ pageArgument 0 4 = some ⟨.disc, 4⟩ ∧ isMenuPage ⟨.disc, 4⟩ menuShown = true) ∧
    1 < (2 : Byte).toNat ∧ decodeOwner 1 = some .player ∧ entryOf ⟨.disc, 5⟩ menuShown = none ∧
    entryOf ⟨.disc, 4⟩ (fading .leaving (some 0)) = some ⟨⟨.disc, 4⟩, .disc, .leaving, some 0, 0, .plain⟩ ∧
    entryOf ⟨.disc, 4⟩ (fading .entering none) = some ⟨⟨.disc, 4⟩, .disc, .entering, none, 0, .plain⟩ ∧
    entryOf ⟨.disc, 4⟩ (fading .shown (some 0)) = some ⟨⟨.disc, 4⟩, .disc, .shown, some 0, 0, .plain⟩ ∧
    (pageDefinition ⟨.disc, 4⟩ (fading .shown (some 0))).fadeOut = 8 ∧
    (pageDefinition ⟨.disc, 4⟩ menuShown).fadeOut = 0 := by decide +kernel

/-- A field start at which the blocks named have still to act. -/
def dueFor (b : FieldBlock) (s : State) : State := s.setDue [b]

theorem witness_FadesEndAtFieldStarts :
    (let s := dueFor .pageStack (atField 12 (fading .entering (some 0)))
     s.resetLow = false ∧ s.due.contains .pageStack = true ∧
     nextFade s = some ⟨⟨.disc, 4⟩, .disc, .entering, some 0, 0, .plain⟩ ∧
     entryOf ⟨.disc, 4⟩ s = some ⟨⟨.disc, 4⟩, .disc, .entering, some 0, 0, .plain⟩) ∧
    (let s := dueFor .pageStack (atField 8 (fading .leaving (some 0)))
     s.resetLow = false ∧ s.due.contains .pageStack = true ∧
     nextFade s = some ⟨⟨.disc, 4⟩, .disc, .leaving, some 0, 0, .plain⟩ ∧
     entryOf ⟨.disc, 4⟩ s = some ⟨⟨.disc, 4⟩, .disc, .leaving, some 0, 0, .plain⟩) := by decide +kernel

theorem witness_FocusIsTheTopmostMenuEntry :
    focusEntry menuShown = some ⟨⟨.disc, 4⟩, .disc, .shown, some 0, 0, .plain⟩ ∧ focusEntry conf = none := by
  decide +kernel

/-- A disc return stack with n frames of disc page 4. -/
def returns (n : Nat) (s : State) : State := setFrames .disc (List.replicate n ⟨4, some 10⟩) s

theorem witness_ReturnFramesArePushedAndPopped :
    (framesOf .disc (returns 7 conf)).length < 8 ∧
    (framesOf .disc (returns 8 conf) = List.replicate 7 ⟨4, some 10⟩ ++ [⟨4, some 10⟩] ∧
      (List.replicate 7 (⟨4, some 10⟩ : Frame)).length = 7) ∧
    (∀ f ∈ framesOf .disc (returns 2 conf), usableFrame ⟨.disc, 9⟩ (returns 2 conf) f = false) ∧
    (framesOf .disc (returns 1 menuShown) = [] ++ ⟨4, some 10⟩ :: [] ∧
      usableFrame ⟨.disc, 9⟩ (returns 1 menuShown) ⟨4, some 10⟩ = true) ∧
    (menuShown.stack.entries = [] ++ ⟨⟨.disc, 4⟩, .disc, .shown, some 0, 0, .plain⟩ :: [] ∧
      entryOf ⟨.disc, 9⟩ menuShown = none ∧ menuShown.stack.entries.length < 5 ∧
      (startLeaving ⟨.disc, 4⟩ menuShown).stack.entries.length < 5) ∧
    (let s := fullStack .leaving
     s.stack.entries = [] ++ ⟨⟨.player, 10⟩, .player, .leaving, some 0, 0, .plain⟩ :: s.stack.entries.drop 1 ∧
     5 ≤ (startLeaving ⟨.player, 10⟩ s).stack.entries.length ∧ 5 ≤ s.stack.entries.length ∧
     oldestLeaving (startLeaving ⟨.player, 10⟩ s) = some ⟨⟨.player, 10⟩, .player, .leaving, some 0, 0, .plain⟩ ∧
     entryOf ⟨.player, 9⟩ s = none ∧
     entryOf ⟨.player, 11⟩ s = some ⟨⟨.player, 11⟩, .player, .leaving, some 0, 0, .plain⟩) ∧
    (5 ≤ (fullStack .shown).stack.entries.length ∧ ∀ y ∈ (fullStack .shown).stack.entries, y.st ≠ .leaving) := by
  decide +kernel

theorem witness_KeysQueueAndAreDelivered :
    linkOpen conf = true ∧ 9 ≤ (9 : Byte).toNat ∧ key? 8 = some .pause ∧
    8 ≤ (conf.setNav { conf.nav with keys := List.replicate 8 .up }).nav.keys.length ∧
    (conf.setNav { conf.nav with keys := List.replicate 7 .up }).nav.keys.length < 8 ∧
    deliverable (push ⟨.disc, 4⟩ .entering none conf) = false ∧ linkOpen (push ⟨.disc, 4⟩ .entering none conf) = true ∧
    conf.nav.keys = [] ∧ deliverable (conf.setNav { conf.nav with keys := [.up] }) = true ∧
    focusEntry conf = none ∧ conf.seqr.st = .stopped := by decide +kernel

/-- A focus page that every key can be delivered to, with and without a selection and a BACK outcome. -/
theorem witness_KeysQueueAndAreDelivered_focus :
    focusEntry menuShown = some ⟨⟨.disc, 4⟩, .disc, .shown, some 0, 0, .plain⟩ ∧
    readySlot ⟨.disc, 4⟩ menuShown = some 0 ∧
    (slotAt 0 menuShown).defn = some (menuOf [plainButton 10, plainButton 11]) ∧
    selectionIndex (slotAt 0 menuShown) = some 0 ∧ hasEntry ⟨.disc, 4⟩ menuShown = true ∧
    ((slotAt 0 menuShown).page = some ⟨.disc, 4⟩ ∧ menuShown.exch.current = none ∧
      ∀ j, j ≠ 0 → (slotAt j menuShown).page ≠ some ⟨.disc, 4⟩) ∧
    neighbourWalk (menuOf [plainButton 10, plainButton 11]) (slotAt 0 menuShown) .up 0 = none ∧
    selectionIndex (slotAt 2 (at12 1 .normal .selected 23)) = some 3 ∧
    neighbourWalk page12 (slotAt 2 (at12 1 .normal .selected 23)) .right 3 = some 4 ∧
    page12.buttons[4]?.map Button.autoActivate = some true ∧
    selectionIndex { slotAt 0 menuShown with selection := none } = none := by decide +kernel

/-- Two links lead from button 20 over a DISABLED one. -/
theorem witness_NeighbourWalkFindsTheButton :
    neighbourWalk page12 (slotAt 2 (at12 1 .selected .normal 20)) .right 0 = some 3 ∧
    linkPath page12 .right 3 0 = some 3 ∧ enabledAt (slotAt 2 (at12 1 .selected .normal 20)) 3 = true := by
  decide +kernel

theorem witness_ButtonTestsReadTheirBits :
    (⟨.high, 3, 8⟩ : Test).width = 8 ∧ (⟨.zero, 0, 16⟩ : Test).width = 16 ∧ (⟨.low, 15, 32⟩ : Test).width = 32 := by
  decide

/-- The slot of disc menu 4 is sound. -/
theorem test_slot_sound : slotSound (slotAt 0 menuShown) := by
  refine ⟨by decide +kernel, by decide +kernel, ?_, ?_⟩
  · intro id h
    have h : some (10 : Byte) = some id := h
    cases h
    exact ⟨0, by decide +kernel⟩
  · intro i
    have h : selectionIndex (slotAt 0 menuShown) = some 0 := by decide +kernel
    have hb : (slotAt 0 menuShown).buttons = [⟨.selected, 7⟩, ⟨.normal, 7⟩] := by decide +kernel
    rw [h, hb]
    match i with
    | 0 => simp [isChosen]
    | 1 => simp [isChosen]
    | n + 2 => simp

theorem witness_SelectionRulesHold :
    slotSound (slotAt 0 menuShown) ∧ enabledAt (slotAt 0 menuShown) 1 = true ∧
    selectionIndex (slotAt 0 menuShown) ≠ some 1 ∧ defaultChoice (menuOf [plainButton 10]) [⟨.normal, 7⟩] = some 0 :=
  ⟨test_slot_sound, by decide +kernel, by decide +kernel, by decide⟩

theorem witness_SelectAndSetButton :
    linkOpen menuShown = true ∧ pageArgument 0 4 = some ⟨.disc, 4⟩ ∧ isMenuPage ⟨.disc, 4⟩ menuShown = true ∧
    64 ≤ (64 : Byte).toNat ∧ (63 : Byte).toNat < 64 ∧ readySlot ⟨.disc, 4⟩ menuShown = some 0 ∧
    slotButton (slotAt 0 menuShown) 63 = none ∧ slotButton (slotAt 0 menuShown) 11 = some 1 ∧
    (let s := define ⟨.disc, 4⟩ .menu conf
     linkOpen s = true ∧ isMenuPage ⟨.disc, 4⟩ s = true ∧ readySlot ⟨.disc, 4⟩ s = none ∧ s.exch.ctrlReq = none ∧
     (s.setExch { s.exch with ctrlReq := some ⟨.disc, 4⟩ }).exch.ctrlReq = some ⟨.disc, 4⟩ ∧
     (s.setExch { s.exch with ctrlReq := some ⟨.disc, 5⟩ }).exch.ctrlReq ≠ some ⟨.disc, 4⟩) := by decide +kernel

/-- A slot of two buttons with these states and this selection. -/
def twoButtons (a b : ButtonState) (sel : Option Byte) : State :=
  ready 0 ⟨.disc, 4⟩ (menuOf [plainButton 10, plainButton 11]) [a, b] sel conf

theorem witness_EnablingChangesButtonStates :
    (slotAt 0 (twoButtons .selected .disabled (some 10))).defn = some (menuOf [plainButton 10, plainButton 11]) ∧
    1 < (slotAt 0 (twoButtons .selected .disabled (some 10))).buttons.length ∧
    (enabledAt (slotAt 0 (twoButtons .selected .disabled (some 10))) 0 = true ∧
      selectionIndex (slotAt 0 (twoButtons .selected .disabled (some 10))) = some 0) ∧
    (enabledAt (slotAt 0 (twoButtons .selected .disabled (some 10))) 1 = false ∧
      (slotAt 0 (twoButtons .selected .disabled (some 10))).selection ≠ none) ∧
    (enabledAt (slotAt 0 (twoButtons .disabled .disabled none)) 1 = false ∧
      (slotAt 0 (twoButtons .disabled .disabled none)).selection = none) ∧
    (enabledAt (slotAt 0 menuShown) 1 = true ∧ selectionIndex (slotAt 0 menuShown) ≠ some 1) := by decide +kernel

theorem witness_TimeoutIsSetAndPageRead :
    linkOpen conf = true ∧ pageArgument 1 31 = some ⟨.player, 31⟩ ∧ (pageEntry ⟨.player, 31⟩ conf).defined = false ∧
    isSlidePage ⟨.player, 31⟩ (define ⟨.player, 31⟩ .slide conf) = true ∧
    ((pageEntry ⟨.player, 31⟩ (define ⟨.player, 31⟩ .menu conf)).defined = true ∧
      readySlot ⟨.player, 31⟩ (define ⟨.player, 31⟩ .menu conf) = none ∧
      isMenuPage ⟨.player, 31⟩ (define ⟨.player, 31⟩ .menu conf) = true) ∧
    (linkOpen menuShown = true ∧ pageArgument 0 4 = some ⟨.disc, 4⟩ ∧ readySlot ⟨.disc, 4⟩ menuShown = some 0 ∧
      (pageEntry ⟨.disc, 4⟩ menuShown).defined = true ∧ isMenuPage ⟨.disc, 4⟩ menuShown = true) := by decide +kernel

/-- Disc menu 4 with its first button ACTIVATED and this hold counter. -/
def activated (hold : Nat) : State :=
  setSlot 0 { slotAt 0 menuShown with buttons := [⟨.activated, 7⟩, ⟨.normal, 7⟩], hold := hold } menuShown

/-- Disc menu 4 with this timeout counter. -/
def waiting (timer : Half) : State := setSlot 0 { slotAt 0 menuShown with timer := timer } menuShown

/-- A slot whose first of two buttons is ACTIVATED is sound. -/
theorem test_activated_slot_sound : slotSound (slotAt 0 (activated 3)) := by
  refine ⟨by decide +kernel, by decide +kernel, ?_, ?_⟩
  · intro id h
    have h : some (10 : Byte) = some id := h
    cases h
    exact ⟨0, by decide +kernel⟩
  · intro i
    have h : selectionIndex (slotAt 0 (activated 3)) = some 0 := by decide +kernel
    have hb : (slotAt 0 (activated 3)).buttons = [⟨.activated, 7⟩, ⟨.normal, 7⟩] := by decide +kernel
    rw [h, hb]
    match i with
    | 0 => simp [isChosen]
    | 1 => simp [isChosen]
    | n + 2 => simp

theorem witness_KeysQueueAndAreDelivered_activation :
    slotSound (slotAt 0 (activated 3)) ∧
    (activatedIndex (slotAt 0 (activated 3)) = some 0 ∧ activatedIndex (slotAt 0 menuShown) = none ∧
      holdRunning (slotAt 0 (activated 3)) = true ∧ hasEntry ⟨.disc, 4⟩ (activated 3) = true ∧
      ((slotAt 0 (activated 3)).buttons.filter (fun b => b.st == .activated)).length ≤ 1 ∧
      (slotAt 0 (activated 3)).st = .ready ∧ enabledAt (slotAt 0 (activated 3)) 1 = true ∧
      selectionIndex (slotAt 0 (activated 3)) ≠ some 1 ∧ enabledAt (slotAt 0 (activated 3)) 0 = true ∧
      selectionIndex (slotAt 0 (activated 3)) = some 0) ∧
    (let s := push ⟨.disc, 5⟩ .leaving (some 0) (activated 3)
     hasEntry ⟨.disc, 5⟩ s = true ∧ (slotAt 0 (removeEntry ⟨.disc, 5⟩ none s)).st = .ready ∧
     holdRunning (slotAt 0 (removeEntry ⟨.disc, 5⟩ none s)) = true) :=
  ⟨test_activated_slot_sound, by decide +kernel, by decide +kernel⟩

/-- A dirty focus page with a running hold, five slots LOADING, and a page that waits for a slot. -/
def wantedSlot : State :=
  let s := setSlot 0 { slotAt 0 (activated 3) with dirty := true } (activated 3)
  s.setExch { s.exch with
    slots := (Vector.replicate 6 { slotReset with st := .loading }).set 0 (slotAt 0 s)
    queue := [⟨⟨.disc, 9⟩, true, false⟩] }

/-- R54 and R97: HIDE with fade-out 0 lets the exchange take the slot; the victim's hold is over. -/
theorem test_victim_is_not_activated :
    (slotAt 0 (after (.hidePage 0 4) wantedSlot)).st = .saving ∧
    (slotAt 0 (after (.hidePage 0 4) wantedSlot)).buttons[0]? = some ⟨.selected, 0⟩ ∧
    (slotAt 0 (after (.hidePage 0 4) wantedSlot)).hold = 0 := by decide +kernel

theorem witness_ActivationsAndTimeoutsRunOut :
    ((dueFor .navigation (activated 1)).resetLow = false ∧
      (dueFor .navigation (activated 1)).due.contains .navigation = true ∧
      holdDue (dueFor .navigation (activated 1)) 0 = true) ∧
    ((activated 0).resetLow = false ∧ (activated 0).due.contains .navigation = false ∧
      allSlots.find? (holdOver (activated 0)) = some 0) ∧
    ((dueFor .navigation (waiting 1)).due.contains .navigation = true ∧
      timeoutDue (dueFor .navigation (waiting 1)) = true ∧ (dueFor .navigation (waiting 1)).resetLow = false) ∧
    ((slotAt 0 menuShown).page = some ⟨.disc, 4⟩ ∧
      (slotAt 0 menuShown).defn = some (menuOf [plainButton 10, plainButton 11]) ∧
      (menuOf [plainButton 10, plainButton 11]).buttons[0]? = some (plainButton 10)) ∧
    (activatedIndex (slotAt 0 menuShown) = none ∧ activatedIndex (slotAt 0 (activated 2)) = some 0 ∧
      (slotAt 0 (activated 2)).buttons[0]? = some ⟨.activated, 7⟩ ∧ (slotAt 0 (activated 2)).st = .ready ∧
      (7 : Word) ≠ (activated 2).disp.counter ∧ (7 : Word) = (atField 7 (activated 2)).disp.counter) ∧
    (timerCounts 0 (waiting 2) = true ∧ (slotAt 0 (waiting 2)).mark = false ∧ 2 ≤ (slotAt 0 (waiting 2)).timer.toNat ∧
      (slotAt 0 (waiting 1)).timer = 1 ∧ (slotAt 0 (waiting 0)).timer = 0 ∧ timerCounts 1 (waiting 2) = false) := by
  decide +kernel

/-- Outcomes of player page 31: a target at each end of the range, one beyond, the variables 11 and 12, a show of its
owner and none. -/
theorem witness_ActivationsAndTimeoutsRunOut_outcomes :
    (let x : Action := ⟨.goto, false, true, 0xFFE1, 0, 0⟩
     ((0 : Fin 32).val : Int) = x.target.toInt + (31 : Fin 32).val ∧
     isMenuPage ⟨.player, 0⟩ (define ⟨.player, 0⟩ .menu conf) = true ∧ isMenuPage ⟨.player, 0⟩ conf = false) ∧
    (let x : Action := ⟨.call, false, false, 32, 0, 0⟩
     ∀ p : Fin 32, (p.val : Int) = (x.target.toNat : Int) → isMenuPage ⟨.player, p⟩ conf = false) ∧
    ((11 : Half).toNat = (11 : Fin 16).val ∧ (11 : Fin 16).val < 12 ∧ 12 ≤ (12 : Half).toNat) ∧
    ((showing .holding 0 1).seqr.st ≠ .stopped ∧ (showing .holding 0 1).seqr.owner = .disc ∧
      slideShow.seqr.st = .stopped) := by decide +kernel

/-- The show with a STOP_AT_END list. -/
def endingShow (index : Nat) : State :=
  let s := showing .holding index 1
  s.setSeqr { s.seqr with lists := s.seqr.lists.set 0 (some ⟨false,
    [⟨20, 150, .crossfade, 25⟩, ⟨21, 0, .crossfade, 25⟩, ⟨22, 100, .cut, 0⟩]⟩) }

theorem witness_SearchFindsTheFirstPlayable :
    (2 < (runningEntries (showing .holding 0 1)).length ∧ runningLoops (showing .holding 0 1) = true ∧
      playable (showing .holding 0 1) 2 = true) ∧
    (2 < (runningEntries (endingShow 2)).length ∧ runningLoops (endingShow 2) = false ∧
      playable (endingShow 2) 2 = true) := by decide +kernel

theorem witness_ShowsStartAndStop :
    linkOpen slideShow = true ∧ 1 < (2 : Byte).toNat ∧ 2 ≤ (2 : Byte).toNat ∧ decodeOwner 0 = some .disc ∧
    (0 : Byte).toNat = (0 : Fin 2).val ∧ slideList .disc 1 slideShow = none ∧ (1 : Byte).toNat = (1 : Fin 2).val ∧
    (slideList .disc 0 slideShow).map (fun l => l.entries.length) = some 3 ∧
    slideShow.seqr.st = .stopped ∧ isSlidePage ⟨.disc, 22⟩ slideShow = true ∧ readySlot ⟨.disc, 22⟩ slideShow = none ∧
    (showing .holding 0 1).seqr.st ≠ .stopped ∧ linkOpen (showing .holding 0 1) = true := by decide +kernel

theorem witness_HoldsPauseAndResume :
    linkOpen slideShow = true ∧ slideShow.seqr.st = .stopped ∧ (showing .ended 2 0).seqr.st = .ended ∧
    (showing .holding 0 1).seqr.st = .holding ∧ (showing .paused 0 1).seqr.st = .paused ∧
    (showing .waiting 0 0).seqr.st = .waiting ∧ (showing .transitioning 1 0).seqr.st = .transitioning ∧
    linkOpen (showing .transitioning 1 0) = true := by decide +kernel

/-- The show changes from disc page 20 to disc page 21 over 25 fields from 10,153. -/
def changing : State :=
  let s := atField 10178 (showing .transitioning 1 0)
  s.setSeqr { s.seqr with shown := some ⟨.disc, 20⟩, trans := some ⟨.crossfade, 25, 10153⟩ }

theorem witness_ShowsAdvance :
    (linkOpen slideShow = true ∧ (0x02 : Byte) ≠ 0x01 ∧ (0x02 : Byte) ≠ 0xFF ∧ slideShow.seqr.st = .stopped) ∧
    ((showing .ended 2 0).seqr.st = .ended ∧ (showing .holding 0 1).seqr.st = .holding ∧
      (showing .paused 0 1).seqr.st = .paused ∧ changing.seqr.st = .transitioning) ∧
    (let s := dueFor .sequencer (showing .holding 0 1)
     s.resetLow = false ∧ s.due.contains .sequencer = true ∧ s.seqr.holdFresh = false ∧ s.seqr.latch ≠ 0 ∧
     s.seqr.counter = 1) ∧
    (let s := dueFor .sequencer changing
     s.resetLow = false ∧ s.due.contains .sequencer = true ∧ s.seqr.trans = some ⟨.crossfade, 25, 10153⟩ ∧
     25 ≤ (s.disp.counter - 10153).toNat) ∧
    (changing.seqr.shown = some ⟨.disc, 20⟩ ∧
      (runningEntries changing)[changing.seqr.index]? = some ⟨21, 0, .crossfade, 25⟩) := by decide +kernel

/-- Disc page 20 stands in the SLIDE band over n player menus in a state. -/
def slideBelow (n : Nat) (st : EntryState) : State :=
  let s := showing .holding 1 1
  setEntries (⟨⟨.disc, 20⟩, .slide, .shown, some 0, 0, .plain⟩ ::
    (List.range n).map (fun i => ⟨⟨.player, Fin.ofNat 32 i⟩, .player, st, some 0, 0, .plain⟩)) s

theorem witness_ShowsAdvance_searches :
    (searchFrom false 0 (showing .holding 0 1) = .entry 1 ∧
      (runningEntries (showing .holding 0 1))[1]? = some ⟨21, 0, .crossfade, 25⟩ ∧
      readySlot ⟨.disc, 21⟩ (showing .holding 0 1) = none ∧
      readySlot ⟨.disc, 21⟩ (ready 0 ⟨.disc, 21⟩ (menuOf []) [] none (showing .holding 0 1)) ≠ none) ∧
    (searchFrom false 2 (endingShow 2) = .offEnd ∧ searchFrom true 0 (endingShow 0) = .offStart ∧
      (endingShow 2).seqr.shown = none) ∧
    searchFrom false 0 (define ⟨.disc, 20⟩ .menu (define ⟨.disc, 21⟩ .menu (define ⟨.disc, 22⟩ .menu
      (showing .holding 0 1)))) = .nothing ∧
    (pageAt 1 (showing .holding 0 1) = some ⟨.disc, 21⟩ ∧ (showing .holding 0 1).seqr.shown ≠ some ⟨.disc, 21⟩) := by
  decide +kernel

theorem witness_ShowsAdvance_transitions :
    (runningEntries (slideBelow 0 .shown))[1]? = some ⟨21, 0, .crossfade, 25⟩ ∧
    (slideBelow 0 .shown).stack.entries.length < 5 ∧ (slideBelow 3 .shown).stack.entries.length < 5 ∧
    entryOf ⟨.disc, 20⟩ (slideBelow 3 .shown) = some ⟨⟨.disc, 20⟩, .slide, .shown, some 0, 0, .plain⟩ ∧
    (slideBelow 3 .shown).stack.entries = [] ++ ⟨⟨.disc, 20⟩, .slide, .shown, some 0, 0, .plain⟩ ::
      (slideBelow 3 .shown).stack.entries.drop 1 ∧
    ((slideBelow 3 .shown).stack.entries.map Entry.page).Nodup ∧
    ((slideBelow 4 .shown).stack.entries.length = 5 ∧ ∀ y ∈ (slideBelow 4 .shown).stack.entries, y.st ≠ .leaving) ∧
    ((slideBelow 4 .leaving).stack.entries.length = 5 ∧
      oldestLeaving (slideBelow 4 .leaving) = some ⟨⟨.player, 0⟩, .player, .leaving, some 0, 0, .plain⟩) ∧
    entryOf ⟨.disc, 20⟩ (slideBelow 4 .leaving) = some ⟨⟨.disc, 20⟩, .slide, .shown, some 0, 0, .plain⟩ := by
  decide +kernel

/-- A cue in slot 15 in every state, with and without a level 2, its level 1 and its level 2 TRUE and FALSE. -/
def oneCue (st : CueState) (a b : CondKind) : State :=
  setCueSlot 15 ⟨st, some ⟨true, ⟨a, 0, 0, 1⟩, ⟨b, 0, 0, 1⟩, idleAction⟩⟩ conf

theorem witness_CueSlotsTakeOneStep :
    condTrue conf ⟨.timeIn, 0, 0, 1⟩ = true ∧ condTrue conf ⟨.timeOut, 0, 0, 1⟩ = false ∧
    (cueSlot 15 (oneCue .watching .timeIn .absent)).st = .watching ∧
    (cueSlot 15 (oneCue .armed .timeIn .timeIn)).st = .armed ∧
    (cueSlot 15 (oneCue .resting .timeIn .absent)).st = .resting ∧
    (cueSlot 15 (oneCue .fired .timeIn .absent)).st = .fired ∧
    (cueSlot 15 (oneCue .watching .timeIn .absent)).cue =
      some ⟨true, ⟨.timeIn, 0, 0, 1⟩, ⟨.absent, 0, 0, 1⟩, idleAction⟩ ∧
    idleAction.kind = .nothing ∧ idleAction.report = false ∧ (cueSlot 15 conf).cue = none ∧
    (conf.setDue [.cues]).due.contains .cues = true := by decide +kernel

/-- The target page of a cue, a MENU page with an entry and without, with room and without, READY and not, and none. -/
theorem witness_CueSlotsTakeOneStep_actions :
    (4 : Half).toNat % 32 = (4 : Fin 32).val ∧ isMenuPage ⟨.disc, 4⟩ conf = false ∧
    (let s := define ⟨.disc, 4⟩ .menu conf
     isMenuPage ⟨.disc, 4⟩ s = true ∧ entryOf ⟨.disc, 4⟩ s = none ∧ s.stack.entries.length < 5 ∧
     readySlot ⟨.disc, 4⟩ s = none) ∧
    (isMenuPage ⟨.disc, 4⟩ (fullStack .leaving) = true ∧ 5 ≤ (fullStack .leaving).stack.entries.length ∧
      entryOf ⟨.disc, 4⟩ (fullStack .leaving) = none ∧
      oldestLeaving (fullStack .leaving) = some ⟨⟨.player, 10⟩, .player, .leaving, some 0, 0, .plain⟩) ∧
    (isMenuPage ⟨.disc, 4⟩ (fullStack .shown) = true ∧ entryOf ⟨.disc, 4⟩ (fullStack .shown) = none ∧
      5 ≤ (fullStack .shown).stack.entries.length ∧ ∀ e ∈ (fullStack .shown).stack.entries, e.st ≠ .leaving) ∧
    (isMenuPage ⟨.disc, 4⟩ menuShown = true ∧ readySlot ⟨.disc, 4⟩ menuShown = some 0 ∧
      entryOf ⟨.disc, 4⟩ menuShown = some ⟨⟨.disc, 4⟩, .disc, .shown, some 0, 0, .plain⟩) ∧
    ((11 : Half).toNat = (11 : Fin 16).val ∧ 12 ≤ (12 : Half).toNat) ∧
    ((showing .holding 0 1).seqr.st ≠ .stopped ∧ (showing .holding 0 1).seqr.owner = .disc ∧
      conf.seqr.st = .stopped) := by decide +kernel

theorem witness_FieldStartCountsAndAdvances :
    conf.resetLow = false ∧ conf.due.contains .cues = false ∧ (twoCues 1 .watching).cues.running = true := by
  decide +kernel

theorem witness_PassesRunInTheBackPlane :
    (conf.setComp { conf.comp with pass := .drawing }).comp.pass = .drawing ∧
    (conf.setComp { conf.comp with pass := .done }).comp.pass = .done ∧
    (conf.comp.pass = .idle ∧ conf.comp.recompose = false ∧ conf.comp.animation = false) ∧
    (conf.link.configured = true ∧ conf.comp.format = some .hd1080 ∧ conf.comp.clearing = false ∧
      (raiseRecompose conf).comp.recompose = true ∧ (raiseRecompose conf).comp.pass = .idle) ∧
    (conf.resetLow = false ∧ planeBase (otherPlane conf.comp.front) + 8294400 ≤ (0x0FD2000 : Addr).toNat) ∧
    (conf.due = [] ∧ (conf.setDue [.composer]).due.contains .composer = true) ∧
    (let s := conf.setComp { conf.comp with pass := .drawing, snapshot := some ⟨.hd1080, [], none, []⟩ }
     s.comp.snapshot = some ⟨.hd1080, [], none, []⟩ ∧ s.comp.progress = ⟨0, []⟩ ∧ s.resetLow = false) ∧
    (conf.mem.wf = true ∧ ∀ i : Fin 2, heapBase + 256 * 3 + ((0 + 1) * 2 + (0 + i.val)) < 2 ^ 25) := by
  decide +kernel

theorem witness_LevelsAndAlphaStayInRange :
    1 ≤ 12 ∧ 12 ≤ 12 ∧ enteringLevel 12 6 = 64 ∧ leavingLevel 8 4 = 64 ∧ 255 ≤ 255 ∧ 128 ≤ 128 := by decide

theorem witness_BlendIsTheRoundedMean : (144 : Nat) ≤ 255 ∧ (0 : Nat) ≤ 255 ∧ (255 : Nat) ≤ 255 := by decide

/-- An allocation that splits, one that empties an extent, one that fails; a release that joins both sides. -/
theorem witness_HeapAllocatesAndReleases :
    (allocate 9 [⟨0, 8⟩] = none ∧ [(⟨0, 2⟩ : Region), ⟨10, 8⟩] = [⟨0, 2⟩] ++ ⟨10, 8⟩ :: [] ∧
      (∀ x ∈ [(⟨0, 2⟩ : Region)], x.count < 8) ∧ 8 ≤ (⟨10, 8⟩ : Region).count) ∧
    (let l : List Region := [⟨0, 2⟩, ⟨10, 8⟩]
     let r : Region := ⟨2, 8⟩
     l.Pairwise (fun x y => x.start + x.count < y.start) ∧
     (∀ e ∈ l, e.start + e.count ≤ r.start ∨ r.start + r.count ≤ e.start) ∧ 1 ≤ r.count ∧ (∀ e ∈ l, 1 ≤ e.count) ∧
     giveBack r l = [⟨0, 18⟩]) := by decide

/-- A frame with every payload byte at its highest value, and SEG_DATA at its two ends. -/
theorem witness_CommandFramesReadBack :
    (Instr.setTimeout 0xFF 0xFF 0xFFFF 0xFF).wf = true ∧
    encodeFrame (.setTimeout 0xFF 0xFF 0xFFFF 0xFF) = some [0x16, 5, 0xFF, 0xFF, 0xFF, 0xFF, 0xFF] ∧
    encodeFrame (.segData []) = some [0x41, 0] ∧ (Instr.segData (List.replicate 250 0)).wf = true ∧
    (encodeFrame (.segData (List.replicate 250 0))).isSome = true := by decide +kernel

/-- A literal, a run and an end of row stand before a decode whose region is the first granule. -/
theorem witness_DecodeWritesTheRegion :
    (objEntry 5 decoding).incoming = some ⟨⟨0, 1⟩, 4, 3, 0, 0, .idle⟩ ∧ decoding.mem.wf = true ∧
    (objEntry 5 decoding).expectBytes = 0 ∧
    (let s := setObjEntry 5 { objEntry 5 decoding with expectBytes := 9 } decoding
     (objEntry 5 s).expectBytes ≠ 0 ∧ s.mem.wf = true ∧
     ((feedBytes 5 [0x02, 7, 8, 0x81, 9, 0] s).mem.readBytes heapBase 5 = [7, 8, 9, 9, 0]) ∧
     (objEntry 5 (feedBytes 5 [0x02, 7] s)).incoming = some ⟨⟨0, 1⟩, 4, 3, 0, 1, .literal 1⟩ ∧
     (objEntry 5 (feedBytes 5 [0x81] s)).incoming = some ⟨⟨0, 1⟩, 4, 3, 0, 0, .run 0x81⟩ ∧
     (objEntry 5 (feedBytes 5 [0, 0, 0] s)).incoming = some ⟨⟨0, 1⟩, 4, 3, 3, 0, .idle⟩) := by decide +kernel

theorem witness_InteractiveCommandsKeepTheRest :
    isInteractive (.key 4) = true ∧ exec (.key 4) menuShown = .next (after (.key 4) menuShown) := ⟨rfl, rfl⟩

/-- Every invariant holds of a configured part, whose idle step answers a next state. -/
theorem witness_EveryStepKeepsTheMemoryCanonical :
    memorySound (saving false) = true ∧ step conf = .next conf := ⟨by decide +kernel, rfl⟩

theorem witness_EveryStepKeepsSizesAndHold : sizesSound conf = true ∧ holdSound conf = true ∧ step conf = .next conf :=
  ⟨by decide +kernel, by decide +kernel, rfl⟩

theorem witness_EveryStepKeepsTheCues :
    cuesSound (twoCues 88500 .armed) ∧ step (twoCues 88500 .armed) = .next (twoCues 88500 .armed) :=
  ⟨by unfold cuesSound; decide +kernel, rfl⟩

theorem witness_EveryStepKeepsTheShowInItsList :
    showSound (showing .holding 2 1) ∧ (showing .holding 2 1).seqr.st ≠ .stopped ∧
    step (showing .holding 2 1) = .next (showing .holding 2 1) :=
  ⟨fun _ => ⟨⟨true, [⟨20, 150, .crossfade, 25⟩, ⟨21, 0, .crossfade, 25⟩, ⟨22, 100, .cut, 0⟩]⟩, by decide +kernel,
    by decide +kernel⟩, by decide +kernel, rfl⟩

theorem witness_EveryStepKeepsDeferralToPasses : passSound conf ∧ step conf = .next conf :=
  ⟨fun _ => ⟨rfl, rfl⟩, rfl⟩

/-- Two requests wait behind the incoming page. -/
def queued : State :=
  conf.setExch { conf.exch with
    queue := [⟨⟨.disc, 4⟩, true, false⟩, ⟨⟨.disc, 5⟩, false, true⟩], current := some ⟨⟨.disc, 6⟩, 0, .load, false⟩ }

theorem witness_EveryStepKeepsTheExchangeQueue : queueSound queued ∧ step queued = .next queued := by
  refine ⟨⟨by decide, by decide, ?_⟩, rfl⟩
  intro t ht q hq
  have h : some (⟨⟨.disc, 6⟩, 0, .load, false⟩ : Transfer) = some t := ht
  cases h
  have h : q ∈ [(⟨⟨.disc, 4⟩, true, false⟩ : Request), ⟨⟨.disc, 5⟩, false, true⟩] := hq
  simp only [List.mem_cons, List.not_mem_nil, or_false] at h
  rcases h with rfl | rfl <;> decide

/-! ## Witnesses of the exchange, deletions and redefinitions -/

/-- A page defined before and one not, its kind changed and not, AUTO_SHOW set and clear; a stack with room, with five
entries of which one is LEAVING or none is, and with the page on it. -/
theorem witness_PageSegmentDefinesAPage_again :
    (laneOpen (define ⟨.disc, 31⟩ .slide conf) = true ∧
      (pageEntry ⟨.disc, 31⟩ (define ⟨.disc, 31⟩ .slide conf)).defined = true ∧
      (pageEntry ⟨.disc, 31⟩ (define ⟨.disc, 31⟩ .slide conf)).kind = .slide ∧ byteAt (pageBytes 31) 1 ≠ 1 ∧
      (pageEntry ⟨.disc, 31⟩ conf).defined = false) ∧
    (let p : List Byte := [31, 0, 0, 0xFF, 1] ++ List.replicate 27 0
     pageFault .disc p = none ∧ (byteAt p 4).getLsbD 0 = true ∧ (byteAt (pageBytes 31) 4).getLsbD 0 = false) ∧
    (entryOf ⟨.disc, 31⟩ conf = none ∧ conf.stack.entries.length < 5) ∧
    (entryOf ⟨.disc, 4⟩ (fullStack .leaving) = none ∧ 5 ≤ (fullStack .leaving).stack.entries.length ∧
      oldestLeaving (fullStack .leaving) = some ⟨⟨.player, 10⟩, .player, .leaving, some 0, 0, .plain⟩) ∧
    (entryOf ⟨.disc, 4⟩ (fullStack .shown) = none ∧ 5 ≤ (fullStack .shown).stack.entries.length ∧
      ∀ y ∈ (fullStack .shown).stack.entries, y.st ≠ .leaving) ∧
    entryOf ⟨.disc, 4⟩ menuShown = some ⟨⟨.disc, 4⟩, .disc, .shown, some 0, 0, .plain⟩ := by decide +kernel

/-- AUTO_SHOW with five entries and none LEAVING is reported (R68). -/
theorem test_auto_show_stack_full :
    let t := after (.page .disc ([31, 0, 0, 0xFF, 1] ++ List.replicate 27 0)) (fullStack .shown)
    t.link.notices.map Notice.kind = [.outcomeFault] ∧ t.link.notices.map Notice.code = [1] ∧
    t.stack.entries.length = 5 := by decide +kernel

/-- What a redefinition reaches in the exchange: a READY slot, none, an incoming page in both stages, a slot that loads,
a victim. -/
theorem witness_PageSegmentDefinesAPage_exchange :
    readySlot ⟨.disc, 4⟩ (takeUp menuShown) = some 0 ∧ readySlot ⟨.disc, 5⟩ (takeUp menuShown) = none ∧
    (let x : Transfer := ⟨⟨.disc, 22⟩, 5, .save, false⟩
     (saving false).exch.current = some x ∧ x.stage = .save ∧
     (slotAt x.slot (saving false)).page = some ⟨.disc, 9⟩ ∧
     ¬ (x.stage = .save ∧ (slotAt x.slot (saving false)).page = some ⟨.disc, 22⟩)) ∧
    (loading.exch.current = some ⟨⟨.disc, 9⟩, 5, .load, false⟩ ∧ (slotAt 5 loading).st = .loading ∧
      readySlot ⟨.disc, 9⟩ loading = none) := by decide +kernel

/-- An object in each state, a palette with a pass DRAWING and without, a page defined and not, a list that runs, one
that does not and one not defined, a cue IDLE and not. -/
theorem witness_DeleteRemovesTheItem_items :
    ((objEntry 5 decoding).st = .loading ∧ laneOpen decoding = true ∧
      (objEntry 5 (setObjEntry 5 { objEntryReset with st := .ready, current := some ⟨0, 1⟩ } conf)).st = .ready) ∧
    (conf.comp.pass ≠ .drawing ∧ (conf.setComp { conf.comp with pass := .drawing }).comp.pass = .drawing) ∧
    ((pageEntry ⟨.disc, 31⟩ conf).defined = false ∧ laneOpen menuShown = true ∧
      deleteFault .disc [0x12, 0, 4] = none ∧ (halfAt [0x12, 0, 4] 1).toNat = (4 : Fin 32).val ∧
      (pageEntry ⟨.disc, 4⟩ menuShown).defined = true) ∧
    (slideList .disc 1 conf = none ∧ slideList .disc 0 slideShow ≠ none ∧ slideShow.seqr.st = .stopped ∧
      slideList .disc 0 (showing .holding 0 1) ≠ none ∧ (showing .holding 0 1).seqr.st ≠ .stopped ∧
      (showing .holding 0 1).seqr.owner = .disc ∧ (showing .holding 0 1).seqr.list = 0 ∧
      deleteFault .disc [0x13, 0, 0] = none ∧ laneOpen (showing .holding 0 1) = true) ∧
    ((cueSlot 7 conf).st = .idle ∧ (cueSlot 7 (setCueSlot 7 ⟨.fired, none⟩ conf)).st = .fired) := by decide +kernel

/-- The rows of R60: the incoming page in both stages, the victim with and without the cancelled mark, another page, a
resident page. -/
theorem witness_DeleteRemovesTheItem_exchange :
    (conf.exch.current = none) ∧
    (loading.exch.current = some ⟨⟨.disc, 9⟩, 5, .load, false⟩) ∧
    (∀ c, (saving c).exch.current = some ⟨⟨.disc, 22⟩, 5, .save, c⟩ ∧
      (slotAt 5 (saving c)).page = some ⟨.disc, 9⟩ ∧ (⟨.disc, 22⟩ : PageRef) ≠ ⟨.disc, 9⟩) ∧
    ((slotAt 0 menuShown).page = some ⟨.disc, 4⟩ ∧ residentSlot ⟨.disc, 4⟩ menuShown = some 0 ∧
      menuShown.exch.current = none ∧ (slotAt 1 menuShown).page ≠ some ⟨.disc, 4⟩) ∧
    (entryOf ⟨.disc, 5⟩ menuShown = none ∧ positionOf ⟨.disc, 4⟩ menuShown = some 0 ∧
      entryOf ⟨.disc, 4⟩ menuShown = some ⟨⟨.disc, 4⟩, .disc, .shown, some 0, 0, .plain⟩) := by decide +kernel

/-- The running list names disc page 20, which is a SLIDE page no longer. -/
def gone (r : PageRef) (s : State) : State := setPageEntry r { pageEntry r s with defined := false } s

theorem witness_DeleteRemovesTheItem_show :
    (∀ s ∈ [showing .holding 0 1, showing .waiting 0 0, changing], ∀ i ∈ [(20 : Fin 32), 21],
      isSlidePage ⟨.disc, i⟩ (gone ⟨.disc, i⟩ s) = false ∧
      ∃ e ∈ runningEntries (gone ⟨.disc, i⟩ s), (⟨(gone ⟨.disc, i⟩ s).seqr.owner, e.page⟩ : PageRef) = ⟨.disc, i⟩) ∧
    ((showing .holding 0 1).seqr.st = .holding ∧ (showing .holding 0 1).seqr.shown ≠ some ⟨.disc, 20⟩ ∧
      (let s := gone ⟨.disc, 20⟩ (showing .holding 0 1)
       let t := s.setSeqr { s.seqr with shown := some ⟨.disc, 20⟩ }
       t.seqr.st = .holding ∧ t.seqr.shown = some ⟨.disc, 20⟩ ∧ isSlidePage ⟨.disc, 20⟩ t = false ∧
       ∃ e ∈ runningEntries t, (⟨t.seqr.owner, e.page⟩ : PageRef) = ⟨.disc, 20⟩)) ∧
    ((showing .waiting 0 0).seqr.st = .waiting ∧ pageAt 0 (showing .waiting 0 0) = some ⟨.disc, 20⟩) ∧
    (changing.seqr.st = .transitioning ∧ changing.seqr.shown = some ⟨.disc, 20⟩ ∧
      (⟨.disc, 20⟩ : PageRef) ≠ ⟨.disc, 21⟩ ∧ pageAt changing.seqr.index changing = some ⟨.disc, 21⟩) ∧
    positionOf ⟨.disc, 20⟩ (slideBelow 3 .shown) = some 0 := by decide +kernel

/-- DELETE of a page on the stack: the notice, the slot, the directory entry (R41, R60, R81). -/
theorem test_delete_page :
    let t := after (.delete .disc [0x12, 0, 4]) menuShown
    t.stack.entries = [] ∧ t.link.notices.map Notice.code = [3] ∧ slotAt 0 t = slotReset ∧
    (pageEntry ⟨.disc, 4⟩ t).slot = none := by decide +kernel

/-- An exchange of a page of the other owner in progress, with a request behind it. -/
theorem witness_OwnerErasesClearOneOwner_exchange :
    queueSound queued ∧
    (queued.exch.current = some ⟨⟨.disc, 6⟩, 0, .load, false⟩ ∧ (⟨.disc, 6⟩ : PageRef).owner ≠ .player ∧
      keptRequest .player queued ⟨⟨.disc, 4⟩, true, false⟩ = true ∧
      (⟨⟨.disc, 4⟩, true, false⟩ : Request) ∈ queued.exch.queue ∧ linkOpen queued = true) ∧
    (conf.comp.pass ≠ .drawing ∧ planeBase (otherPlane conf.comp.front) + 8294400 ≤ (0x0FD2000 : Addr).toNat ∧
      (0x07E8FFF : Addr).toNat < planeBase (otherPlane conf.comp.front)) ∧
    ((slotAt 0 showBelowMenu).st ≠ .empty ∧ residentSlot ⟨.player, 6⟩ showBelowMenu = some 0) :=
  ⟨witness_EveryStepKeepsTheExchangeQueue.1, by decide +kernel, by decide +kernel, by decide +kernel⟩

/-- A queue that waits for work: its head resident, its head not, no request but the controller's. -/
def idleWith (queue : List Request) (asked : Option PageRef) (s : State) : State :=
  s.setExch { s.exch with queue := queue, ctrlReq := asked }

theorem witness_SlotChoiceFollowsThePasses_work :
    queued.exch.current = some ⟨⟨.disc, 6⟩, 0, .load, false⟩ ∧
    (let s := idleWith [⟨⟨.disc, 4⟩, true, false⟩] none menuShown
     s.exch.current = none ∧ s.exch.queue = ⟨⟨.disc, 4⟩, true, false⟩ :: [] ∧ (pageEntry ⟨.disc, 4⟩ s).slot ≠ none) ∧
    (let s := idleWith [⟨⟨.disc, 5⟩, true, false⟩] none menuShown
     s.exch.current = none ∧ s.exch.queue = ⟨⟨.disc, 5⟩, true, false⟩ :: [] ∧ (pageEntry ⟨.disc, 5⟩ s).slot = none) ∧
    (let s := idleWith [] (some ⟨.disc, 4⟩) menuShown
     s.exch.queue = [] ∧ s.exch.ctrlReq = some ⟨.disc, 4⟩ ∧ (pageEntry ⟨.disc, 4⟩ s).slot ≠ none ∧
     (pageEntry ⟨.disc, 4⟩ (idleWith [] (some ⟨.disc, 4⟩) conf)).slot = none) ∧
    ((slotAt 1 menuShown).st = .empty ∧ (slotAt 0 menuShown).st = .ready ∧
      (slotAt 0 menuShown).page = some ⟨.disc, 4⟩ ∧ (slotAt 0 menuShown).dirty = false ∧
      (slotAt 0 (setSlot 0 { slotAt 0 menuShown with dirty := true } menuShown)).dirty = true) ∧
    ((pageEntry ⟨.disc, 4⟩ queued).slot = none ∧ (∃ q ∈ queued.exch.queue, q.page = ⟨.disc, 4⟩) ∧
      (¬ ∃ q ∈ queued.exch.queue, q.page = ⟨.disc, 6⟩) ∧ (pageEntry ⟨.disc, 6⟩ queued).slot = none ∧
      (¬ ∃ q ∈ queued.exch.queue, q.page = ⟨.disc, 7⟩) ∧ (⟨.disc, 6⟩ : PageRef) ≠ ⟨.disc, 7⟩ ∧
      ∀ q ∈ queued.exch.queue, (q.byStack || q.bySequencer) = true) := by decide +kernel

/-- No focus while a show runs. -/
theorem witness_KeysQueueAndAreDelivered_show :
    focusEntry (showing .holding 0 1) = none ∧ (showing .holding 0 1).seqr.st ≠ .stopped := by decide +kernel

/-- A button that is enabled, the selection itself, one that is DISABLED and one the page does not hold; a page without
an enabled button, with and without a selection. -/
theorem witness_SelectAndSetButton_choice :
    (let s := twoButtons .selected .normal (some 10)
     (slotAt 0 s).defn = some (menuOf [plainButton 10, plainButton 11]) ∧ (slotAt 0 s).page = some ⟨.disc, 4⟩ ∧
     slotButton (slotAt 0 s) 11 = some 1 ∧ enabledAt (slotAt 0 s) 1 = true ∧ selectionIndex (slotAt 0 s) ≠ some 1 ∧
     selectionIndex (slotAt 0 s) = some 0 ∧ slotButton (slotAt 0 s) 63 = none ∧
     defaultChoice (menuOf [plainButton 10, plainButton 11]) (slotAt 0 s).buttons = some 0) ∧
    enabledAt (slotAt 0 (twoButtons .selected .disabled (some 10))) 1 = false ∧
    (let s := twoButtons .disabled .disabled none
     defaultChoice (menuOf [plainButton 10, plainButton 11]) (slotAt 0 s).buttons = none ∧
     (slotAt 0 s).selection = none ∧ (slotAt 0 (twoButtons .disabled .disabled (some 10))).selection ≠ none) := by
  decide +kernel

/-- R101: a DISABLED button is named, and the default rule chooses. -/
theorem test_select_disabled :
    (slotAt 0 (selectButton 0 11 (twoButtons .normal .disabled none))).selection = some 10 := by decide +kernel

/-! ## Witnesses of notices, checks, levels and the snapshot -/

/-- An owner's notice; a decode that an overrun abandons and an entry without one. -/
theorem witness_StreamBytesJoinTheFifo_parts :
    ({ oneNotice with owner := some .player } : Notice).owner = some .player ∧
    (objEntry 5 conf).incoming = none ∧ (objEntry 5 decoding).incoming = some ⟨⟨0, 1⟩, 4, 3, 0, 0, .idle⟩ ∧
    objectIndex .disc (5 : Half).toNat = some 5 := by decide +kernel

/-- R13, R15: the entry is EMPTY and skips, and the notice carries the expected sequence number. -/
theorem test_overrun_part :
    (objEntry 5 (overrunPart 5 decoding)).st = .empty ∧ (objEntry 5 (overrunPart 5 decoding)).skipping = true ∧
    (overrunPart 5 decoding).link.notices.map (fun n => (n.kind, n.code, n.detail)) = [(.objectFault, 2, 1)] := by
  decide +kernel

/-- The last payload byte is the flags byte of a FIRST part that is too short, stands before the fixed fields are in,
and ends them, in a later part and in a FIRST part. -/
theorem witness_DiscLaneTakesBytes_ends :
    (lane (.payload 0x11 11 1 [0, 5] none)).recv.disc = .payload 0x11 11 1 [0, 5] none ∧
    ((byteAt [0, 5, 0x01] 2).getLsbD 0 = true ∧ [(0 : Byte), 5, 0x01].length = 3 ∧ 11 < 12) ∧
    ([(0 : Byte), 5].length < 4 ∧ ¬ [(0 : Byte), 5].length = 3) ∧
    ((byteAt [0, 5, 0, 0x3C] 2).getLsbD 0 = false ∧ [(0 : Byte), 5, 0, 0x3C].length = 4) ∧
    ((byteAt [0, 5, 3, 0, 0, 1, 0, 1, 0, 0, 0, 0x3C] 2).getLsbD 0 = true ∧
      [(0 : Byte), 5, 3, 0, 0, 1, 0, 1, 0, 0, 0, 0x3C].length = 12 ∧
      (lane (.payload 0x11 12 1 [0, 5, 3, 0, 0, 1, 0, 1, 0, 0, 0] none)).stream.fifo = 0x3C :: []) := by decide +kernel

/-- R12, R167: a later part without data that carries LAST completes a decode that lacks rows, which is INCOMPLETE. -/
theorem test_last_part_ends_with_its_fields :
    let s := ((decoding.setStream ⟨[1], false⟩).setRecv ⟨.payload 0x11 4 1 [0, 5, 2] none, .player, 0⟩)
    (after .discLaneByte s).recv.disc = .hunt false ∧ (objEntry 5 (after .discLaneByte s)).incoming = none ∧
    (after .discLaneByte s).link.notices.map Notice.kind = [.objectFault] := by decide +kernel

/-- Payloads of each length and count at the limits of the checks of CUE and SLIDELIST. -/
theorem witness_CueAndSlideListSegmentsDefine_checks :
    ((cueBytes 7).length = 32 ∧ (cueBytes 7 ++ [0]).length ≠ 32) ∧
    ((byteAt [0, 1, 0] 2).toNat = 0 ∧ 128 < (byteAt [0, 1, 129] 2).toNat ∧ (byteAt (listBytes 1) 2).toNat = 1 ∧
      (listBytes 1).length = 3 + 5 * 1 ∧ [(0 : Byte), 1, 128].length ≠ 3 + 5 * (byteAt [0, 1, 128] 2).toNat ∧
      (byteAt [0, 1, 128] 2).toNat ≤ 128) ∧
    (cueFault (cueBytes 8) = some (0x03, 0) ∧ slideListFault (listBytes 2) = some (0x03, 0)) := by decide +kernel

/-- Counts at and above their limits, a wrong length, a payload that passes and its first bad field. -/
theorem witness_PageSegmentDefinesAPage_checks :
    (let p (np nb : Byte) : List Byte := [4, 0, 0, 0xFF] ++ List.replicate 26 0 ++ [np, nb]
     33 ≤ (byteAt (p 33 0) 30).toNat ∧ (byteAt (p 32 25) 30).toNat ≤ 32 ∧ 25 ≤ (byteAt (p 32 25) 31).toNat ∧
     (byteAt (p 32 24) 31).toNat ≤ 24 ∧ (p 32 24).length ≠ 32 + 15 * 32 + 49 * 24 ∧
     (p 0 0).length = 32 + 15 * (byteAt (p 0 0) 30).toNat + 49 * (byteAt (p 0 0) 31).toNat) ∧
    pageFault .disc (pageBytes 32) = some (0x03, 0) ∧ pageFault .disc (pageBytes 31) = none := by decide +kernel

/-- A wrong length, a wrong kind, and each kind at the end of its range. -/
theorem witness_DeleteRemovesTheItem_checks :
    [(0x11 : Byte), 0].length ≠ 3 ∧ byteAt [0x15, 0, 0] 0 ∉ [(0x10 : Byte), 0x11, 0x12, 0x13, 0x14] ∧
    ((byteAt [0x11, 1, 0x7F] 0, 384) ∈ [((0x11 : Byte), 384), (0x10, 8), (0x12, 32), (0x13, 2), (0x14, 8)] ∧
      (halfAt [0x11, 1, 0x7F] 1).toNat = 383 ∧ (halfAt [0x11, 1, 0x80] 1).toNat = 384) ∧
    (deleteFault .disc [0x11, 1, 0x80] = some (0x03, 1) ∧ deleteFault .player [0x11, 0, 0x80] = some (0x03, 1) ∧
      deleteFault .player [0x11, 0, 0x7F] = none) := by decide +kernel

/-- A pinned slot, and one that is not. -/
theorem test_pinned : pinned 0 menuShown = true ∧ pinned 1 menuShown = false ∧
    pinned 5 (push ⟨.disc, 22⟩ .entering none (saving false)) = true ∧ pinned 5 (saving false) = false := by
  decide +kernel

/-- Entries whose changes are told, each with its position. -/
theorem witness_PageNotices :
    (entryOf ⟨.disc, 5⟩ menuShown = none ∧ 1 ≤ menuShown.stack.entries.length) ∧
    (let s := fading .leaving (some 0)
     positionOf ⟨.disc, 4⟩ s = some 0 ∧ entryOf ⟨.disc, 4⟩ s = some ⟨⟨.disc, 4⟩, .disc, .leaving, some 0, 0, .plain⟩) ∧
    (let s := fading .entering none
     positionOf ⟨.disc, 4⟩ s = some 0 ∧ entryOf ⟨.disc, 4⟩ s = some ⟨⟨.disc, 4⟩, .disc, .entering, none, 0, .plain⟩) ∧
    (positionOf ⟨.disc, 4⟩ (fading .shown (some 0)) = some 0 ∧
      (pageDefinition ⟨.disc, 4⟩ (fading .shown (some 0))).fadeOut ≠ 0) := by decide +kernel

/-- The corners of HD1080, while scanning and while not, and the first column beyond. -/
theorem witness_FieldStartCountsAndAdvances_scan :
    (let s := conf.setDisp { conf.disp with scanning := true }
     s.disp.scanning = true ∧ s.comp.format = some .hd1080 ∧ 1919 < (formatSize .hd1080).1 ∧
     1079 < (formatSize .hd1080).2 ∧ ¬ 1920 < (formatSize .hd1080).1) ∧
    conf.disp.scanning = false := by decide

/-- R163: the front plane's pixel at the last corner. -/
theorem test_scan_pixel :
    let s := (conf.setDisp { conf.disp with scanning := true }).setMem (conf.mem.writeBytes 0x07E8FFC [1, 2, 3, 4])
    scanPixel s 1919 1079 = ⟨1, 2, 3, 4⟩ ∧ scanPixel s 1920 1079 = transparentBlack := by decide +kernel

/-- R150: the snapshot holds the shown menu with its buttons' states. -/
theorem test_snapshot :
    ((composerField (raiseRecompose menuShown)).comp.snapshot.map fun sn =>
      sn.entries.map fun e => (e.page, e.buttons.map SnapButton.st)) =
      some [(⟨.disc, 4⟩, [.selected, .normal])] := by decide +kernel

/-- An entry as a snapshot holds it. -/
def drawn (band : Band) (st : EntryState) (role : Role) : SnapEntry :=
  ⟨⟨.disc, 4⟩, band, st, some 6000, role, 0, 12, 8, [], []⟩

/-- Entries in each state and slides in each role, outside a transition and inside one. -/
theorem witness_LevelsAndAlphaStayInRange_entries :
    ((drawn .disc .shown .plain).band ≠ .slide ∧ (drawn .disc .entering .plain).st = .entering ∧
      (drawn .disc .leaving .plain).st = .leaving ∧ (drawn .disc .leaving .plain).start = some 6000) ∧
    ((drawn .slide .shown .incoming).band = .slide ∧ (drawn .slide .shown .incoming).role = .incoming ∧
      (drawn .slide .shown .outgoing).role = .outgoing) ∧
    (let sn : Snapshot := ⟨.hd1080, [], some ⟨.fadeThrough, 25, 6000⟩, []⟩
     sn.trans = some ⟨.fadeThrough, 25, 6000⟩ ∧ 1 ≤ 25 ∧
     entryLevel sn 6019 (drawn .slide .shown .incoming) = (68, 1920) ∧
     entryLevel sn 6006 (drawn .slide .shown .outgoing) = (64, 1920) ∧
     entryLevel sn 6006 (drawn .disc .entering .plain) = (64, 1920)) := by decide +kernel

/-- A fade's event and the end of a save answer next states; a victim's save area is inside the memory. -/
theorem witness_InteractiveCommandsKeepTheRest_events :
    (let s := dueFor .pageStack (atField 12 (fading .entering (some 0)))
     exec .fadeInEnd s = .next (after .fadeInEnd s)) ∧
    exec .saveDone (saving false) = .next (after .saveDone (saving false)) ∧
    (saving false).exch.current = some ⟨⟨.disc, 22⟩, 5, .save, false⟩ ∧
    (slotAt 5 (saving false)).page = some ⟨.disc, 9⟩ := ⟨rfl, rfl, by decide +kernel, by decide +kernel⟩

end Sys2Proof.Tests
end

namespace Sys2Proof.Machine

open Sys2Proof

/-! ## What bears on the canonical memory and on passes (R1, R6, R144) -/

/-- The part of the state that the canonical form and the rule about passes speak of. -/
def gfx (s : State) : Memory × List Region × PassState × Option Snapshot :=
  (s.mem, s.objs.deferred, s.comp.pass, s.comp.snapshot)

@[simp] theorem gfx_setStream (s : State) (v : StreamPort) : gfx (s.setStream v) = gfx s := rfl
@[simp] theorem gfx_setRecv (s : State) (v : Receiver) : gfx (s.setRecv v) = gfx s := rfl
@[simp] theorem gfx_setRelay (s : State) (v : Relay) : gfx (s.setRelay v) = gfx s := rfl
@[simp] theorem gfx_setPals (s : State) (v : Vector Palette 16) : gfx (s.setPals v) = gfx s := rfl
@[simp] theorem gfx_setPages (s : State) (v : Vector PageEntry 64) : gfx (s.setPages v) = gfx s := rfl
@[simp] theorem gfx_setSeqr (s : State) (v : Sequencer) : gfx (s.setSeqr v) = gfx s := rfl
@[simp] theorem gfx_setCues (s : State) (v : CueUnit) : gfx (s.setCues v) = gfx s := rfl
@[simp] theorem gfx_setDisp (s : State) (v : Display) : gfx (s.setDisp v) = gfx s := rfl
@[simp] theorem gfx_setLink (s : State) (v : Link) : gfx (s.setLink v) = gfx s := rfl
@[simp] theorem gfx_setResetLow (s : State) (v : Bool) : gfx (s.setResetLow v) = gfx s := rfl
@[simp] theorem gfx_setDue (s : State) (v : List FieldBlock) : gfx (s.setDue v) = gfx s := rfl
@[simp] theorem gfx_setFresh (s : State) (v : Nat) : gfx (s.setFresh v) = gfx s := rfl
@[simp] theorem gfx_setPending (s : State) (v : List Instr) : gfx (s.setPending v) = gfx s := rfl
@[simp] theorem gfx_setPageEntry (r : PageRef) (e : PageEntry) (s : State) : gfx (setPageEntry r e s) = gfx s := rfl
@[simp] theorem gfx_setObjEntry (i : Fin 512) (e : ObjEntry) (s : State) : gfx (setObjEntry i e s) = gfx s := rfl
@[simp] theorem gfx_raiseRecompose (s : State) : gfx (raiseRecompose s) = gfx s := rfl
@[simp] theorem gfx_withConditions (f : Conditions → Conditions) (s : State) :
    gfx (withConditions f s) = gfx s := rfl

/-- What leaves `still` as it is leaves the graphics memory and the pass as they are. -/
theorem gfx_of_still {s t : State} (h : still t = still s) : gfx t = gfx s := by
  have h' : gfx (still t) = gfx (still s) := congrArg gfx h
  exact h'

@[simp] theorem gfx_post (kind : NoticeKind) (owner : Option Owner) (page : Option (Fin 32)) (index code : Half)
    (detail : Word) (flag : Bool) (s : State) : gfx (post kind owner page index code detail flag s) = gfx s :=
  gfx_of_still (still_post ..)
@[simp] theorem gfx_deliverKeys (s : State) : gfx (deliverKeys s) = gfx s := gfx_of_still (still_deliverKeys s)
@[simp] theorem gfx_takeUp (s : State) : gfx (takeUp s) = gfx s := gfx_of_still (still_takeUp s)
@[simp] theorem gfx_handOn (s : State) : gfx (handOn s) = gfx s := gfx_of_still (still_handOn s)
@[simp] theorem gfx_leaveSave (t : Transfer) (s : State) : gfx (leaveSave t s) = gfx s :=
  gfx_of_still (still_leaveSave ..)
@[simp] theorem gfx_dropReturnSel (test : PageRef → Bool) (s : State) : gfx (dropReturnSel test s) = gfx s :=
  gfx_of_still (still_dropReturnSel ..)
@[simp] theorem gfx_exchangeDrop (test : PageRef → Bool) (s : State) : gfx (exchangeDrop test s) = gfx s :=
  gfx_of_still (still_exchangeDrop ..)
@[simp] theorem gfx_exchangeRedefined (r : PageRef) (s : State) : gfx (exchangeRedefined r s) = gfx s :=
  gfx_of_still (still_exchangeRedefined ..)
@[simp] theorem gfx_stackRedefined (r : PageRef) (former : PageKind) (s : State) :
    gfx (stackRedefined r former s) = gfx s := gfx_of_still (still_stackRedefined ..)
@[simp] theorem gfx_autoShowPage (r : PageRef) (s : State) : gfx (autoShowPage r s) = gfx s :=
  gfx_of_still (still_autoShowPage ..)
@[simp] theorem gfx_removeEntry (r : PageRef) (code : Option Half) (s : State) :
    gfx (removeEntry r code s) = gfx s := gfx_of_still (still_removeEntry ..)
@[simp] theorem gfx_sequencerPageChanged (r : PageRef) (s : State) : gfx (sequencerPageChanged r s) = gfx s :=
  gfx_of_still (still_sequencerPageChanged ..)
@[simp] theorem gfx_stopShow (reason : Half) (s : State) : gfx (stopShow reason s) = gfx s :=
  gfx_of_still (still_stopShow ..)
@[simp] theorem gfx_eraseStack (o : Owner) (s : State) : gfx (eraseStack o s) = gfx s :=
  gfx_of_still (still_eraseStack ..)

end Sys2Proof.Machine

namespace Sys2Proof.Machine

open Sys2Proof

/-- From s to t the canonical form of the memory is kept, and so is the rule about passes. -/
structure KeepsSound (s t : State) : Prop where
  memory : s.mem.wf = true → t.mem.wf = true
  pass : passSound s → passSound t

theorem KeepsSound.refl (s : State) : KeepsSound s s := ⟨id, id⟩

theorem KeepsSound.trans {s t u : State} (h : KeepsSound s t) (k : KeepsSound t u) : KeepsSound s u :=
  ⟨k.memory ∘ h.memory, k.pass ∘ h.pass⟩

theorem KeepsSound.of_gfx {s t : State} (h : gfx t = gfx s) : KeepsSound s t := by
  simp only [gfx, Prod.mk.injEq] at h
  obtain ⟨hmem, hdeferred, hpass, hsnapshot⟩ := h
  exact ⟨by simp [hmem], by simp [passSound, hdeferred, hpass, hsnapshot]⟩

theorem KeepsSound.of_still {s t : State} (h : still t = still s) : KeepsSound s t := .of_gfx (gfx_of_still h)

/-- A change of the memory that keeps its canonical form. -/
theorem KeepsSound.of_setMem {s : State} {m : Memory} (h : s.mem.wf = true → m.wf = true) :
    KeepsSound s (s.setMem m) := ⟨h, id⟩

theorem KeepsSound.of_foldl {α : Type} (f : State → α → State) (h : ∀ s a, KeepsSound s (f s a)) (l : List α) :
    ∀ s, KeepsSound s (l.foldl f s) := by
  induction l with
  | nil => exact KeepsSound.refl
  | cons a l ih => intro s; exact (h s a).trans (ih _)

/-! ### Heap and objects -/

theorem keepsSound_releaseRegion (r : Region) (s : State) : KeepsSound s (releaseRegion r s) := by
  unfold releaseRegion
  split
  case isTrue h => exact ⟨id, fun _ hp => absurd (by simpa [passInFlight] using h) hp⟩
  case isFalse => exact .of_gfx rfl

theorem keepsSound_releaseOpt (r : Option Region) (s : State) : KeepsSound s (releaseOpt r s) := by
  cases r with
  | none => exact .refl s
  | some r => exact keepsSound_releaseRegion r s

@[simp] theorem gfx_objectFault (i : Fin 512) (code : Half) (detail : Nat) (s : State) :
    gfx (objectFault i code detail s) = gfx s := gfx_post ..

@[simp] theorem gfx_segmentFault (lane : Owner) (kind code : Byte) (id : Half) (detail : Nat) (s : State) :
    gfx (segmentFault lane kind code id detail s) = gfx s := gfx_post ..

theorem wf_putPixel (b : Byte) (d : Decoding) (h : d.mem.wf = true) : (putPixel b d).mem.wf = true := by
  unfold putPixel
  split
  · exact Memory.wf_write h _ _
  · exact h

theorem wf_putRun (b : Byte) (n : Nat) : ∀ d : Decoding, d.mem.wf = true → (putRun b n d).mem.wf = true := by
  induction n with
  | zero => exact fun _ h => h
  | succ n ih => exact fun d h => ih _ (wf_putPixel b d h)

theorem wf_zeroFill (r : Region) (lo hi : Nat) {m : Memory} (h : m.wf = true) : (zeroFill r lo hi m).wf = true := by
  unfold zeroFill
  exact Memory.wf_restore h _

theorem wf_endRow (d : Decoding) (h : d.mem.wf = true) : (endRow d).mem.wf = true := by
  unfold endRow
  dsimp only
  split
  · exact wf_zeroFill _ _ _ h
  · exact h

theorem wf_decodeByte (b : Byte) (d : Decoding) (h : d.mem.wf = true) : (decodeByte b d).mem.wf = true := by
  unfold decodeByte
  dsimp only
  split
  · exact h
  split
  · split
    · exact wf_endRow d h
    · split <;> exact h
  · exact wf_putPixel b d h
  case h_3 lead _ => simpa only using wf_putRun b (lead.toNat - 0x80 + 2) d h

theorem keepsSound_feedByte (i : Fin 512) (b : Byte) (s : State) : KeepsSound s (feedByte i b s) := by
  unfold feedByte
  dsimp only
  split
  · exact .refl s
  split
  · exact .of_gfx rfl
  · exact ⟨fun h => wf_decodeByte b _ h, id⟩

theorem keepsSound_feedBytes (i : Fin 512) (bs : List Byte) (s : State) : KeepsSound s (feedBytes i bs s) :=
  .of_foldl _ (fun s b => keepsSound_feedByte i b s) bs s

theorem keepsSound_abandonDecode (i : Fin 512) (s : State) : KeepsSound s (abandonDecode i s) := by
  unfold abandonDecode
  dsimp only
  split
  · exact .refl s
  · exact (keepsSound_releaseRegion _ s).trans (.of_gfx rfl)

theorem keepsSound_completeObject (i : Fin 512) (s : State) : KeepsSound s (completeObject i s) := by
  unfold completeObject
  dsimp only
  split
  · exact .refl s
  case h_2 inc _ =>
    have hpad : KeepsSound s (s.setMem (if decide (inc.row < inc.height) = true then
        zeroFill inc.region (inc.row * inc.width + inc.col) (inc.width * inc.height) s.mem else s.mem)) := by
      refine .of_setMem fun h => ?_
      split
      · exact wf_zeroFill _ _ _ h
      · exact h
    refine (hpad.trans (.of_gfx (gfx_setObjEntry i (completedEntry (objEntry i s) inc) _))).trans
      ((keepsSound_releaseOpt (objEntry i s).current _).trans (.of_gfx ?_))
    (repeat' split) <;> simp

theorem keepsSound_firstPart (i : Fin 512) (h : PartHead) (s : State) : KeepsSound s (firstPart i h s).1 := by
  unfold firstPart
  extract_lets e0 s1 e1 n
  have hs1 : KeepsSound s s1 := by
    unfold s1
    split
    · exact .refl s
    · exact (keepsSound_abandonDecode i s).trans (.of_gfx (by simp))
  split
  · exact hs1.trans (.of_gfx (by simp [setHeapFull]))
  · exact hs1.trans (.of_gfx rfl)

theorem keepsSound_laterPart (i : Fin 512) (h : PartHead) (s : State) : KeepsSound s (laterPart i h s).1 := by
  unfold laterPart
  dsimp only
  split
  · split
    · exact .of_gfx rfl
    · exact (keepsSound_abandonDecode i s).trans (.of_gfx (by simp))
  · split
    · exact .refl s
    · exact .of_gfx (by simp)

theorem keepsSound_beginPart (lane : Owner) (h : PartHead) (s : State) : KeepsSound s (beginPart lane h s).1 := by
  unfold beginPart
  split
  · exact .of_gfx (by simp)
  split
  · exact .refl s
  · dsimp only
    split
    · exact keepsSound_firstPart _ h s
    · exact keepsSound_laterPart _ h s

theorem keepsSound_takePart (lane : Owner) (p : List Byte) (s : State) : KeepsSound s (takePart lane p s) := by
  have hb := keepsSound_beginPart lane (parsePart p) s
  unfold takePart
  dsimp only
  split
  · exact .of_gfx (by simp)
  split
  case h_1 s1 hs1 => rwa [hs1] at hb
  case h_2 s1 i hs1 =>
    rw [hs1] at hb
    have hf := hb.trans (keepsSound_feedBytes i (p.drop (partFixed (parsePart p).first)) s1)
    split
    · exact hf.trans (keepsSound_completeObject i _)
    · exact hf

theorem keepsSound_overrunPart (i : Fin 512) (s : State) : KeepsSound s (overrunPart i s) := by
  unfold overrunPart
  dsimp only
  split
  · exact .refl s
  · exact (keepsSound_abandonDecode i s).trans (.of_gfx (by simp))

theorem keepsSound_deleteObject (i : Fin 512) (s : State) : KeepsSound s (deleteObject i s) := by
  unfold deleteObject
  refine ((keepsSound_releaseOpt ((objEntry i s).incoming.map Incoming.region) s).trans
    (keepsSound_releaseOpt (objEntry i s).current _)).trans (.of_gfx ?_)
  dsimp only
  split <;> simp

theorem keepsSound_eraseObjects (o : Owner) (s : State) : KeepsSound s (eraseObjects o s) := by
  unfold eraseObjects
  refine (KeepsSound.of_foldl _ (fun t r => keepsSound_releaseRegion r t)
    ((ownerEntries o s).flatMap entryRegions) s).trans (.of_gfx ?_)
  dsimp only
  split <;> rfl

/-! ### Drawing and passes -/

theorem wf_writePixel (p : Plane) (x y : Nat) (c : Colour) {m : Memory} (h : m.wf = true) :
    (writePixel p x y c m).wf = true := Memory.wf_writeBytes _ _ h

theorem wf_drawPixel (pals : Vector Palette 16) (plane : Plane) (size : Nat × Nat) (it : DrawItem) (i j : Nat)
    {m : Memory} (h : m.wf = true) : (drawPixel pals plane size it i j m).wf = true := by
  unfold drawPixel
  dsimp only
  split
  · exact wf_writePixel _ _ _ _ h
  · exact h

/-- A fold over memories keeps what each of its steps keeps. -/
theorem foldl_keeps {α β : Type} {P : β → Prop} (f : β → α → β) (h : ∀ m a, P m → P (f m a)) (l : List α) :
    ∀ m, P m → P (l.foldl f m) := by
  induction l with
  | nil => exact fun _ hm => hm
  | cons a l ih => exact fun m hm => ih _ (h m a hm)

/-- What every pixel of an item keeps, the drawing of the item keeps. -/
theorem drawWhere_keeps {P : Memory → Prop} (pick : Nat → Nat → Bool) (pals : Vector Palette 16) (plane : Plane)
    (size : Nat × Nat) (it : DrawItem) (h : ∀ m i j, P m → P (drawPixel pals plane size it i j m)) {m : Memory}
    (hm : P m) : P (drawWhere pick pals plane size it m) := by
  refine foldl_keeps _ (fun m1 j h1 => foldl_keeps _ (fun m2 i h2 => ?_) _ m1 h1) _ m hm
  split
  · exact h m2 i j h2
  · exact h2

/-- What every pixel keeps, the rest of a pass keeps. -/
theorem drawRest_keeps {P : Memory → Prop} (parts : List Nat) (pals : Vector Palette 16) (plane : Plane)
    (size : Nat × Nat) (items : List DrawItem) (h : ∀ it m i j, P m → P (drawPixel pals plane size it i j m))
    {m : Memory} (hm : P m) : P (drawRest parts pals plane size items m) := by
  cases items with
  | nil => exact hm
  | cons it rest =>
    exact foldl_keeps _ (fun m1 x h1 => drawWhere_keeps _ pals plane size x (h x) h1) rest _
      (drawWhere_keeps _ pals plane size it (h it) hm)

/-- What every pixel of the back plane keeps, the drawing to the end of a pass keeps. -/
theorem drawToEnd_keeps {P : Memory → Prop} (s : State)
    (h : ∀ f it m i j, P m → P (drawPixel s.pals (otherPlane s.comp.front) (formatSize f) it i j m))
    (hs : P s.mem) : P (drawToEnd s).mem := by
  unfold drawToEnd
  split
  · exact hs
  · exact drawRest_keeps _ _ _ _ _ (h _) hs

/-- What every pixel of the back plane keeps, the drawing before a palette's change keeps. -/
theorem drawAhead_keeps {P : Memory → Prop} (s : State)
    (h : ∀ f it m i j, P m → P (drawPixel s.pals (otherPlane s.comp.front) (formatSize f) it i j m))
    (hs : P s.mem) : P (drawAhead s).mem := by
  unfold drawAhead
  split
  · exact hs
  · extract_lets plane size items k t parts m1 m2
    have h1 : P m1 := by
      unfold m1
      split
      · exact hs
      · exact drawRest_keeps _ _ _ _ _ (h _) hs
    change P m2
    unfold m2
    split
    · exact h1
    · exact drawWhere_keeps _ _ _ _ _ (h _ _) h1

/-- Drawing ahead changes the memory, the progress of the pass and the counter of the free values only. -/
theorem drawAhead_eq (s : State) : drawAhead s =
    ((s.setMem (drawAhead s).mem).setComp { s.comp with progress := (drawAhead s).comp.progress }).setFresh
      (drawAhead s).fresh := by
  unfold drawAhead
  split <;> rfl

theorem drawToEnd_eq (s : State) : drawToEnd s = s.setMem (drawToEnd s).mem := by
  unfold drawToEnd
  split <;> rfl

theorem keepsSound_beforeLiveChange (s : State) : KeepsSound s (beforeLiveChange s) := by
  unfold beforeLiveChange
  split
  · refine ⟨drawAhead_keeps (P := fun m => m.wf = true) s (fun _ it _ i j h => wf_drawPixel _ _ _ it i j h),
      fun h => ?_⟩
    rw [drawAhead_eq]
    exact h
  · exact .refl s

theorem keepsSound_swapPlanes (s : State) (h : s.comp.pass = .done) : KeepsSound s (swapPlanes s) :=
  ⟨id, fun hs _ => hs (by simp [h])⟩

theorem wf_fillActive (p : Plane) (size : Nat × Nat) {m : Memory} (h : m.wf = true) : (fillActive p size m).wf = true :=
  Memory.wf_restore h _

theorem keepsSound_startPass (f : PlaneFormat) (s : State) : KeepsSound s (startPass f s) :=
  ⟨fun h => wf_fillActive _ _ h, fun _ hp => absurd rfl hp⟩

theorem keepsSound_startPassIfNeeded (s : State) : KeepsSound s (startPassIfNeeded s) := by
  unfold startPassIfNeeded
  split
  · exact .refl s
  split
  · exact keepsSound_startPass _ s
  · exact .refl s

theorem keepsSound_composerField (s : State) : KeepsSound s (composerField s) := by
  unfold composerField
  split
  case h_1 h => exact (keepsSound_swapPlanes s h).trans (keepsSound_startPassIfNeeded _)
  case h_2 => exact keepsSound_startPassIfNeeded s
  case h_3 => exact .of_gfx (by simp [setLate])

theorem keepsSound_completePass (s : State) : KeepsSound s (completePass s) := by
  unfold completePass
  split
  · exact ⟨drawToEnd_keeps (P := fun m => m.wf = true) s (fun _ it _ i j h => wf_drawPixel _ _ _ it i j h),
      fun _ _ => ⟨rfl, rfl⟩⟩
  · exact .refl s

theorem keepsSound_composerSetup (f : PlaneFormat) (s : State) : KeepsSound s (composerSetup f s) := by
  unfold composerSetup
  dsimp only
  split
  case isTrue =>
    exact ⟨fun h => by simpa [returnDeferred] using Memory.wf_restore h _, fun _ _ => ⟨rfl, rfl⟩⟩
  case isFalse h =>
    exact ⟨fun h => by simpa using Memory.wf_restore h _,
      fun hs _ => ⟨(hs (by simpa [passInFlight] using h)).1, rfl⟩⟩

/-! ### Palettes, pages, cues, slide lists -/

theorem keepsSound_takePalette (lane : Owner) (p : List Byte) (s : State) : KeepsSound s (takePalette lane p s) := by
  unfold takePalette
  split <;> exact .of_gfx (by simp)

theorem keepsSound_deletePalette (i : Fin 16) (s : State) : KeepsSound s (deletePalette i s) :=
  (keepsSound_beforeLiveChange s).trans (.of_gfx rfl)

theorem keepsSound_erasePalettes (o : Owner) (s : State) : KeepsSound s (erasePalettes o s) :=
  (keepsSound_beforeLiveChange s).trans (.of_gfx rfl)

theorem keepsSound_writeImage (r : PageRef) (p : List Byte) (s : State) : KeepsSound s (writeImage r p s) :=
  .of_setMem (Memory.wf_writeBytes _ _)

theorem keepsSound_takePage (lane : Owner) (p : List Byte) (s : State) : KeepsSound s (takePage lane p s) := by
  unfold takePage
  split
  · exact .of_gfx (by simp)
  · refine (keepsSound_writeImage ⟨lane, Fin.ofNat 32 (byteAt p 0).toNat⟩ p s).trans (.of_gfx ?_)
    dsimp only [redefinePage, definePage]
    (repeat' split) <;> simp

theorem gfx_changeList (o : Owner) (i : Fin 2) (l : Option SlideList) (s : State) :
    gfx (changeList o i l s) = gfx s := by
  unfold changeList updateSeq
  dsimp only
  split <;> simp

theorem gfx_deletePage (r : PageRef) (s : State) : gfx (deletePage r s) = gfx s := by
  unfold deletePage
  split <;> simp

theorem keepsSound_takeDelete (lane : Owner) (p : List Byte) (s : State) : KeepsSound s (takeDelete lane p s) := by
  unfold takeDelete
  split
  · exact .of_gfx (by simp)
  unfold deleteItem
  split
  · split
    · exact .refl s
    · exact keepsSound_deleteObject _ s
  split
  · exact keepsSound_deletePalette _ s
  split
  · exact .of_gfx (gfx_deletePage ..)
  split
  · unfold deleteList
    split
    · exact .refl s
    · exact .of_gfx (gfx_changeList ..)
  split
  · unfold deleteCue
    split <;> exact .of_gfx rfl
  · exact .refl s

theorem gfx_eraseSlides (o : Owner) (s : State) : gfx (eraseSlides o s) = gfx s := by
  unfold eraseSlides updateSeq
  dsimp only
  split <;> simp

theorem keepsSound_eraseOwner (o : Owner) (s : State) : KeepsSound s (eraseOwner o s) := by
  refine ((keepsSound_eraseObjects o s).trans (keepsSound_erasePalettes o _)).trans (.of_gfx ?_)
  simp [eraseOwner, eraseCues, erasePages, erasePageEntries, gfx_eraseSlides]

theorem keepsSound_handSegment (lane : Owner) (kind : Byte) (p : List Byte) (s : State) :
    KeepsSound s (handSegment lane kind p s) := by
  unfold handSegment
  split
  · unfold takeEdition
    split
    · exact .of_gfx (by simp)
    · exact (KeepsSound.of_gfx (gfx_setRecv s _)).trans (keepsSound_eraseOwner _ _)
  split
  · unfold takeTime
    split <;> exact .of_gfx (by simp)
  split
  · exact keepsSound_takePalette lane p s
  split
  · exact keepsSound_takePart lane p s
  split
  · exact keepsSound_takePage lane p s
  split
  · unfold takeSlideList
    split
    · exact .of_gfx (by simp)
    · exact .of_gfx (gfx_changeList ..)
  split
  · unfold takeCue
    split
    · exact .of_gfx (by simp)
    · exact .of_gfx rfl
  split
  · exact keepsSound_takeDelete lane p s
  · exact .refl s

end Sys2Proof.Machine

namespace Sys2Proof.Machine

open Sys2Proof

/-! ### Lanes -/

theorem keepsSound_wholeSegment (lane : Owner) (kind : Byte) (p : List Byte) (s : State) :
    KeepsSound s (wholeSegment lane kind p s) := by
  unfold wholeSegment
  split
  · exact .of_gfx (gfx_segmentFault ..)
  · exact keepsSound_handSegment lane kind p s

@[simp] theorem gfx_setLane (l : LaneState) (s : State) : gfx (setLane l s) = gfx s := rfl

@[simp] theorem gfx_receiverFault (lane : Owner) (kind code : Byte) (len : Nat) (s : State) :
    gfx (receiverFault lane kind code len s) = gfx s := gfx_segmentFault ..

theorem keepsSound_endPayload (kind : Byte) (got : List Byte) (part : Option PartInFlight) (s : State) :
    KeepsSound s (endPayload kind got part s) := by
  refine .trans ?_ (.of_gfx (gfx_setLane laneIdle _))
  (repeat' split)
  · exact keepsSound_completeObject _ s
  · exact .refl s
  · exact .refl s
  · exact keepsSound_handSegment .disc kind got s

theorem keepsSound_inPayload (kind : Byte) (len left : Nat) (got : List Byte) (part : Option PartInFlight)
    (s : State) : KeepsSound s (inPayload kind len left got part s) := by
  unfold inPayload
  split
  · exact keepsSound_endPayload kind got part s
  · exact .of_gfx rfl

@[simp] theorem gfx_inSkip (kind : Byte) (len left : Nat) (badKind : Bool) (s : State) :
    gfx (inSkip kind len left badKind s) = gfx s := by
  unfold inSkip endSkip
  (repeat' split) <;> simp

theorem keepsSound_serveDisc (got : List Byte) (s : State) : KeepsSound s (serveDisc got s) := by
  unfold serveDisc
  dsimp only
  split
  · exact (KeepsSound.of_gfx (gfx_setRecv s _)).trans (keepsSound_inPayload ..)
  · split <;> exact .of_gfx (by simp)

theorem keepsSound_servePlayer (s : State) : KeepsSound s (servePlayer s) :=
  ((KeepsSound.of_gfx (gfx_setRecv s _)).trans (keepsSound_wholeSegment ..)).trans (.of_gfx rfl)

theorem keepsSound_serveOne (s : State) : KeepsSound s (serveOne s) := by
  unfold serveOne
  split
  · exact .refl s
  split
  · exact keepsSound_serveDisc _ s
  split
  · exact keepsSound_servePlayer s
  · exact .refl s

theorem keepsSound_serve (s : State) : KeepsSound s (serve s) :=
  (keepsSound_serveOne s).trans (keepsSound_serveOne _)

theorem keepsSound_objectByte (len left : Nat) (got : List Byte) (part : Option PartInFlight) (b : Byte)
    (s : State) : KeepsSound s (objectByte len left got part b s) := by
  unfold objectByte
  split
  · exact (keepsSound_feedByte _ b s).trans (keepsSound_inPayload ..)
  dsimp only
  split
  · exact .of_gfx (by simp)
  split
  · have hb := keepsSound_beginPart .disc (parsePart (got ++ [b])) s
    split
    case h_1 hs1 => rw [hs1] at hb; exact hb.trans (.of_gfx (by simp))
    case h_2 hs1 => rw [hs1] at hb; exact hb.trans (keepsSound_inPayload ..)
  · exact keepsSound_inPayload ..

theorem keepsSound_laneByte (b : Byte) (s : State) : KeepsSound s (laneByte b s) := by
  unfold laneByte
  split
  · exact .of_gfx rfl
  · exact .of_gfx rfl
  · unfold payloadByte
    split
    · exact keepsSound_objectByte ..
    · exact keepsSound_inPayload ..
  · exact .of_gfx (by simp)

theorem keepsSound_takeLaneByte (s : State) : KeepsSound s (takeLaneByte s) := by
  unfold takeLaneByte
  split
  · exact .refl s
  split
  · exact .refl s
  · exact ((KeepsSound.of_gfx (gfx_setStream s _)).trans (keepsSound_laneByte ..)).trans (keepsSound_serve _)

theorem keepsSound_abandonLane (s : State) : KeepsSound s (abandonLane s) := by
  refine .trans ?_ (.of_gfx (gfx_setLane laneIdle _))
  split
  · exact keepsSound_overrunPart _ s
  · exact .refl s

theorem keepsSound_presentByte (b : Byte) (s : State) : KeepsSound s (presentByte b s) := by
  unfold presentByte
  split
  · exact .refl s
  split
  · exact .of_gfx rfl
  · have hlost : KeepsSound s ((setStreamOverrun s).setStream ⟨[], false⟩) := .of_gfx rfl
    exact hlost.trans ((keepsSound_abandonLane _).trans (keepsSound_serve _))

/-! ### Command frames -/

theorem gfx_receiveFrame (bytes : List Byte) (s : State) : gfx (receiveFrame bytes s) = gfx s := by
  rw [receiveFrame_eq]; rfl

theorem gfx_frameCrosses (bytes : List Byte) (s : State) : gfx (frameCrosses bytes s) = gfx s :=
  gfx_receiveFrame bytes s

@[simp] theorem gfx_placeReply (cmd : Byte) (code : ReplyCode) (data : List Byte) (s : State) :
    gfx (placeReply cmd code data s) = gfx s := rfl

theorem keepsSound_commandFrame (cmd : Byte) (payload : List Byte) (body : State → State)
    (h : ∀ s, KeepsSound s (body s)) (s : State) : KeepsSound s (commandFrame cmd payload body s) := by
  unfold commandFrame
  split
  · exact .refl s
  · refine (KeepsSound.of_gfx (gfx_frameCrosses (cmd :: BitVec.ofNat 8 payload.length :: payload) s)).trans ?_
    dsimp only
    split
    · exact .of_gfx (gfx_withConditions ..)
    split
    · exact .of_gfx (gfx_placeReply ..)
    · exact h _

theorem keepsSound_command (cmd : Byte) (payload : List Byte) (act : State → Answer)
    (h : ∀ s, KeepsSound s (act s).state) (s : State) : KeepsSound s (command cmd payload act s) :=
  keepsSound_commandFrame cmd payload _ (fun s => (h s).trans (.of_gfx (gfx_placeReply ..))) s

/-- A command on a page leaves what its body leaves. -/
theorem still_onPage (owner page : Byte) (act : PageRef → State → Answer)
    (h : ∀ r s, still (act r s).state = still s) (s : State) : still (onPage owner page act s).state = still s := by
  unfold onPage
  split
  · rfl
  · exact h _ s

/-- A command on a MENU page leaves what its body leaves. -/
theorem still_onMenuPage (r : PageRef) (act : State → Answer) (h : ∀ s, still (act s).state = still s) (s : State) :
    still (onMenuPage r act s).state = still s := by
  unfold onMenuPage
  split
  · rfl
  split
  · rfl
  · exact h s

theorem still_holdChange (r : PageRef) (change : Navigation → Navigation) (s : State) :
    still (holdChange r change s).state = still s := by
  unfold holdChange
  split
  · split <;> rfl
  · exact still_takeUp _

theorem still_shownOr {t : Option State} {s : State} (h : ∀ u, t = some u → still u = still s) :
    still (shownOr t s).state = still s := by
  cases t with
  | none => rfl
  | some u => exact (still_deliverKeys u).trans (h u rfl)

theorem still_doKey (kind : Byte) (s : State) : still (doKey kind s).state = still s := by
  unfold doKey
  split
  · rfl
  split
  · rfl
  · exact still_deliverKeys _

theorem still_doShow (owner page mode : Byte) (s : State) : still (doShow owner page mode s).state = still s := by
  unfold doShow
  split
  · rfl
  · refine still_onPage owner page _ (fun r s => still_onMenuPage r _ (fun s => still_shownOr fun u hu => ?_) s) s
    split at hu
    · exact still_showEntry s r hu
    · exact still_showCalling s r hu

theorem still_doHide (owner page : Byte) (s : State) : still (doHide owner page s).state = still s :=
  still_onPage owner page _ (fun r s => still_onMenuPage r _
    (fun s => (still_deliverKeys _).trans (still_startLeaving s r)) s) s

theorem still_doHideBand (owner : Byte) (s : State) : still (doHideBand owner s).state = still s := by
  unfold doHideBand
  split
  · rfl
  · exact (still_deliverKeys _).trans (still_hideBandEntries s _)

theorem still_doSelect (owner page button : Byte) (s : State) :
    still (doSelect owner page button s).state = still s := by
  refine still_onPage owner page _ (fun r s => still_onMenuPage r _ (fun s => ?_) s) s
  split
  · rfl
  split
  · exact (still_deliverKeys _).trans (still_selectButton ..)
  · exact still_holdChange ..

theorem still_doSetButton (owner page button enable : Byte) (s : State) :
    still (doSetButton owner page button enable s).state = still s := by
  refine still_onPage owner page _ (fun r s => still_onMenuPage r _ (fun s => ?_) s) s
  split
  · rfl
  split
  · split
    · rfl
    · exact (still_deliverKeys _).trans (still_changeEnable ..)
  · exact still_holdChange ..

theorem still_doSetTimeout (owner page : Byte) (value : Half) (restart : Byte) (s : State) :
    still (doSetTimeout owner page value restart s).state = still s := by
  refine still_onPage owner page _ (fun r s => still_onMenuPage r _ (fun s => ?_) s) s
  split
  · rfl
  · exact still_setSlot ..

theorem still_doReadPage (owner page : Byte) (s : State) : still (doReadPage owner page s).state = still s := by
  refine still_onPage owner page _ (fun r s => ?_) s
  split
  · rfl
  · split <;> rfl

theorem still_doSetVar (num : Byte) (value : Word) (s : State) : still (doSetVar num value s).state = still s := by
  unfold doSetVar
  split
  · rfl
  · exact still_setVariable ..

theorem still_doGetVar (num : Byte) (s : State) : still (doGetVar num s).state = still s := by
  unfold doGetVar
  split <;> rfl

theorem still_doSlideStart (owner list index : Byte) (s : State) :
    still (doSlideStart owner list index s).state = still s := by
  unfold doSlideStart
  split
  · rfl
  split
  · rfl
  split
  · rfl
  split
  · rfl
  · exact still_startShow ..

theorem still_doSlideStop (s : State) : still (doSlideStop s).state = still s := by
  unfold doSlideStop done
  dsimp only
  split
  · rfl
  · exact still_stopShow ..

theorem still_doSlidePause (s : State) : still (doSlidePause s).state = still s := by
  unfold doSlidePause
  split
  · exact still_pauseShow s
  · rfl

theorem still_doSlideResume (s : State) : still (doSlideResume s).state = still s := by
  unfold doSlideResume
  split
  · exact still_resumeShow s
  · rfl

theorem still_doSlideStep (step : Byte) (s : State) : still (doSlideStep step s).state = still s := by
  unfold doSlideStep
  split
  · rfl
  split
  · rfl
  · exact still_stepShow ..

theorem still_doSetHold (value : Half) (restart : Byte) (s : State) :
    still (doSetHold value restart s).state = still s := by
  unfold doSetHold
  split
  · rfl
  · exact still_updateSeq s fun q => by split <;> rfl

theorem gfx_doOutput (value : Byte) (s : State) : gfx (doOutput value s).state = gfx s := by
  unfold doOutput
  split
  · rfl
  split
  · dsimp only [done]
    split <;> rfl
  · rfl

@[simp] theorem gfx_setRunning (on : Bool) (s : State) : gfx (done (setRunning on s)).state = gfx s := rfl

theorem keepsSound_doErasePlayer (s : State) : KeepsSound s (doErasePlayer s).state := by
  simp only [doErasePlayer, done]
  exact (KeepsSound.of_gfx (gfx_setRelay s relayReset)).trans (keepsSound_eraseOwner .player _)

theorem keepsSound_doSegOpen (kind : Byte) (length : Half) (s : State) :
    KeepsSound s (doSegOpen kind length s).state := by
  unfold doSegOpen
  split
  · exact .refl s
  split
  · exact .refl s
  · exact (KeepsSound.of_gfx (gfx_setRelay s _)).trans (keepsSound_serve _)

theorem keepsSound_doSegData (bytes : List Byte) (s : State) : KeepsSound s (doSegData bytes s).state := by
  unfold doSegData
  split
  · exact .refl s
  · exact (KeepsSound.of_gfx (gfx_setRelay s _)).trans (keepsSound_serve _)

theorem keepsSound_resetBlocks (s : State) : KeepsSound s (resetBlocks s) := ⟨id, fun _ _ => ⟨rfl, rfl⟩⟩

theorem keepsSound_setupBody (format : Byte) (ticks : Half) (s : State) :
    KeepsSound s (setupBody format ticks s) := by
  unfold setupBody
  split
  · exact .of_gfx rfl
  split
  · exact .of_gfx rfl
  case h_2.isFalse f _ _ =>
    have hpre (v : StreamPort) (w : CueUnit) : KeepsSound s (composerSetup f ((s.setStream v).setCues w)) :=
      (KeepsSound.of_gfx (by simp)).trans (keepsSound_composerSetup f _)
    exact (hpre _ _).trans (.of_gfx rfl)

/-- The command of a frame keeps the memory canonical and the rule about passes. -/
theorem keepsSound_runCommand (i : Instr) (s : State) : KeepsSound s (runCommand i s) := by
  cases i
  case nop => exact keepsSound_command _ _ _ (fun s => .refl s) s
  case clearConditions => exact keepsSound_command _ _ _ (fun s => .of_gfx rfl) s
  case reset =>
    exact keepsSound_commandFrame _ _ _ (fun s => (keepsSound_resetBlocks s).trans (.of_gfx (gfx_placeReply ..))) s
  case setup f t => exact keepsSound_commandFrame _ _ _ (keepsSound_setupBody f t) s
  case output v => exact keepsSound_command _ _ _ (fun s => .of_gfx (gfx_doOutput v s)) s
  case key => exact keepsSound_command _ _ _ (fun s => .of_still (still_doKey _ s)) s
  case showPage => exact keepsSound_command _ _ _ (fun s => .of_still (still_doShow _ _ _ s)) s
  case hidePage => exact keepsSound_command _ _ _ (fun s => .of_still (still_doHide _ _ s)) s
  case hideBand => exact keepsSound_command _ _ _ (fun s => .of_still (still_doHideBand _ s)) s
  case select => exact keepsSound_command _ _ _ (fun s => .of_still (still_doSelect _ _ _ s)) s
  case setButton => exact keepsSound_command _ _ _ (fun s => .of_still (still_doSetButton _ _ _ _ s)) s
  case setTimeout => exact keepsSound_command _ _ _ (fun s => .of_still (still_doSetTimeout _ _ _ _ s)) s
  case readPage => exact keepsSound_command _ _ _ (fun s => .of_still (still_doReadPage _ _ s)) s
  case setVar => exact keepsSound_command _ _ _ (fun s => .of_still (still_doSetVar _ _ s)) s
  case getVar => exact keepsSound_command _ _ _ (fun s => .of_still (still_doGetVar _ s)) s
  case timeRun => exact keepsSound_command _ _ _ (fun s => .of_gfx (gfx_setRunning _ s)) s
  case timeHold => exact keepsSound_command _ _ _ (fun s => .of_gfx (gfx_setRunning _ s)) s
  case slideStart => exact keepsSound_command _ _ _ (fun s => .of_still (still_doSlideStart _ _ _ s)) s
  case slideStop => exact keepsSound_command _ _ _ (fun s => .of_still (still_doSlideStop s)) s
  case slidePause => exact keepsSound_command _ _ _ (fun s => .of_still (still_doSlidePause s)) s
  case slideResume => exact keepsSound_command _ _ _ (fun s => .of_still (still_doSlideResume s)) s
  case slideStep => exact keepsSound_command _ _ _ (fun s => .of_still (still_doSlideStep _ s)) s
  case setHold => exact keepsSound_command _ _ _ (fun s => .of_still (still_doSetHold _ _ s)) s
  case segOpen => exact keepsSound_command _ _ _ (keepsSound_doSegOpen _ _) s
  case segData => exact keepsSound_command _ _ _ (keepsSound_doSegData _) s
  case erasePlayer =>
    exact keepsSound_command _ _ _ keepsSound_doErasePlayer s
  all_goals exact .refl s

theorem gfx_readFrame (cmd : Byte) (n : Nat) (s : State) : gfx (readFrame cmd n s) = gfx s := by
  unfold readFrame
  split
  · rfl
  · exact gfx_frameCrosses ..

theorem gfx_readNoticeFrame (n : Nat) (s : State) : gfx (readNoticeFrame n s) = gfx s := by
  unfold readNoticeFrame
  dsimp only
  split <;> simp [gfx_readFrame]

theorem gfx_badFrame (frame : List Byte) (s : State) : gfx (badFrame frame s) = gfx s := by
  unfold badFrame
  split
  · rfl
  · dsimp only
    split <;> exact gfx_frameCrosses frame s

theorem keepsSound_completeFrame (frame : List Byte) (s : State) : KeepsSound s (completeFrame frame s) := by
  unfold completeFrame
  split
  · exact .refl s
  split
  · unfold runRead
    split
    · exact .of_gfx (gfx_readNoticeFrame ..)
    · exact .of_gfx (gfx_readFrame ..)
  split
  · exact .of_gfx (gfx_badFrame ..)
  split
  · exact .of_gfx (gfx_badFrame ..)
  · exact keepsSound_runCommand _ s

theorem gfx_timeOutFrame (bytes : List Byte) (s : State) : gfx (timeOutFrame bytes s) = gfx s := by
  unfold timeOutFrame
  split
  · rfl
  · exact gfx_receiveFrame bytes s

/-! ### Field starts and the rows of the table -/

/-- What the cues leave: `still` apart from the cue slots. -/
def stillOffCues (s : State) : State :=
  (still s).setCues { s.cues with slots := State.reset.cues.slots }

theorem stillOffCues_of_still {s t : State} (h : still t = still s) : stillOffCues t = stillOffCues s :=
  congrArg (fun u : State => u.setCues { u.cues with slots := State.reset.cues.slots }) h

@[simp] theorem stillOffCues_setCueSlot (i : Fin 16) (v : CueSlot) (s : State) :
    stillOffCues (setCueSlot i v s) = stillOffCues s := rfl

theorem still_cueNotice (kind : NoticeKind) (i : Fin 16) (a : Action) (code : Half) (detail : Word) (flag : Bool)
    (s : State) : still (cueNotice kind i a code detail flag s) = still s := still_post ..

theorem still_reportCue (i : Fin 16) (a : Action) (detail : Word) (s : State) :
    still (reportCue i a detail s) = still s := by
  unfold reportCue
  split
  · exact still_cueNotice ..
  · rfl

theorem still_cueShow {r : PageRef} {s t : State} (h : cueShow r s = .done t) : still t = still s := by
  unfold cueShow at h
  split at h
  · split at h
    · cases h
    case h_2 hu => cases h; exact still_showEntry s r hu
  · cases h

theorem still_cueHide {r : PageRef} {s t : State} (h : cueHide r s = .done t) : still t = still s := by
  unfold cueHide at h
  split at h
  · cases h; exact still_startLeaving s r
  · cases h

theorem still_cueSelect {r : PageRef} {button : Word} {s t : State} (h : cueSelect r button s = .done t) :
    still t = still s := by
  unfold cueSelect at h
  split at h
  · split at h
    · cases h
    · cases h; exact still_selectButton ..
  · cases h

/-- A cue's action works on the interactive blocks only (R140, R141). -/
theorem still_runCueAction {i : Fin 16} {a : Action} {s t : State} (h : runCueAction i a s = .done t) :
    still t = still s := by
  unfold runCueAction at h
  dsimp only at h
  split at h
  case h_1 => exact still_cueShow h
  case h_2 => exact still_cueHide h
  case h_3 => exact still_cueSelect h
  case h_4 => split at h <;> cases h; exact still_setVariable ..
  case h_5 => split at h <;> cases h; exact still_slideOperation ..
  all_goals cases h; rfl

theorem stillOffCues_fireCue (i : Fin 16) (c : CueRecord) (s : State) :
    stillOffCues (fireCue i c s) = stillOffCues s := by
  unfold fireCue
  rw [stillOffCues_setCueSlot]
  split
  case h_1 h => exact stillOffCues_of_still ((still_reportCue ..).trans (still_runCueAction h))
  case h_2 => exact stillOffCues_of_still ((still_reportCue ..).trans (still_cueNotice ..))

theorem stillOffCues_evaluateCue (s : State) (i : Fin 16) : stillOffCues (evaluateCue s i) = stillOffCues s := by
  unfold evaluateCue
  dsimp only
  (repeat' split) <;> simp [stillOffCues_fireCue]

theorem stillOffCues_evaluateCues (s : State) : stillOffCues (evaluateCues s) = stillOffCues s := by
  unfold evaluateCues
  induction cueOrder generalizing s with
  | nil => rfl
  | cons i l ih => rw [List.foldl_cons, ih, stillOffCues_evaluateCue]

theorem gfx_of_stillOffCues {s t : State} (h : stillOffCues t = stillOffCues s) : gfx t = gfx s := by
  have h' : gfx (stillOffCues t) = gfx (stillOffCues s) := congrArg gfx h
  exact h'

theorem gfx_cueField (s : State) : gfx (cueField s) = gfx s := by
  have ht : gfx (advanceTime s) = gfx s := by
    unfold advanceTime
    split <;> rfl
  unfold cueField
  dsimp only
  split
  · rw [gfx_deliverKeys, gfx_of_stillOffCues (stillOffCues_evaluateCues _), ht]
  · exact ht

theorem keepsSound_runBlock (b : FieldBlock) (s : State) : KeepsSound s (runBlock b s) := by
  cases b with
  | pageStack => exact .of_still ((still_deliverKeys _).trans (still_stackField s))
  | navigation => exact .of_still (still_navigationField s)
  | sequencer => exact .of_still (still_sequencerField s)
  | cues => exact .of_gfx (gfx_cueField s)
  | composer => exact keepsSound_composerField s

theorem keepsSound_actBlock (s : State) (b : FieldBlock) : KeepsSound s (actBlock s b) := by
  unfold actBlock
  split
  · exact (KeepsSound.of_gfx (gfx_setDue s _)).trans (keepsSound_runBlock b _)
  · exact .refl s

theorem keepsSound_settleField (s : State) : KeepsSound s (settleField s) := by
  unfold settleField
  split
  · exact .refl s
  · exact .of_foldl _ keepsSound_actBlock _ s

theorem keepsSound_fieldStart (order : List FieldBlock) (s : State) : KeepsSound s (fieldStart order s) := by
  have hdue := KeepsSound.of_foldl _ keepsSound_actBlock s.due s
  have hcount : KeepsSound (s.due.foldl actBlock s) (countField (s.due.foldl actBlock s)) := .of_gfx rfl
  have hact := KeepsSound.of_foldl _ keepsSound_actBlock (order ++ [FieldBlock.cues, FieldBlock.composer])
    (countField (s.due.foldl actBlock s))
  exact (hdue.trans (hcount.trans hact)).trans
    ((KeepsSound.of_gfx (gfx_setDisp _ _)).trans (keepsSound_settleField (decideScan _)))

theorem keepsSound_fadeEvent (test : State → Entry → Bool) (s : State) : KeepsSound s (fadeEvent test s) := by
  have hexamine : KeepsSound s (examineNext test s) := by
    unfold examineNext
    split
    · exact .refl s
    · split
      · exact .of_still (still_examineEntry ..)
      · exact .refl s
  refine .trans ?_ (keepsSound_settleField _)
  dsimp only
  split
  · split
    · exact hexamine
    · exact hexamine.trans (keepsSound_actBlock _ _)
  · exact .refl s

/-- An event that lets a block act where it is due. -/
theorem keepsSound_eventOf (b : FieldBlock) (p : Prop) [Decidable p] (s : State) :
    KeepsSound s (settleField (if p then actBlock s b else s)) := by
  refine .trans ?_ (keepsSound_settleField _)
  split
  · exact keepsSound_actBlock s b
  · exact .refl s

theorem keepsSound_activationEvent (s : State) : KeepsSound s (activationEvent s) := by
  refine .trans ?_ (keepsSound_settleField _)
  split
  · exact keepsSound_actBlock s _
  · split
    · exact .refl s
    · exact .of_still ((still_deliverKeys _).trans (still_completeActivation ..))

theorem keepsSound_completeSave (s : State) : KeepsSound s (completeSave s) := by
  unfold completeSave
  split
  · exact .refl s
  rename_i t _
  dsimp only
  split
  · split
    · exact .of_gfx (by simp)
    case h_2 v _ =>
      have hmem : KeepsSound s (s.setMem (s.mem.writeBytes (saveAddr v) (saveRecord (slotAt t.slot s)))) :=
        .of_setMem (Memory.wf_writeBytes _ _)
      exact hmem.trans (.of_gfx (by simp))
  · exact .refl s

theorem keepsSound_arriveSegment (lane : Owner) (kind : Byte) (p : List Byte) (s : State) :
    KeepsSound s (arriveSegment lane kind p s) := by
  unfold arriveSegment
  split
  · exact keepsSound_wholeSegment lane kind p s
  · exact .refl s

theorem keepsSound_finishSetup (s : State) : KeepsSound s (finishSetup s) := by
  unfold finishSetup
  split
  · dsimp only
    split <;> exact .of_gfx rfl
  · exact .refl s

theorem keepsSound_awake {f : State → State} (h : ∀ s, KeepsSound s (f s)) (s : State) :
    KeepsSound s (awake f s) := by
  unfold awake
  split
  · exact .refl s
  · exact h s

/-- The row of a command frame is the command it carries. -/
theorem exec_of_encodeFrame (i : Instr) (s : State) (h : (encodeFrame i).isSome = true) :
    exec i s = .next (runCommand i s) := by
  cases i <;> simp [encodeFrame] at h <;> rfl

/-- Every row of the table keeps the memory canonical and the rule about passes. -/
theorem keepsSound_exec (i : Instr) (s : State) : ∃ t, exec i s = .next t ∧ KeepsSound s t := by
  by_cases hcommand : (encodeFrame i).isSome = true
  · exact ⟨_, exec_of_encodeFrame i s hcommand, keepsSound_runCommand i s⟩
  cases i
  case powerOn => exact ⟨_, rfl, keepsSound_resetBlocks s⟩
  case resetN => exact ⟨_, rfl, (keepsSound_resetBlocks s).trans (.of_gfx rfl)⟩
  case fieldStart order => exact ⟨_, rfl, keepsSound_awake (keepsSound_fieldStart order) s⟩
  case passComplete => exact ⟨_, rfl, keepsSound_awake keepsSound_completePass s⟩
  case fadeInEnd => exact ⟨_, rfl, keepsSound_awake (keepsSound_fadeEvent _) s⟩
  case fadeOutEnd => exact ⟨_, rfl, keepsSound_awake (keepsSound_fadeEvent _) s⟩
  case activationComplete => exact ⟨_, rfl, keepsSound_awake keepsSound_activationEvent s⟩
  case pageTimeoutExpiry => exact ⟨_, rfl, keepsSound_awake (keepsSound_eventOf _ _) s⟩
  case holdRunOut => exact ⟨_, rfl, keepsSound_awake (keepsSound_eventOf _ _) s⟩
  case transitionEnd => exact ⟨_, rfl, keepsSound_awake (keepsSound_eventOf _ _) s⟩
  case keyDelivery => exact ⟨_, rfl, keepsSound_awake (fun s => .of_still (still_deliverKeys s)) s⟩
  case saveDone => exact ⟨_, rfl, keepsSound_awake keepsSound_completeSave s⟩
  case loadDone k => exact ⟨_, rfl, keepsSound_awake (fun s => .of_still (still_completeLoad s k)) s⟩
  case streamByte b => exact ⟨_, rfl, keepsSound_awake (keepsSound_presentByte b) s⟩
  case discLaneByte => exact ⟨_, rfl, keepsSound_awake keepsSound_takeLaneByte s⟩
  case segmentServe => exact ⟨_, rfl, keepsSound_awake keepsSound_serve s⟩
  case edition => exact ⟨_, rfl, keepsSound_awake (keepsSound_arriveSegment _ _ _) s⟩
  case time => exact ⟨_, rfl, keepsSound_awake (keepsSound_arriveSegment _ _ _) s⟩
  case palette => exact ⟨_, rfl, keepsSound_awake (keepsSound_arriveSegment _ _ _) s⟩
  case objectFirstPart => exact ⟨_, rfl, keepsSound_awake (keepsSound_arriveSegment _ _ _) s⟩
  case objectPart => exact ⟨_, rfl, keepsSound_awake (keepsSound_arriveSegment _ _ _) s⟩
  case page => exact ⟨_, rfl, keepsSound_awake (keepsSound_arriveSegment _ _ _) s⟩
  case slidelist => exact ⟨_, rfl, keepsSound_awake (keepsSound_arriveSegment _ _ _) s⟩
  case cue => exact ⟨_, rfl, keepsSound_awake (keepsSound_arriveSegment _ _ _) s⟩
  case delete => exact ⟨_, rfl, keepsSound_awake (keepsSound_arriveSegment _ _ _) s⟩
  case linkTimeout => exact ⟨_, rfl, .of_gfx (gfx_timeOutFrame ..)⟩
  case unknownCommand => exact ⟨_, rfl, keepsSound_completeFrame ..⟩
  case readReply => exact ⟨_, rfl, .of_gfx (gfx_readFrame ..)⟩
  case readStatus => exact ⟨_, rfl, .of_gfx (gfx_readFrame ..)⟩
  case readNotice => exact ⟨_, rfl, .of_gfx (gfx_readNoticeFrame ..)⟩
  case setupClearDone => exact ⟨_, rfl, keepsSound_awake keepsSound_finishSetup s⟩
  case resetNRelease => exact ⟨_, rfl, .of_gfx (by unfold releaseReset; split <;> rfl)⟩
  all_goals exact absurd rfl hcommand

/-- A step keeps the memory canonical and the rule about passes. -/
theorem keepsSound_step {s t : State} (h : step s = .next t) : KeepsSound s t := by
  unfold step at h
  split at h
  · injection h with h
    exact h ▸ .refl s
  · obtain ⟨u, hu, hk⟩ := keepsSound_exec _ (s.setPending _)
    cases hu.symm.trans h
    exact (KeepsSound.of_gfx (gfx_setPending s _)).trans hk

/-- Settles O53: every operation of a step writes the graphics memory through canonical writes only. -/
theorem everyStepKeepsTheMemoryCanonical : Obligations.EveryStepKeepsTheMemoryCanonical :=
  fun _ _ hs h => (keepsSound_step h).memory hs

/-- Settles O57: every operation of a step that ends a pass also frees what it deferred and drops its snapshot. -/
theorem everyStepKeepsDeferralToPasses : Obligations.EveryStepKeepsDeferralToPasses :=
  fun _ _ hs h => (keepsSound_step h).pass hs

end Sys2Proof.Machine

namespace Sys2Proof.Machine

open Sys2Proof

/-! ## Directory entries, regions and notices (R4 to R6, R8, R15) -/

@[simp] theorem objEntry_setObjEntry_same (i : Fin 512) (e : ObjEntry) (s : State) :
    objEntry i (setObjEntry i e s) = e := by simp [objEntry, setObjEntry]

section Post

variable (kind : NoticeKind) (owner : Option Owner) (page : Option (Fin 32)) (index code : Half) (detail : Word)
  (flag : Bool) (s : State)

/-- A notice changes the link and nothing else (R181). -/
theorem post_eq_setLink : post kind owner page index code detail flag s =
    s.setLink (post kind owner page index code detail flag s).link := by
  unfold post
  split <;> rfl

/-- What the link becomes depends on the link, the field number and the stream time alone (R181). -/
theorem post_link_congr {t : State} (hlink : t.link = s.link) (hdisp : t.disp = s.disp) (hcues : t.cues = s.cues) :
    (post kind owner page index code detail flag t).link = (post kind owner page index code detail flag s).link := by
  unfold post
  rw [hlink, hdisp, hcues]
  split
  · rfl
  · simp [setNoticeOverflow, withConditions, hlink]

theorem post_setObjs (v : ObjectStore) : post kind owner page index code detail flag (s.setObjs v) =
    (post kind owner page index code detail flag s).setObjs v := by
  rw [post_eq_setLink, post_link_congr (t := s.setObjs v) (s := s) .. , post_eq_setLink (s := s)] <;> rfl

@[simp] theorem post_objs : (post kind owner page index code detail flag s).objs = s.objs := by
  rw [post_eq_setLink]; rfl

@[simp] theorem post_comp : (post kind owner page index code detail flag s).comp = s.comp := by
  rw [post_eq_setLink]; rfl

@[simp] theorem post_mem : (post kind owner page index code detail flag s).mem = s.mem := by
  rw [post_eq_setLink]; rfl

@[simp] theorem objEntry_post (i : Fin 512) : objEntry i (post kind owner page index code detail flag s) =
    objEntry i s := by simp [objEntry]

theorem post_setObjEntry (i : Fin 512) (e : ObjEntry) :
    post kind owner page index code detail flag (setObjEntry i e s) =
      setObjEntry i e (post kind owner page index code detail flag s) := by
  simp [setObjEntry, post_setObjs]

end Post

/-- Disc objects are entries 0 to 383, player objects the ones above (section 1.3). -/
theorem objectIndex_eq_some {lane : Owner} {n : Nat} {i : Fin 512} (h : objectIndex lane n = some i) :
    entryOwner i = lane ∧ entryId i = n ∧ n < 512 := by
  cases lane <;> simp only [objectIndex] at h <;> split at h <;> cases h
  · rename_i hn
    exact ⟨if_pos hn, if_pos hn, by omega⟩
  · exact ⟨if_neg (by simp), by simp [entryId], by omega⟩

theorem objectIndex_eq_none_iff (lane : Owner) (n : Nat) : objectIndex lane n = none ↔ objectIds lane ≤ n := by
  cases lane <;> simp [objectIndex, objectIds]

/-- An OBJECT_FAULT names the object as the part named it (R15). -/
theorem objectFault_eq {lane : Owner} {id : Half} {i : Fin 512} (h : objectIndex lane id.toNat = some i)
    (code : Half) (detail : Nat) (s : State) : objectFault i code detail s =
      post .objectFault (some lane) none id code (BitVec.ofNat 32 detail) false s := by
  obtain ⟨howner, hid, -⟩ := objectIndex_eq_some h
  simp [objectFault, howner, hid]

theorem ofNat_toNat_setWidth (b : Byte) : BitVec.ofNat 32 b.toNat = b.setWidth 32 := by
  apply BitVec.eq_of_toNat_eq
  simp

/-- Regions are released: they wait while a pass is DRAWING, and are free at once otherwise (R5, R6). -/
def released (s : State) (rs : List Region) : ObjectStore :=
  { s.objs with
    free := if s.comp.pass = .drawing then s.objs.free else rs.foldl (fun f r => giveBack r f) s.objs.free
    deferred := if s.comp.pass = .drawing then s.objs.deferred ++ rs else s.objs.deferred }

theorem releaseRegion_eq (r : Region) (s : State) : releaseRegion r s = s.setObjs (released s [r]) := by
  by_cases h : s.comp.pass = .drawing <;> simp [releaseRegion, released, passInFlight, h]

theorem released_released (s : State) (rs rs' : List Region) :
    (s.setObjs (released s rs)).setObjs (released (s.setObjs (released s rs)) rs') =
      s.setObjs (released s (rs ++ rs')) := by
  by_cases h : s.comp.pass = .drawing <;> simp [released, State.setObjs, h]

theorem releaseRegions_eq (rs : List Region) : ∀ s : State,
    rs.foldl (fun t r => releaseRegion r t) s = s.setObjs (released s rs) := by
  induction rs with
  | nil => intro s; by_cases h : s.comp.pass = .drawing <;> simp [released, State.setObjs, h]
  | cons r rs ih =>
    intro s
    rw [List.foldl_cons, ih, releaseRegion_eq, released_released, List.singleton_append]

theorem releaseOpt_eq (r : Option Region) (s : State) : releaseOpt r s = s.setObjs (released s r.toList) := by
  rw [← releaseRegions_eq]
  cases r <;> rfl

/-- What an abandoned decode leaves of its entry (R13). -/
def abandonedEntry (e : ObjEntry) : ObjEntry :=
  { e with st := if e.st = .replacing then .ready else .empty
           incoming := none, expectSeq := 0, expectBytes := 0, damage := false }

/-- Abandonment gives the entry its former state back and releases the incoming region, and nothing else (R13). -/
theorem abandonDecode_eq {i : Fin 512} {s : State} {inc : Incoming} (h : (objEntry i s).incoming = some inc) :
    abandonDecode i s = s.setObjs { released s [inc.region] with
      dir := s.objs.dir.set i (abandonedEntry (objEntry i s)) } := by
  simp only [abandonDecode, h, releaseRegion_eq]
  rfl

theorem abandonDecode_entry {i : Fin 512} {s : State} {inc : Incoming} (h : (objEntry i s).incoming = some inc) :
    objEntry i (abandonDecode i s) = abandonedEntry (objEntry i s) := by
  simp [abandonDecode_eq h, objEntry]

/-- An overrun without a decode does nothing (R13). -/
theorem overrunPart_of_none {i : Fin 512} {s : State} (h : (objEntry i s).incoming = none) : overrunPart i s = s := by
  simp [overrunPart, h]

/-- An overrun abandons the decode in flight, marks the entry to skip and posts OBJECT_FAULT OVERRUN (R13, R15). -/
theorem overrunPart_of_some {i : Fin 512} {s : State} {inc : Incoming} {lane : Owner} {id : Half}
    (h : (objEntry i s).incoming = some inc) (hid : objectIndex lane id.toNat = some i) :
    overrunPart i s = post .objectFault (some lane) none id 2 ((objEntry i s).expectSeq.setWidth 32) false
      (s.setObjs { released s [inc.region] with
        dir := s.objs.dir.set i { abandonedEntry (objEntry i s) with skipping := true } }) := by
  simp only [overrunPart, h, objectFault_eq hid, objEntry_post, abandonDecode_entry h, ← post_setObjEntry,
    ofNat_toNat_setWidth]
  rw [abandonDecode_eq h]
  simp [setObjEntry, State.setObjs, objFaultOverrun]

/-! ## The Stream Port (R164, R165) -/

theorem exec_streamByte (b : Byte) {s : State} (h : s.resetLow = false) :
    exec (.streamByte b) s = .next (presentByte b s) := by
  simp [exec, execStreamByte, awake, h]

/-- The state after an overrun, before the DISC lane abandons what it holds (R165). -/
def fifoLost (s : State) : State :=
  (s.setLink { s.link with conds := { s.link.conds with streamOverrun := true } }).setStream ⟨[], false⟩

theorem presentByte_full (b : Byte) {s : State} (h : s.link.configured = true) (hf : s.stream.fifo.length = 4096) :
    presentByte b s = serve (abandonLane (fifoLost s)) := by
  simp [presentByte, h, hf, fifoSize, overrun, setStreamOverrun, withConditions, fifoLost]

theorem presentByte_room (b : Byte) {s : State} (h : s.link.configured = true) (hf : s.stream.fifo.length < 4096) :
    presentByte b s = s.setStream ⟨s.stream.fifo ++ [b],
      if 3072 ≤ s.stream.fifo.length + 1 then true else s.stream.hold⟩ := by
  by_cases hh : 3072 ≤ s.stream.fifo.length + 1 <;>
    simp [presentByte, h, hf, fifoSize, joinByte, holdOnCount, hh]

/-- Settles O10: what an overrun does to a part in flight, then the byte by the room in the FIFO. -/
theorem streamBytesJoinTheFifo : Obligations.StreamBytesJoinTheFifo := by
  refine ⟨fun s i => ⟨overrunPart_of_none, fun inc lane id h hid => overrunPart_of_some h hid⟩, fun b s hr => ?_⟩
  simp only [exec_streamByte b hr]
  refine ⟨fun h => ?_, fun h hf => ?_, fun h hf => ?_⟩
  · simp [presentByte, h]
  · rw [presentByte_room b h hf]
  · rw [presentByte_full b h hf]
    refine ⟨fun f k len left got hp => ?_, fun hp => ?_⟩
    · have hd : (fifoLost s).recv.disc = .payload k len left got (some f) := hp
      simp only [abandonLane, hd]
      rfl
    · have hd : abandonLane (fifoLost s) = setLane laneIdle (fifoLost s) := by
        unfold abandonLane
        split
        · exact absurd (by assumption) (hp _ _ _ _ _)
        · rfl
      rw [hd]
      rfl

end Sys2Proof.Machine

namespace Sys2Proof.Machine

open Sys2Proof

/-! ## OBJECT parts (R9 to R14) -/

/-- A segment row on an open lane is judged and handed over whole. -/
theorem awake_arriveSegment {s : State} (h : laneOpen s = true) (lane : Owner) (kind : Byte) (p : List Byte) :
    awake (arriveSegment lane kind p) s = wholeSegment lane kind p s := by
  simp only [laneOpen, Bool.and_eq_true, Bool.not_eq_true'] at h
  simp [awake, arriveSegment, h]

theorem wholeSegment_object (lane : Owner) (p : List Byte) (s : State) (h : 4 ≤ p.length) :
    wholeSegment lane kindObject p s = takePart lane p s := by
  have hjudged : headerFault lane kindObject p.length = none := by
    simp [headerFault, isKind, kindObject, kindEdition, kindTime, kindPage, kindMinimum, kindPalette]
    omega
  simp only [wholeSegment, hjudged]
  simp [handSegment, kindObject, kindEdition, kindTime, kindPalette]

/-- The two bytes of a field read back (R188). -/
theorem halfBytes_append (h : Half) : h.extractLsb' 8 8 ++ h.extractLsb' 0 8 = h := by
  ext i hi
  simp
  grind

/-- The four bytes of a field read back (R188). -/
theorem wordBytes_append (w : Word) :
    (w.extractLsb' 24 8 ++ w.extractLsb' 16 8) ++ (w.extractLsb' 8 8 ++ w.extractLsb' 0 8) = w := by
  ext i hi
  simp
  grind

theorem partFlags_bits (first last : Bool) :
    (partFlags first last).getLsbD 0 = first ∧ (partFlags first last).getLsbD 1 = last := by
  revert first last
  decide

theorem parsePart_firstPartPayload (id : Half) (last : Bool) (seq : Byte) (w h : Half) (total : Word)
    (data : List Byte) : parsePart (firstPartPayload id last seq w h total data) =
      ⟨id, true, last, seq, w.toNat, h.toNat, total⟩ := by
  obtain ⟨hfirst, hlast⟩ := partFlags_bits true last
  simp only [parsePart, firstPartPayload, halfAt, wordAt, byteAt, halfBytes, wordBytes, List.cons_append,
    List.nil_append, List.getD_cons_zero, List.getD_cons_succ, hfirst, hlast, halfBytes_append, wordBytes_append]

theorem parsePart_laterPartPayload (id : Half) (last : Bool) (seq : Byte) (data : List Byte) :
    (parsePart (laterPartPayload id last seq data)).id = id ∧
      (parsePart (laterPartPayload id last seq data)).first = false ∧
      (parsePart (laterPartPayload id last seq data)).last = last ∧
      (parsePart (laterPartPayload id last seq data)).seq = seq := by
  obtain ⟨hfirst, hlast⟩ := partFlags_bits false last
  simp only [parsePart, laterPartPayload, halfAt, byteAt, halfBytes, List.cons_append,
    List.nil_append, List.getD_cons_zero, List.getD_cons_succ, hfirst, hlast, halfBytes_append, and_self]

/-- A FIRST part that arrives on an open lane (R9, R10). -/
theorem exec_objectFirstPart {s : State} (h : laneOpen s = true) (lane : Owner) (id : Half) (last : Bool)
    (seq : Byte) (w ht : Half) (total : Word) (data : List Byte) :
    exec (.objectFirstPart lane id last seq w ht total data) s = .next (
      match beginPart lane ⟨id, true, last, seq, w.toNat, ht.toNat, total⟩ s with
      | (t, none) => t
      | (t, some i) => (if last = true then completeObject i else fun t => t) (feedBytes i data t)) := by
  have hlen : (firstPartPayload id last seq w ht total data).length = 12 + data.length := by
    simp [firstPartPayload, halfBytes, wordBytes]; omega
  have hdrop : (firstPartPayload id last seq w ht total data).drop 12 = data := by
    simp [firstPartPayload, halfBytes, wordBytes]
  simp only [exec, execObjectFirstPart, awake_arriveSegment h]
  rw [wholeSegment_object _ _ _ (by omega)]
  simp only [takePart, parsePart_firstPartPayload, hlen, partFixed, if_true, hdrop]
  rw [if_neg (by simp)]
  rcases beginPart lane ⟨id, true, last, seq, w.toNat, ht.toNat, total⟩ s with ⟨t, _ | i⟩
  · rfl
  · cases last <;> rfl

/-- A later part that arrives on an open lane (R9, R12). -/
theorem exec_objectPart {s : State} (h : laneOpen s = true) (lane : Owner) (id : Half) (last : Bool)
    (seq : Byte) (data : List Byte) :
    exec (.objectPart lane id last seq data) s = .next (
      match beginPart lane (parsePart (laterPartPayload id last seq data)) s with
      | (t, none) => t
      | (t, some i) => (if last = true then completeObject i else fun t => t) (feedBytes i data t)) := by
  obtain ⟨-, hfirst, hlast, -⟩ := parsePart_laterPartPayload id last seq data
  have hlen : (laterPartPayload id last seq data).length = 4 + data.length := by
    simp [laterPartPayload, halfBytes]; omega
  have hdrop : (laterPartPayload id last seq data).drop 4 = data := by
    simp [laterPartPayload, halfBytes]
  simp only [exec, execObjectPart, awake_arriveSegment h]
  rw [wholeSegment_object _ _ _ (by omega)]
  simp only [takePart, hfirst, hlast, partFixed, Bool.false_eq_true, if_false, hdrop, Bool.false_and]
  rcases beginPart lane (parsePart (laterPartPayload id last seq data)) s with ⟨t, _ | i⟩
  · rfl
  · cases last <;> rfl

/-- A part with a field out of range is refused at the field's offset (R9). -/
theorem beginPart_fault {lane : Owner} {h : PartHead} {o : Nat} (hf : partFault lane h = some o) (s : State) :
    beginPart lane h s = (segmentFaultNotice lane 0x11 0x03 h.id o s, none) := by
  simp only [beginPart, hf]
  rfl

/-- A part whose fields are in range reaches its entry (R9). -/
theorem beginPart_pass {lane : Owner} {h : PartHead} {i : Fin 512} (hf : partFault lane h = none)
    (hi : objectIndex lane h.id.toNat = some i) (s : State) :
    beginPart lane h s = let r := if h.first then firstPart i h s else laterPart i h s
      (r.1, if r.2 then some i else none) := by
  simp only [beginPart, hf, hi]

theorem not_objectIds_le {lane : Owner} {n : Nat} {i : Fin 512} (h : objectIndex lane n = some i) :
    ¬ objectIds lane ≤ n := fun hn => by
  rw [(objectIndex_eq_none_iff lane n).2 hn] at h
  cases h

/-- A FIRST part abandons a decode in progress with OBJECT_FAULT SEQUENCE before anything else (R10). -/
theorem firstPart_of_decoding {lane : Owner} {h : PartHead} {i : Fin 512} {s : State} {inc : Incoming}
    (hi : objectIndex lane h.id.toNat = some i) (hinc : (objEntry i s).incoming = some inc) :
    firstPart i h s = firstPart i h (post .objectFault (some lane) none h.id 0
      ((objEntry i s).expectSeq.setWidth 32) false (abandonDecode i s)) := by
  have hnone : (objEntry i (abandonDecode i s)).incoming = none := by
    rw [abandonDecode_entry hinc]; rfl
  simp only [firstPart, hinc, objectFault_eq hi, objEntry_post, hnone, ofNat_toNat_setWidth, objFaultSequence]

/-- A FIRST part whose granules are free starts a new decode (R10, R11). -/
theorem firstPart_of_room {h : PartHead} {i : Fin 512} {s : State} {r : Region} {free : List Region}
    (hinc : (objEntry i s).incoming = none)
    (ha : allocate (granulesFor h.width h.height) s.objs.free = some (r, free)) :
    firstPart i h s = (s.setObjs { s.objs with
      free := free
      dir := s.objs.dir.set i { objEntry i s with
        st := if (objEntry i s).st = .ready then .replacing else .loading
        incoming := some ⟨r, h.width, h.height, 0, 0, .idle⟩
        expectSeq := 1, expectBytes := h.total, damage := false, skipping := false } }, true) := by
  simp only [firstPart, hinc, ha]
  rfl

/-- A FIRST part for which the heap has no room marks its entry to skip (R11). -/
theorem firstPart_of_no_room {lane : Owner} {h : PartHead} {i : Fin 512} {s : State}
    (hi : objectIndex lane h.id.toNat = some i) (hinc : (objEntry i s).incoming = none)
    (ha : allocate (granulesFor h.width h.height) s.objs.free = none) :
    firstPart i h s = (setObjEntry i { objEntry i s with skipping := true }
      (setHeapFull (post .objectFault (some lane) none h.id 1
        (BitVec.ofNat 32 (granulesFor h.width h.height)) false s)), false) := by
  simp only [firstPart, hinc, ha, objectFault_eq hi, objFaultNoSpace]

theorem laneOpen_post (kind : NoticeKind) (owner : Option Owner) (page : Option (Fin 32)) (index code : Half)
    (detail : Word) (flag : Bool) (s : State) :
    laneOpen (post kind owner page index code detail flag s) = laneOpen s := by
  unfold post
  split <;> rfl

theorem laneOpen_abandonDecode (i : Fin 512) (s : State) : laneOpen (abandonDecode i s) = laneOpen s := by
  cases hinc : (objEntry i s).incoming with
  | none => simp [abandonDecode, hinc]
  | some inc => rw [abandonDecode_eq hinc]; rfl

/-- The checks of a FIRST part in field order (R9). -/
theorem partFault_first (lane : Owner) (id : Half) (last : Bool) (seq : Byte) (w h : Nat) (total : Word) :
    partFault lane ⟨id, true, last, seq, w, h, total⟩ =
      if objectIds lane ≤ id.toNat then some 0 else if seq ≠ 0 then some 3
      else if w = 0 ∨ 1920 < w then some 4 else if h = 0 ∨ 1080 < h then some 6 else none := by
  simp [partFault, firstFault]

theorem half_eq_zero_iff (h : Half) : h = 0 ↔ h.toNat = 0 :=
  ⟨fun e => by simp [e], fun e => BitVec.eq_of_toNat_eq e⟩

/-- Settles O19: the checks in field order, the abandonment of a decode in progress, the allocation. -/
theorem firstPartStartsADecode : Obligations.FirstPartStartsADecode := by
  intro lane id last seq w h total data s hs part n
  let head : PartHead := ⟨id, true, last, seq, w.toNat, h.toNat, total⟩
  have hpart : ∀ {t}, laneOpen t = true → exec part t = _ := fun ht =>
    exec_objectFirstPart ht lane id last seq w h total data
  have hfault : ∀ o, partFault lane head = some o →
      exec part s = .next (segmentFaultNotice lane 0x11 0x03 id o s) := fun o ho => by
    rw [hpart hs, beginPart_fault ho]
  have hchecks : partFault lane head = _ := partFault_first lane id last seq w.toNat h.toNat total
  refine ⟨fun hi => hfault 0 ?_, fun i hi => ?_⟩
  · rw [hchecks, if_pos ((objectIndex_eq_none_iff _ _).1 hi)]
  rw [if_neg (not_objectIds_le hi)] at hchecks
  simp only [half_eq_zero_iff, ne_eq]
  refine ⟨fun hseq => hfault 3 ?_, fun hseq hw => hfault 4 ?_, fun hseq hw hw' hh => hfault 6 ?_,
    fun hseq hw hw' hh hh' => ?_⟩
  · rw [hchecks, if_pos hseq]
  · rw [hchecks, if_neg (not_not.2 hseq), if_pos hw]
  · rw [hchecks, if_neg (not_not.2 hseq), if_neg (by omega), if_pos hh]
  · have hpass : partFault lane head = none := by
      rw [hchecks, if_neg (not_not.2 hseq), if_neg (by omega), if_neg (by omega)]
    have hbegin (t : State) : beginPart lane head t = _ := beginPart_pass hpass hi t
    refine ⟨fun inc hinc => ?_, fun r free hinc ha => ?_, fun hinc ha => ?_⟩
    · have ht := (laneOpen_post .objectFault (some lane) none id 0 ((objEntry i s).expectSeq.setWidth 32) false
        (abandonDecode i s)).trans ((laneOpen_abandonDecode i s).trans hs)
      rw [hpart hs, hpart ht, hbegin, hbegin]
      simp only [head, if_true, firstPart_of_decoding (h := head) hi hinc]
    · rw [hpart hs, hbegin]
      simp only [head, if_true, firstPart_of_room (h := head) hinc ha]
    · rw [hpart hs, hbegin]
      simp only [head, if_true, firstPart_of_no_room (h := head) hi hinc ha]
      rfl

/-- A later part with the expected number goes on with the decode (R12). -/
theorem laterPart_of_expected {h : PartHead} {i : Fin 512} {s : State} {inc : Incoming}
    (hinc : (objEntry i s).incoming = some inc) (hseq : h.seq = (objEntry i s).expectSeq) :
    laterPart i h s = (s.setObjs { s.objs with
      dir := s.objs.dir.set i { objEntry i s with expectSeq := (objEntry i s).expectSeq + 1 } }, true) := by
  simp only [laterPart, hinc, hseq, if_true]
  rfl

/-- A later part with another number is a sequence fault (R14). -/
theorem laterPart_of_unexpected {lane : Owner} {h : PartHead} {i : Fin 512} {s : State} {inc : Incoming}
    (hi : objectIndex lane h.id.toNat = some i) (hinc : (objEntry i s).incoming = some inc)
    (hseq : h.seq ≠ (objEntry i s).expectSeq) :
    laterPart i h s = (setObjEntry i { objEntry i (abandonDecode i s) with skipping := true }
      (post .objectFault (some lane) none h.id 0 (h.seq.setWidth 32) false (abandonDecode i s)), false) := by
  simp only [laterPart, hinc, hseq, if_false, objectFault_eq hi, ofNat_toNat_setWidth, objFaultSequence]

/-- A later part without a decode is a sequence fault, unless the entry is marked to skip (R14). -/
theorem laterPart_of_none {lane : Owner} {h : PartHead} {i : Fin 512} {s : State}
    (hi : objectIndex lane h.id.toNat = some i) (hinc : (objEntry i s).incoming = none) :
    laterPart i h s = if (objEntry i s).skipping = true then (s, false)
      else (setObjEntry i { objEntry i s with skipping := true }
        (post .objectFault (some lane) none h.id 0 (h.seq.setWidth 32) false s), false) := by
  simp only [laterPart, hinc, objectFault_eq hi, ofNat_toNat_setWidth, objFaultSequence]

/-- The object store after completion: the incoming region is current, the former one is released (R12). -/
def completedObjs (i : Fin 512) (inc : Incoming) (s : State) : ObjectStore :=
  { released s (objEntry i s).current.toList with dir := s.objs.dir.set i (completedEntry (objEntry i s) inc) }

/-- The data of an object was damaged, or is short (R17). -/
abbrev isDamaged (e : ObjEntry) (inc : Incoming) : Prop :=
  e.damage = true ∨ e.expectBytes ≠ 0 ∨ inc.row < inc.height

/-- Completion (R12): the memory, the store, the notices, the recompose request. -/
theorem completeObject_eq {lane : Owner} {id : Half} {i : Fin 512} {s : State} {inc : Incoming}
    (hi : objectIndex lane id.toNat = some i) (hinc : (objEntry i s).incoming = some inc) :
    completeObject i s =
      let current := (s.setMem (if inc.row < inc.height then
          zeroFill inc.region (inc.row * inc.width + inc.col) (inc.width * inc.height) s.mem
        else s.mem)).setObjs (completedObjs i inc s)
      let told := if isDamaged (objEntry i s) inc then
          post .objectFault (some lane) none id 3 0 false current else current
      raiseRecompose (if lane = .player then
        post .objectReady (some .player) none id (BitVec.ofNat 16 inc.width) (BitVec.ofNat 32 inc.height) false told
        else told) := by
  obtain ⟨howner, hid, -⟩ := objectIndex_eq_some hi
  have hdamaged : ((objEntry i s).damage || (objEntry i s).expectBytes != 0 || decide (inc.row < inc.height)) = true ↔
      isDamaged (objEntry i s) inc := by
    simp [isDamaged, or_assoc]
  simp only [completeObject, hinc, objectFault_eq hi, hdamaged, howner, hid, releaseOpt_eq, objFaultDamaged,
    BitVec.ofNat_toNat, BitVec.setWidth_eq, decide_eq_true_eq]
  rfl

/-- The bytes that completion leaves: what is missing is padded (R12, R17). -/
theorem completeObject_mem {i : Fin 512} {s : State} {inc : Incoming} (hinc : (objEntry i s).incoming = some inc) :
    (completeObject i s).mem = if inc.row < inc.height then
        zeroFill inc.region (inc.row * inc.width + inc.col) (inc.width * inc.height) s.mem
      else s.mem := by
  simp only [completeObject, hinc, decide_eq_true_eq, releaseOpt_eq]
  (repeat' split) <;> simp [raiseRecompose, objectFault, setObjEntry]

theorem completeObject_objs {i : Fin 512} {s : State} {inc : Incoming} (hinc : (objEntry i s).incoming = some inc) :
    (completeObject i s).objs = completedObjs i inc s := by
  simp only [completeObject, hinc, releaseOpt_eq]
  (repeat' split) <;> simp [raiseRecompose, objectFault] <;> rfl

/-- The check of a later part: the id alone (R9). -/
theorem partFault_later (lane : Owner) {h : PartHead} (hfirst : h.first = false) :
    partFault lane h = if objectIds lane ≤ h.id.toNat then some 0 else none := by
  simp [partFault, firstFault, hfirst]

/-- Settles O20: the part by its number and the entry's decode, then what completion leaves. -/
theorem laterPartsContinueOrFault : Obligations.LaterPartsContinueOrFault := by
  intro lane id last seq data s hs
  obtain ⟨hid, hfirst, -, hseq⟩ := parsePart_laterPartPayload id last seq data
  rw [exec_objectPart hs]
  generalize parsePart (laterPartPayload id last seq data) = head at hid hfirst hseq ⊢
  subst hid hseq
  have hcheck := partFault_later lane hfirst
  refine ⟨fun hi => ?_, fun i hi => ?_⟩
  · rw [beginPart_fault (hcheck.trans (if_pos ((objectIndex_eq_none_iff _ _).1 hi)))]
  have hbegin : beginPart lane head s = _ :=
    beginPart_pass (hcheck.trans (if_neg (not_objectIds_le hi))) hi s
  simp only [hfirst, Bool.false_eq_true, if_false] at hbegin
  rw [hbegin]
  refine ⟨fun inc hinc hseq => ?_, fun inc hinc hseq => ⟨?_, abandonDecode_eq hinc⟩, fun hinc hskip => ?_,
    fun hinc hskip => ?_, fun inc hinc => ⟨?_, ?_, ?_⟩⟩
  · rw [laterPart_of_expected hinc hseq]
    rfl
  · rw [laterPart_of_unexpected hi hinc hseq]
    rfl
  · rw [laterPart_of_none hi hinc, if_pos hskip]
    rfl
  · rw [laterPart_of_none hi hinc, if_neg (by simp [hskip])]
    rfl
  · simp [objEntry, completeObject_objs hinc, completedObjs, completedEntry]
  · simp only [completeObject, hinc]
    rfl
  · have heq := completeObject_eq hi hinc
    rw [completeObject_mem hinc]
    exact heq

end Sys2Proof.Machine

namespace Sys2Proof.Machine

open Sys2Proof

/-! ## The heap: first fit and coalescing (R4, R5) -/

theorem allocate_eq_none_iff (n : Nat) (l : List Region) : allocate n l = none ↔ ∀ e ∈ l, e.count < n := by
  induction l with
  | nil => simp [allocate]
  | cons e es ih =>
    simp only [allocate, List.forall_mem_cons]
    rcases Nat.lt_trichotomy e.count n with h | h | h
    · rw [if_neg (by omega), if_neg (by omega), Option.map_eq_none_iff, ih]
      exact ⟨fun hes => ⟨h, hes⟩, And.right⟩
    · simp [h]
    · rw [if_neg (by omega), if_pos h]
      exact iff_of_false (by simp) (fun hn => by omega)

/-- The first extent that is large enough gives its lowest granules (R4). -/
theorem allocate_first_fit {n : Nat} {e : Region} (before after : List Region) (hsmall : ∀ x ∈ before, x.count < n)
    (hlarge : n ≤ e.count) : allocate n (before ++ e :: after) = some (⟨e.start, n⟩,
      before ++ (if e.count = n then after else ⟨e.start + n, e.count - n⟩ :: after)) := by
  induction before with
  | nil =>
    simp only [List.nil_append, allocate]
    split
    · rename_i h; simp [← h]
    · rw [if_pos (by omega)]
  | cons x before ih =>
    have hx : x.count < n := hsmall x (by simp)
    simp only [List.cons_append, allocate]
    rw [if_neg (by omega), if_neg (by omega), ih (fun y hy => hsmall y (by simp [hy]))]
    rfl

/-- The granule lies in the region. -/
def holdsGranule (e : Region) (g : Nat) : Prop := e.start ≤ g ∧ g < e.start + e.count

/-- The granule lies in a region of the list. -/
def freeAt (l : List Region) (g : Nat) : Prop := ∃ e ∈ l, holdsGranule e g

theorem freeAt_cons (e : Region) (l : List Region) (g : Nat) : freeAt (e :: l) g ↔ holdsGranule e g ∨ freeAt l g := by
  simp [freeAt]

/-- Two extents that touch are one. -/
theorem holdsGranule_join (e u : Region) (h : e.start + e.count = u.start) (g : Nat) :
    holdsGranule ⟨e.start, e.count + u.count⟩ g ↔ holdsGranule e g ∨ holdsGranule u g := by
  simp only [holdsGranule]
  omega

theorem absorbUpper_sum (e : Region) (l : List Region) :
    ((absorbUpper e l).map Region.count).sum = e.count + (l.map Region.count).sum := by
  cases l with
  | nil => simp [absorbUpper]
  | cons u us => simp only [absorbUpper]; split <;> simp [Nat.add_assoc]

theorem freeAt_absorbUpper (e : Region) (l : List Region) (g : Nat) :
    freeAt (absorbUpper e l) g ↔ holdsGranule e g ∨ freeAt l g := by
  cases l with
  | nil => simp [absorbUpper, freeAt]
  | cons u us =>
    simp only [absorbUpper]
    split
    · rename_i h
      rw [freeAt_cons, holdsGranule_join e u h, freeAt_cons, or_assoc]
    · rw [freeAt_cons]

theorem giveBack_sum (r : Region) (l : List Region) :
    ((giveBack r l).map Region.count).sum = (l.map Region.count).sum + r.count := by
  induction l with
  | nil => simp [giveBack]
  | cons e es ih =>
    simp only [giveBack]
    split
    · simp [ih, Nat.add_assoc]
    split
    · rw [absorbUpper_sum]; simp; omega
    · rw [absorbUpper_sum]; simp; omega

theorem freeAt_giveBack (r : Region) (l : List Region) (g : Nat) :
    freeAt (giveBack r l) g ↔ holdsGranule r g ∨ freeAt l g := by
  induction l with
  | nil => simp [giveBack, freeAt]
  | cons e es ih =>
    simp only [giveBack]
    split
    · rw [freeAt_cons, ih, freeAt_cons]; tauto
    split
    · rename_i h
      rw [freeAt_absorbUpper, holdsGranule_join e r h, freeAt_cons]; tauto
    · rw [freeAt_absorbUpper]

/-- No extent of the list touches or passes the next (R5). -/
def coalesced (l : List Region) : Prop := l.Pairwise (fun x y => x.start + x.count < y.start)

/-- What starts above an extent and stays coalesced with it. -/
theorem coalesced_absorbUpper {e : Region} {l : List Region} (hl : coalesced l)
    (habove : ∀ x ∈ l, e.start + e.count ≤ x.start) (hcount : ∀ x ∈ l, 1 ≤ x.count) :
    coalesced (absorbUpper e l) := by
  cases l with
  | nil => simp [absorbUpper, coalesced]
  | cons u us =>
    obtain ⟨hu, hus⟩ := List.pairwise_cons.1 hl
    simp only [absorbUpper]
    split
    · rename_i h
      refine List.pairwise_cons.2 ⟨fun y hy => ?_, hus⟩
      have := hu y hy
      simp only
      omega
    · refine List.pairwise_cons.2 ⟨fun y hy => ?_, hl⟩
      have hle := habove u (by simp)
      rcases List.mem_cons.1 hy with rfl | hy
      · omega
      · have := hu y hy
        omega

/-- Everything in a list with a region given back starts at the region or at an extent of the list, or above. -/
theorem le_start_giveBack {r : Region} {l : List Region} {b : Nat} (hr : b ≤ r.start) (hl : ∀ x ∈ l, b ≤ x.start) :
    ∀ x ∈ giveBack r l, b ≤ x.start := by
  have habsorb (e : Region) (es : List Region) (he : b ≤ e.start) (hes : ∀ x ∈ es, b ≤ x.start) :
      ∀ x ∈ absorbUpper e es, b ≤ x.start := by
    cases es with
    | nil => simpa [absorbUpper] using he
    | cons u us =>
      simp only [absorbUpper]
      split <;> simp_all
  induction l with
  | nil => simpa [giveBack] using hr
  | cons e es ih =>
    have he := hl e (by simp)
    have hes : ∀ x ∈ es, b ≤ x.start := fun x hx => hl x (by simp [hx])
    simp only [giveBack]
    split
    · exact List.forall_mem_cons.2 ⟨he, ih hes⟩
    split
    · exact habsorb _ _ he hes
    · exact habsorb _ _ hr hl

/-- A region that lies between the extents keeps the list coalesced (R5). -/
theorem coalesced_giveBack {r : Region} {l : List Region} (hl : coalesced l)
    (hapart : ∀ e ∈ l, e.start + e.count ≤ r.start ∨ r.start + r.count ≤ e.start)
    (hcount : ∀ e ∈ l, 1 ≤ e.count) : coalesced (giveBack r l) := by
  induction l with
  | nil => simp [giveBack, coalesced]
  | cons e es ih =>
    obtain ⟨he, hes⟩ := List.pairwise_cons.1 hl
    have hcounts : ∀ x ∈ es, 1 ≤ x.count := fun x hx => hcount x (by simp [hx])
    have haparts : ∀ x ∈ es, x.start + x.count ≤ r.start ∨ r.start + r.count ≤ x.start :=
      fun x hx => hapart x (by simp [hx])
    simp only [giveBack]
    split
    · rename_i hlow
      refine List.pairwise_cons.2 ⟨fun y hy => ?_, ih hes haparts hcounts⟩
      exact le_start_giveBack (b := e.start + e.count + 1) hlow he y hy
    split
    · rename_i htouch
      refine coalesced_absorbUpper hes (fun x hx => ?_) hcounts
      have := he x hx
      have := haparts x hx
      have := hcounts x hx
      simp only
      omega
    · refine coalesced_absorbUpper hl (fun x hx => ?_) hcount
      have := hapart e (by simp)
      rcases List.mem_cons.1 hx with rfl | hx
      · omega
      · have := he x hx
        omega

/-- Settles O50: first fit by induction on the list, release by the place where the region goes back. -/
theorem heapAllocatesAndReleases : Obligations.HeapAllocatesAndReleases := by
  refine ⟨fun n l => ⟨allocate_eq_none_iff n l, ?_⟩, fun r l => ⟨giveBack_sum r l, freeAt_giveBack r l,
    fun hl hapart _ hcount => coalesced_giveBack hl hapart hcount⟩⟩
  rintro before e after rfl hsmall hlarge
  exact allocate_first_fit before after hsmall hlarge

/-! ## The invariants at reset -/

/-- Settles O59: each invariant is read off the reset state. -/
theorem invariantsHoldAtReset : Obligations.InvariantsHoldAtReset := by
  refine ⟨Memory.wf_reset, by decide, by decide, fun i => ?_, fun h => absurd rfl h, fun _ => ⟨rfl, rfl⟩,
    by simp [queueSound, State.reset], by decide⟩
  simp [cueSlot, State.reset, cueSlotSound]

end Sys2Proof.Machine

namespace Sys2Proof.Machine

open Sys2Proof

/-! ## The run-length decode (R16, R17) -/

/-- A padded run of pixels reads as index 0, and no other byte changes (R17). -/
theorem read_zeroFill (r : Region) (lo hi : Nat) (m : Memory) (a : Addr) :
    (zeroFill r lo hi m).read a = if inRegion r lo hi a = true then 0 else m.read a := by
  rw [zeroFill, Memory.read_restore]
  change (if inRegion r lo hi a = true then _ else _) = _
  by_cases h : inRegion r lo hi a = true
  · have hheap : ¬ a.toNat < imageBase := by
      simp only [inRegion, Bool.and_eq_true, decide_eq_true_eq] at h
      unfold heapBase at h
      unfold imageBase
      omega
    rw [if_pos h, if_pos h, unlisted, if_neg hheap]
  · rw [if_neg h, if_neg h]

/-- The n pixels from the current position on, as far as the row goes, hold the index, and no other byte of the
memory has changed. -/
def pixelsWritten (inc : Incoming) (n : Nat) (index : Byte) (m m' : Memory) : Prop :=
  (∀ c, inc.col ≤ c → c < inc.col + n → c < inc.width →
    m'.read (regionAddr inc.region (inc.row * inc.width + c)) = index) ∧
  ∀ a : Addr, (∀ c, inc.col ≤ c → c < inc.col + n → c < inc.width →
    a ≠ regionAddr inc.region (inc.row * inc.width + c)) → m'.read a = m.read a

/-- A run of n pixels moves the position up to the end of the row at most, and damages the data where it is cut. -/
theorem putRun_inc_damage (index : Byte) (n : Nat) : ∀ d : Decoding,
    (putRun index n d).inc = { d.inc with col := max d.inc.col (min (d.inc.col + n) d.inc.width) } ∧
      (putRun index n d).damage = (d.damage || decide (n ≠ 0 ∧ d.inc.width < d.inc.col + n)) := by
  induction n with
  | zero => intro d; simp [putRun]
  | succ n ih =>
    intro d
    obtain ⟨hinc, hdamage⟩ := ih (putPixel index d)
    rw [putRun, hinc, hdamage]
    by_cases h : d.inc.col < d.inc.width
    · have hmax : max (d.inc.col + 1) (min (d.inc.col + 1 + n) d.inc.width) =
          max d.inc.col (min (d.inc.col + (n + 1)) d.inc.width) := by omega
      have hcut : (n ≠ 0 ∧ d.inc.width < d.inc.col + 1 + n) ↔ (n + 1 ≠ 0 ∧ d.inc.width < d.inc.col + (n + 1)) := by
        omega
      simp only [putPixel, h, if_true, hmax, hcut, and_self]
    · have hmax : max d.inc.col (min (d.inc.col + n) d.inc.width) =
          max d.inc.col (min (d.inc.col + (n + 1)) d.inc.width) := by omega
      have hcut : n + 1 ≠ 0 ∧ d.inc.width < d.inc.col + (n + 1) := by omega
      simp [putPixel, h, hmax, hcut]

theorem pixelsWritten_putRun (index : Byte) (n : Nat) : ∀ d : Decoding, d.mem.wf = true →
    pixelsWritten d.inc n index d.mem (putRun index n d).mem := by
  induction n with
  | zero => exact fun d _ => ⟨fun c h h' => by omega, fun a _ => rfl⟩
  | succ n ih =>
    intro d hwf
    obtain ⟨hin, hout⟩ := ih (putPixel index d) (wf_putPixel index d hwf)
    by_cases h : d.inc.col < d.inc.width
    · simp only [putPixel, h, if_true] at hin hout
      have hput : putPixel index d = _ := if_pos h
      rw [putRun, hput]
      refine ⟨fun c hc hc' hw => ?_, fun a ha => ?_⟩
      · by_cases hlater : ∃ c', d.inc.col + 1 ≤ c' ∧ c' < d.inc.col + 1 + n ∧ c' < d.inc.width ∧
            regionAddr d.inc.region (d.inc.row * d.inc.width + c) =
              regionAddr d.inc.region (d.inc.row * d.inc.width + c')
        · obtain ⟨c', h1, h2, h3, heq⟩ := hlater
          rw [heq]
          exact hin c' h1 h2 h3
        · have hfirst : c = d.inc.col := by
            by_contra hne
            exact hlater ⟨c, by omega, by omega, hw, rfl⟩
          subst hfirst
          rw [hout _ fun c' h1 h2 h3 heq => hlater ⟨c', h1, h2, h3, heq⟩]
          exact Memory.read_write_same hwf _ _
      · rw [hout a fun c h1 h2 h3 => ha c (by omega) (by omega) h3]
        exact Memory.read_write_ne _ _ (ha d.inc.col (by omega) (by omega) h)
    · have hput : putPixel index d = { d with damage := true } := if_neg h
      rw [putRun, hput]
      rw [hput] at hout
      refine ⟨fun c hc _ hw => by omega, fun a _ => hout a fun c hc _ hw => ?_⟩
      have hc' : d.inc.col ≤ c := hc
      have hw' : c < d.inc.width := hw
      omega

/-! ### One decoded byte -/

theorem decodeByte_beyond (b : Byte) {d : Decoding} (h : d.inc.height ≤ d.inc.row) :
    decodeByte b d = { d with damage := true } := if_pos h

theorem decodeByte_end {d : Decoding} (h : d.inc.row < d.inc.height) (ht : d.inc.token = .idle) :
    decodeByte 0 d = endRow d := by
  simp [decodeByte, ht, Nat.not_le.2 h]

theorem decodeByte_literalLead {b : Byte} {d : Decoding} (h : d.inc.row < d.inc.height) (ht : d.inc.token = .idle)
    (hb : 1 ≤ b.toNat) (hb' : b.toNat < 0x80) :
    decodeByte b d = { d with inc := { d.inc with token := .literal b.toNat } } := by
  have hne : b ≠ 0 := fun e => by simp [e] at hb
  simp only [decodeByte, ht, Nat.not_le.2 h, hne, hb', if_true, if_false]

theorem decodeByte_runLead {b : Byte} {d : Decoding} (h : d.inc.row < d.inc.height) (ht : d.inc.token = .idle)
    (hb : 0x80 ≤ b.toNat) : decodeByte b d = { d with inc := { d.inc with token := .run b } } := by
  have hne : b ≠ 0 := fun e => by simp [e] at hb
  simp only [decodeByte, ht, Nat.not_le.2 h, hne, Nat.not_lt.2 hb, if_false]

theorem decodeByte_literal (b : Byte) {d : Decoding} {n : Nat} (h : d.inc.row < d.inc.height)
    (ht : d.inc.token = .literal n) : decodeByte b d = { putRun b 1 d with
      inc := { (putRun b 1 d).inc with token := if n ≤ 1 then .idle else .literal (n - 1) } } := by
  simp only [decodeByte, ht, Nat.not_le.2 h, if_false]
  rfl

theorem decodeByte_run (b lead : Byte) {d : Decoding} (h : d.inc.row < d.inc.height)
    (ht : d.inc.token = .run lead) : decodeByte b d = { putRun b (lead.toNat - 0x80 + 2) d with
      inc := { (putRun b (lead.toNat - 0x80 + 2) d).inc with token := .idle } } := by
  simp only [decodeByte, ht, Nat.not_le.2 h, if_false]

/-- The end of a row pads the rest of it (R16, R17). -/
theorem read_endRow (d : Decoding) (a : Addr) : (endRow d).mem.read a =
    if inRegion d.inc.region (d.inc.row * d.inc.width + d.inc.col) (d.inc.row * d.inc.width + d.inc.width) a = true
    then 0 else d.mem.read a := by
  simp only [endRow]
  split
  · exact read_zeroFill ..
  · rw [if_neg]
    simp only [inRegion, Bool.and_eq_true, decide_eq_true_eq]
    omega

/-! ### One byte of an object's data -/

theorem feedByte_unexpected {i : Fin 512} {s : State} {inc : Incoming} (b : Byte)
    (hinc : (objEntry i s).incoming = some inc) (he : (objEntry i s).expectBytes = 0) :
    feedByte i b s = setObjEntry i { objEntry i s with damage := true } s := by
  simp only [feedByte, hinc, he, if_true]

/-- An expected byte is counted and decoded (R16). -/
theorem feedByte_expected {i : Fin 512} {s : State} {inc : Incoming} (b : Byte)
    (hinc : (objEntry i s).incoming = some inc) (he : (objEntry i s).expectBytes ≠ 0) :
    feedByte i b s = (s.setMem (decodeByte b ⟨s.mem, inc, (objEntry i s).damage⟩).mem).setObjs { s.objs with
      dir := s.objs.dir.set i { objEntry i s with
        incoming := some (decodeByte b ⟨s.mem, inc, (objEntry i s).damage⟩).inc
        damage := (decodeByte b ⟨s.mem, inc, (objEntry i s).damage⟩).damage
        expectBytes := (objEntry i s).expectBytes - 1 } } := by
  simp only [feedByte, hinc, he, if_false]
  rfl

/-- The byte has been decoded to this record and this damage: nothing else of the machine but the memory has changed. -/
def countedAs (i : Fin 512) (s t : State) (inc' : Incoming) (damaged : Bool) : Prop :=
  t = ((s.setMem t.mem).setObjs { s.objs with
    dir := s.objs.dir.set i { objEntry i s with
      incoming := some inc', damage := (objEntry i s).damage || damaged
      expectBytes := (objEntry i s).expectBytes - 1 } })

theorem countedAs_feedByte {i : Fin 512} {s : State} {inc inc' : Incoming} {b : Byte} {damaged : Bool}
    (hinc : (objEntry i s).incoming = some inc) (he : (objEntry i s).expectBytes ≠ 0)
    (hrecord : (decodeByte b ⟨s.mem, inc, (objEntry i s).damage⟩).inc = inc')
    (hdamage : (decodeByte b ⟨s.mem, inc, (objEntry i s).damage⟩).damage = ((objEntry i s).damage || damaged)) :
    countedAs i s (feedByte i b s) inc' damaged := by
  rw [feedByte_expected b hinc he, hrecord, hdamage]
  rfl

theorem feedByte_mem {i : Fin 512} {s : State} {inc : Incoming} (b : Byte)
    (hinc : (objEntry i s).incoming = some inc) (he : (objEntry i s).expectBytes ≠ 0) :
    (feedByte i b s).mem = (decodeByte b ⟨s.mem, inc, (objEntry i s).damage⟩).mem := by
  rw [feedByte_expected b hinc he]
  rfl

/-! ### Nothing outside the region -/

/-- The address is none of the object's pixels. -/
def offObject (inc : Incoming) (a : Addr) : Prop := ∀ o, o < inc.width * inc.height → a ≠ regionAddr inc.region o

/-- The two records are of the same object: its region and its size. -/
def sameObject (inc inc' : Incoming) : Prop :=
  inc'.region = inc.region ∧ inc'.width = inc.width ∧ inc'.height = inc.height

theorem offObject_congr {inc inc' : Incoming} (h : sameObject inc inc') (a : Addr) :
    offObject inc' a ↔ offObject inc a := by
  obtain ⟨hregion, hwidth, hheight⟩ := h
  simp [offObject, hregion, hwidth, hheight]

/-- A column of a row above the last is a pixel of the object. -/
theorem pixel_lt_size {row height c width : Nat} (hr : row < height) (hc : c < width) :
    row * width + c < width * height := by
  have : (row + 1) * width ≤ height * width := Nat.mul_le_mul_right _ hr
  rw [Nat.mul_comm width height]
  rw [Nat.add_mul] at this
  omega

theorem not_inRegion_of_offObject {inc : Incoming} {a : Addr} (h : offObject inc a) {lo hi : Nat}
    (hhi : hi ≤ inc.width * inc.height) : ¬ inRegion inc.region lo hi a = true := by
  simp only [inRegion, Bool.and_eq_true, decide_eq_true_eq]
  rintro ⟨hlo, hlt⟩
  refine h (a.toNat - (heapBase + 256 * inc.region.start)) (by omega) ?_
  apply BitVec.eq_of_toNat_eq
  have := a.isLt
  simp only [regionAddr, BitVec.toNat_ofNat]
  rw [Nat.mod_eq_of_lt (by omega)]
  omega

theorem read_putRun_off {index : Byte} {n : Nat} {d : Decoding} (hwf : d.mem.wf = true)
    (hr : d.inc.row < d.inc.height) {a : Addr} (ha : offObject d.inc a) :
    (putRun index n d).mem.read a = d.mem.read a :=
  (pixelsWritten_putRun index n d hwf).2 a fun _ _ _ hc => ha _ (pixel_lt_size hr hc)

/-- A decoded byte keeps the object and writes none but its pixels. -/
theorem decodeByte_keeps (b : Byte) (d : Decoding) (hwf : d.mem.wf = true) :
    sameObject d.inc (decodeByte b d).inc ∧ ∀ a, offObject d.inc a → (decodeByte b d).mem.read a = d.mem.read a := by
  rcases Nat.lt_or_ge d.inc.row d.inc.height with hr | hr
  · cases ht : d.inc.token with
    | idle =>
      by_cases hb : b = 0
      · rw [hb, decodeByte_end hr ht]
        refine ⟨⟨rfl, rfl, rfl⟩, fun a ha => ?_⟩
        rw [read_endRow, if_neg]
        refine not_inRegion_of_offObject ha ?_
        have := Nat.mul_le_mul_right d.inc.width hr
        rw [Nat.succ_mul] at this
        rw [Nat.mul_comm d.inc.width d.inc.height]
        omega
      · have hpos : 1 ≤ b.toNat := by
          have : b.toNat ≠ 0 := fun e => hb (BitVec.eq_of_toNat_eq e)
          omega
        rcases Nat.lt_or_ge b.toNat 0x80 with hlead | hlead
        · rw [decodeByte_literalLead hr ht hpos hlead]
          exact ⟨⟨rfl, rfl, rfl⟩, fun _ _ => rfl⟩
        · rw [decodeByte_runLead hr ht hlead]
          exact ⟨⟨rfl, rfl, rfl⟩, fun _ _ => rfl⟩
    | literal n =>
      rw [decodeByte_literal b hr ht]
      refine ⟨?_, fun a ha => read_putRun_off hwf hr ha⟩
      simp [sameObject, (putRun_inc_damage b 1 d).1]
    | run lead =>
      rw [decodeByte_run b lead hr ht]
      generalize lead.toNat - 0x80 + 2 = n
      refine ⟨?_, fun a ha => read_putRun_off hwf hr ha⟩
      simp [sameObject, (putRun_inc_damage b n d).1]
  · rw [decodeByte_beyond b hr]
    exact ⟨⟨rfl, rfl, rfl⟩, fun _ _ => rfl⟩

theorem feedByte_keeps {i : Fin 512} {s : State} {inc : Incoming} (b : Byte)
    (hinc : (objEntry i s).incoming = some inc) (hwf : s.mem.wf = true) :
    (∃ inc', (objEntry i (feedByte i b s)).incoming = some inc' ∧ sameObject inc inc') ∧
      ∀ a, offObject inc a → (feedByte i b s).mem.read a = s.mem.read a := by
  by_cases he : (objEntry i s).expectBytes = 0
  · rw [feedByte_unexpected b hinc he]
    exact ⟨⟨inc, by simp [hinc], rfl, rfl, rfl⟩, fun _ _ => rfl⟩
  · obtain ⟨hsame, hoff⟩ := decodeByte_keeps b ⟨s.mem, inc, (objEntry i s).damage⟩ hwf
    rw [feedByte_expected b hinc he]
    exact ⟨⟨_, by simp [objEntry], hsame⟩, hoff⟩

/-- The data of an object writes none but its pixels. -/
theorem read_feedBytes_off (i : Fin 512) (bs : List Byte) : ∀ (s : State) (inc : Incoming),
    (objEntry i s).incoming = some inc → s.mem.wf = true → ∀ a, offObject inc a →
      (feedBytes i bs s).mem.read a = s.mem.read a := by
  induction bs with
  | nil => intros; rfl
  | cons b bs ih =>
    intro s inc hinc hwf a ha
    obtain ⟨⟨inc', hinc', hsame⟩, hoff⟩ := feedByte_keeps b hinc hwf
    have hwf' := (keepsSound_feedByte i b s).memory hwf
    exact (ih _ inc' hinc' hwf' a ((offObject_congr hsame a).2 ha)).trans (hoff a ha)

/-- Settles O60: the decode of one byte by the token it meets, the bytes outside the region, completion. -/
theorem decodeWritesTheRegion : Obligations.DecodeWritesTheRegion := by
  refine ⟨fun i b bs s => ⟨rfl, rfl⟩, fun i b s inc hinc hwf => ?_, fun i bs s inc hinc hwf a ha =>
    read_feedBytes_off i bs s inc hinc hwf a ha, fun i s inc hinc hwf a => ?_⟩
  · have hcount : ∀ {inc' : Incoming} {damaged : Bool}, (objEntry i s).expectBytes ≠ 0 → _ → _ →
        countedAs i s (feedByte i b s) inc' damaged := fun he => countedAs_feedByte hinc he
    refine ⟨feedByte_unexpected b hinc, fun he hr => ?_, fun he hr => ?_⟩
    · have hd := decodeByte_beyond b (d := ⟨s.mem, inc, (objEntry i s).damage⟩) hr
      exact ⟨hcount he (by rw [hd]) (by simp [hd]), by rw [feedByte_mem b hinc he, hd]⟩
    refine ⟨fun ht hb => ?_, fun ht hb hb' => ?_, fun ht hb => ?_, fun n ht => ?_, fun lead ht => ?_⟩
    · subst hb
      have hd := decodeByte_end (d := ⟨s.mem, inc, (objEntry i s).damage⟩) hr ht
      refine ⟨hcount he (by rw [hd]; simp [endRow, ht]) (by rw [hd]; rfl), fun a => ?_⟩
      rw [feedByte_mem 0 hinc he, hd]
      exact read_endRow ..
    · have hd := decodeByte_literalLead (d := ⟨s.mem, inc, (objEntry i s).damage⟩) hr ht hb hb'
      exact ⟨hcount he (by rw [hd]) (by simp [hd]), by rw [feedByte_mem b hinc he, hd]⟩
    · have hd := decodeByte_runLead (d := ⟨s.mem, inc, (objEntry i s).damage⟩) hr ht hb
      exact ⟨hcount he (by rw [hd]) (by simp [hd]), by rw [feedByte_mem b hinc he, hd]⟩
    · have hd := decodeByte_literal b (d := ⟨s.mem, inc, (objEntry i s).damage⟩) hr ht
      obtain ⟨hi, hdamage⟩ := putRun_inc_damage b 1 ⟨s.mem, inc, (objEntry i s).damage⟩
      refine ⟨hcount he (by rw [hd, hi]) (by rw [hd]; simp [hdamage]), ?_⟩
      rw [feedByte_mem b hinc he, hd]
      exact pixelsWritten_putRun b 1 ⟨s.mem, inc, (objEntry i s).damage⟩ hwf
    · have hd := decodeByte_run b lead (d := ⟨s.mem, inc, (objEntry i s).damage⟩) hr ht
      have hn : lead.toNat - 0x80 + 2 ≠ 0 := by omega
      generalize lead.toNat - 0x80 + 2 = n at hd hn ⊢
      obtain ⟨hi, hdamage⟩ := putRun_inc_damage b n ⟨s.mem, inc, (objEntry i s).damage⟩
      refine ⟨hcount he (by rw [hd, hi]) (by rw [hd]; simp [hdamage, hn]), ?_⟩
      rw [feedByte_mem b hinc he, hd]
      exact pixelsWritten_putRun b n ⟨s.mem, inc, (objEntry i s).damage⟩ hwf
  · rw [completeObject_mem hinc]
    by_cases hr : inc.row < inc.height
    · simp only [hr, if_true, true_and]
      exact read_zeroFill ..
    · simp [hr]

end Sys2Proof.Machine

namespace Sys2Proof.Machine

open Sys2Proof

/-! ## What a segment leaves: the lanes, the relay buffer, the ports (R164, R166, R169, R163) -/

/-- The receiver, the relay buffer, the Stream Port and the Display Port. -/
def ports (s : State) : Receiver × Relay × StreamPort × Display := (s.recv, s.relay, s.stream, s.disp)

@[simp] theorem ports_setMem (s : State) (v : Memory) : ports (s.setMem v) = ports s := rfl
@[simp] theorem ports_setObjs (s : State) (v : ObjectStore) : ports (s.setObjs v) = ports s := rfl
@[simp] theorem ports_setPals (s : State) (v : Vector Palette 16) : ports (s.setPals v) = ports s := rfl
@[simp] theorem ports_setPages (s : State) (v : Vector PageEntry 64) : ports (s.setPages v) = ports s := rfl
@[simp] theorem ports_setSeqr (s : State) (v : Sequencer) : ports (s.setSeqr v) = ports s := rfl
@[simp] theorem ports_setCues (s : State) (v : CueUnit) : ports (s.setCues v) = ports s := rfl
@[simp] theorem ports_setComp (s : State) (v : Composer) : ports (s.setComp v) = ports s := rfl
@[simp] theorem ports_setLink (s : State) (v : Link) : ports (s.setLink v) = ports s := rfl
@[simp] theorem ports_setFresh (s : State) (v : Nat) : ports (s.setFresh v) = ports s := rfl
@[simp] theorem ports_setObjEntry (i : Fin 512) (e : ObjEntry) (s : State) : ports (setObjEntry i e s) = ports s := rfl
@[simp] theorem ports_setPageEntry (r : PageRef) (e : PageEntry) (s : State) : ports (setPageEntry r e s) = ports s :=
  rfl
@[simp] theorem ports_raiseRecompose (s : State) : ports (raiseRecompose s) = ports s := rfl
@[simp] theorem ports_setHeapFull (s : State) : ports (setHeapFull s) = ports s := rfl

theorem ports_of_still {s t : State} (h : still t = still s) : ports t = ports s := by
  have h' : ports (still t) = ports (still s) := congrArg ports h
  exact h'

@[simp] theorem ports_objectFault (i : Fin 512) (code : Half) (detail : Nat) (s : State) :
    ports (objectFault i code detail s) = ports s := ports_of_still (still_post ..)

@[simp] theorem ports_segmentFault (lane : Owner) (kind code : Byte) (id : Half) (detail : Nat) (s : State) :
    ports (segmentFault lane kind code id detail s) = ports s := ports_of_still (still_post ..)

@[simp] theorem ports_feedByte (i : Fin 512) (b : Byte) (s : State) : ports (feedByte i b s) = ports s := by
  unfold feedByte
  dsimp only
  (repeat' split) <;> simp

@[simp] theorem ports_feedBytes (i : Fin 512) (bs : List Byte) : ∀ s, ports (feedBytes i bs s) = ports s := by
  induction bs with
  | nil => intro s; rfl
  | cons b bs ih => intro s; exact (ih _).trans (ports_feedByte i b s)

@[simp] theorem ports_abandonDecode (i : Fin 512) (s : State) : ports (abandonDecode i s) = ports s := by
  cases hinc : (objEntry i s).incoming with
  | none => simp [abandonDecode, hinc]
  | some inc => simp [abandonDecode_eq hinc]

@[simp] theorem ports_completeObject (i : Fin 512) (s : State) : ports (completeObject i s) = ports s := by
  unfold completeObject
  dsimp only
  split
  · rfl
  · rw [releaseOpt_eq, ports_raiseRecompose]
    (repeat' split) <;> simp [ports_of_still (still_post ..)]

@[simp] theorem ports_firstPart (i : Fin 512) (h : PartHead) (s : State) : ports (firstPart i h s).1 = ports s := by
  unfold firstPart
  dsimp only
  (repeat' split) <;> simp

@[simp] theorem ports_laterPart (i : Fin 512) (h : PartHead) (s : State) : ports (laterPart i h s).1 = ports s := by
  unfold laterPart
  dsimp only
  (repeat' split) <;> simp

@[simp] theorem ports_beginPart (lane : Owner) (h : PartHead) (s : State) : ports (beginPart lane h s).1 = ports s := by
  unfold beginPart
  dsimp only
  (repeat' split) <;> simp

@[simp] theorem ports_takePart (lane : Owner) (p : List Byte) (s : State) : ports (takePart lane p s) = ports s := by
  have hb := ports_beginPart lane (parsePart p) s
  unfold takePart
  dsimp only
  split
  · simp
  split
  · rename_i hr; rwa [hr] at hb
  · rename_i hr
    rw [hr] at hb
    split <;> simp [hb]

@[simp] theorem ports_beforeLiveChange (s : State) : ports (beforeLiveChange s) = ports s := by
  unfold beforeLiveChange
  split
  · rw [drawAhead_eq]; rfl
  · rfl

theorem ports_changeList (o : Owner) (i : Fin 2) (l : Option SlideList) (s : State) :
    ports (changeList o i l s) = ports s := by
  unfold changeList updateSeq
  dsimp only
  rw [ports_setSeqr]
  split
  · exact ports_of_still (still_stopShow ..)
  · rfl

theorem ports_takePage (lane : Owner) (p : List Byte) (s : State) : ports (takePage lane p s) = ports s := by
  unfold takePage
  split
  · simp
  · refine (ports_of_still (still_deliverKeys _)).trans ?_
    dsimp only [redefinePage, definePage]
    split
    · rw [ports_of_still (still_sequencerPageChanged ..)]
      split
      · rw [ports_of_still (still_autoShowPage ..), ports_of_still (still_stackRedefined ..),
          ports_of_still (still_dropReturnSel ..), ports_of_still (still_exchangeRedefined ..)]
        rfl
      · rw [ports_of_still (still_stackRedefined ..),
          ports_of_still (still_dropReturnSel ..), ports_of_still (still_exchangeRedefined ..)]
        rfl
    · split
      · rw [ports_of_still (still_autoShowPage ..)]
        rfl
      · rfl

theorem ports_deletePage (r : PageRef) (s : State) : ports (deletePage r s) = ports s := by
  unfold deletePage
  split
  · dsimp only
    rw [ports_of_still (still_deliverKeys _), ports_of_still (still_sequencerPageChanged ..),
      ports_of_still (still_removeEntry ..), ports_setPageEntry, ports_of_still (still_takeUp _),
      ports_of_still (still_dropReturnSel ..), ports_of_still (still_exchangeDrop ..), ports_setPageEntry]
  · rfl

theorem ports_takeDelete (lane : Owner) (p : List Byte) (s : State) : ports (takeDelete lane p s) = ports s := by
  unfold takeDelete
  split
  · simp
  unfold deleteItem
  split
  · split
    · rfl
    · unfold deleteObject
      dsimp only
      rw [releaseOpt_eq, releaseOpt_eq]
      split <;> simp
  split
  · exact ports_beforeLiveChange s
  split
  · exact ports_deletePage _ s
  split
  · unfold deleteList
    split
    · rfl
    · exact ports_changeList ..
  split
  · unfold deleteCue
    split <;> rfl
  · rfl

theorem ports_eraseSlides (o : Owner) (s : State) : ports (eraseSlides o s) = ports s := by
  unfold eraseSlides updateSeq
  dsimp only
  rw [ports_setSeqr]
  split
  · exact ports_of_still (still_stopShow ..)
  · rfl

theorem ports_eraseOwner (o : Owner) (s : State) : ports (eraseOwner o s) = ports s := by
  have hobjects : ports (eraseObjects o s) = ports s := by
    unfold eraseObjects
    dsimp only
    rw [releaseRegions_eq]
    split <;> simp
  unfold eraseOwner eraseCues erasePages erasePageEntries
  dsimp only
  rw [ports_of_still (still_deliverKeys _), ports_setCues, ports_of_still (still_handOn _),
    ports_of_still (still_takeUp _), ports_eraseSlides, ports_of_still (still_eraseStack ..), ports_setPages,
    ports_of_still (still_dropReturnSel ..), ports_of_still (still_exchangeDrop ..)]
  exact (ports_beforeLiveChange _).trans hobjects

/-- A segment handed to its owner leaves the relay buffer as it is. -/
theorem relay_handSegment (lane : Owner) (kind : Byte) (p : List Byte) (s : State) :
    (handSegment lane kind p s).relay = s.relay := by
  have hrelay {s t : State} (h : ports t = ports s) : t.relay = s.relay := congrArg (fun x => x.2.1) h
  unfold handSegment
  split
  · unfold takeEdition
    split
    · exact hrelay (ports_segmentFault ..)
    · exact (hrelay (ports_eraseOwner .disc _)).trans (State.setRecv_relay s _)
  refine hrelay ?_
  split
  · unfold takeTime
    split <;> simp
  split
  · unfold takePalette
    split <;> simp
  split
  · exact ports_takePart lane p s
  split
  · exact ports_takePage lane p s
  split
  · unfold takeSlideList
    split
    · simp
    · exact ports_changeList ..
  split
  · unfold takeCue setCueSlot
    split <;> simp
  split
  · exact ports_takeDelete lane p s
  · rfl

end Sys2Proof.Machine

namespace Sys2Proof.Machine

open Sys2Proof

/-! ## The DISC lane (R164, R166 to R168, R172) -/

/-- The parse state is a complete header (R166). -/
def pendingLane (l : LaneState) : Bool :=
  match l with
  | .header got => decide (3 ≤ got.length)
  | _ => false

theorem discPending_eq (s : State) : discPending s = pendingLane s.recv.disc := by
  unfold discPending pendingLane
  cases s.recv.disc <;> rfl

@[simp] theorem pendingLane_huntByte (m : Bool) (b : Byte) : pendingLane (huntByte m b) = false := by
  unfold huntByte
  split <;> rfl

/-- Nothing can be served: a segment is being served, or no lane holds a pending start. -/
def quiet (s : State) : Prop :=
  receiverFree s = false ∨ (discPending s = false ∧ s.relay.st ≠ .complete)

theorem serveOne_of_quiet {s : State} (h : quiet s) : serveOne s = s := by
  rcases h with h | ⟨hd, hr⟩
  · simp [serveOne, h]
  · simp [serveOne, hd, hr]

theorem serve_of_quiet {s : State} (h : quiet s) : serve s = s := by
  rw [serve, serveOne_of_quiet h, serveOne_of_quiet h]

theorem quiet_payload (kind : Byte) (len left : Nat) (got : List Byte) (part : Option PartInFlight) (s : State) :
    quiet (setLane (.payload kind len left got part) s) := .inl rfl

theorem quiet_skip (kind : Byte) (len left : Nat) (badKind : Bool) (s : State) :
    quiet (setLane (.skip kind len left badKind) s) := .inl rfl

theorem quiet_hunt (m : Bool) {s : State} (h : s.relay.st ≠ .complete) : quiet (setLane (.hunt m) s) := .inr ⟨rfl, h⟩

theorem relay_of_ports {s t : State} (h : ports t = ports s) : t.relay = s.relay := congrArg (fun x => x.2.1) h

theorem relay_receiverFault (lane : Owner) (kind code : Byte) (len : Nat) (s : State) :
    (receiverFault lane kind code len s).relay = s.relay := relay_of_ports (ports_segmentFault ..)

theorem quiet_endPayload (kind : Byte) (got : List Byte) (part : Option PartInFlight) {s : State}
    (h : s.relay.st ≠ .complete) : quiet (endPayload kind got part s) := by
  refine quiet_hunt false ?_
  (repeat' split)
  · rwa [relay_of_ports (ports_completeObject ..)]
  · exact h
  · exact h
  · rwa [relay_handSegment]

theorem quiet_inPayload (kind : Byte) (len left : Nat) (got : List Byte) (part : Option PartInFlight) {s : State}
    (h : s.relay.st ≠ .complete) : quiet (inPayload kind len left got part s) := by
  unfold inPayload
  split
  · exact quiet_endPayload kind got part h
  · exact quiet_payload ..

theorem quiet_inSkip (kind : Byte) (len left : Nat) (badKind : Bool) {s : State} (h : s.relay.st ≠ .complete) :
    quiet (inSkip kind len left badKind s) := by
  unfold inSkip
  split
  · refine quiet_hunt false ?_
    split
    · rwa [relay_receiverFault]
    · exact h
  · exact quiet_skip ..

theorem quiet_serveDisc (got : List Byte) {s : State} (h : s.relay.st ≠ .complete) : quiet (serveDisc got s) := by
  unfold serveDisc
  dsimp only
  split
  · exact quiet_inPayload _ _ _ _ _ h
  · split
    · exact quiet_inSkip _ _ _ _ h
    · refine quiet_inSkip _ _ _ _ ?_
      rwa [relay_receiverFault]

/-- The head of the FIFO has been taken; HOLD turns off at 1,024 bytes (R164). -/
def headTaken (rest : List Byte) (s : State) : State :=
  s.setStream ⟨rest, if rest.length ≤ 1024 then false else s.stream.hold⟩

/-- The lane takes the head of the FIFO, and the receiver serves what it can (R166, R172). -/
theorem exec_discLaneByte {s : State} {b : Byte} {rest : List Byte} (hr : s.resetLow = false)
    (hf : s.stream.fifo = b :: rest) (hp : discPending s = false) :
    exec .discLaneByte s = .next (serve (laneByte b (headTaken rest s))) := by
  have htaken : s.setStream (takeByte rest s.stream) = headTaken rest s := by
    by_cases h : rest.length ≤ 1024 <;> simp [takeByte, headTaken, holdOffCount, h]
  simp [exec, execDiscLaneByte, awake, hr, takeLaneByte, hp, hf, htaken]

theorem exec_discLaneByte_pending {s : State} (hr : s.resetLow = false) (hp : discPending s = true) :
    exec .discLaneByte s = .next s := by
  simp [exec, execDiscLaneByte, awake, hr, takeLaneByte, hp]

/-- The same, where nothing is served afterwards. -/
theorem exec_discLaneByte_quiet {s u : State} {b : Byte} {rest : List Byte} (hr : s.resetLow = false)
    (hf : s.stream.fifo = b :: rest) (hp : discPending s = false) (hu : laneByte b (headTaken rest s) = u)
    (hq : quiet u) : exec .discLaneByte s = .next u := by
  rw [exec_discLaneByte hr hf hp, hu, serve_of_quiet hq]

/-! ### The byte by the parse state -/

theorem laneByte_hunt {b : Byte} {m : Bool} {s : State} (h : s.recv.disc = .hunt m) :
    laneByte b s = setLane (huntByte m b) s := by simp only [laneByte, h]

theorem laneByte_header {b : Byte} {got : List Byte} {s : State} (h : s.recv.disc = .header got) :
    laneByte b s = setLane (.header (got ++ [b])) s := by simp only [laneByte, h]

theorem laneByte_skip {b k : Byte} {len left : Nat} {bad : Bool} {s : State} (h : s.recv.disc = .skip k len left bad) :
    laneByte b s = inSkip k len (left - 1) bad s := by simp only [laneByte, h]

theorem laneByte_collecting {b k : Byte} {len left : Nat} {got : List Byte} {part : Option PartInFlight} {s : State}
    (h : s.recv.disc = .payload k len left got part) (hk : k ≠ kindObject) :
    laneByte b s = inPayload k len (left - 1) (got ++ [b]) part s := by
  simp only [laneByte, h, payloadByte, hk, if_false]

theorem laneByte_object {b : Byte} {len left : Nat} {got : List Byte} {part : Option PartInFlight} {s : State}
    (h : s.recv.disc = .payload kindObject len left got part) :
    laneByte b s = objectByte len (left - 1) got part b s := by simp only [laneByte, h, payloadByte, if_true]

theorem inPayload_more {left : Nat} (h : left ≠ 0) (kind : Byte) (len : Nat) (got : List Byte)
    (part : Option PartInFlight) (s : State) :
    inPayload kind len left got part s = setLane (.payload kind len left got part) s := if_neg h

theorem inSkip_more {left : Nat} (h : left ≠ 0) (kind : Byte) (len : Nat) (bad : Bool) (s : State) :
    inSkip kind len left bad s = setLane (.skip kind len left bad) s := if_neg h

/-- A part that has reached its entry hands each later byte to it (R167). -/
theorem objectByte_inFlight (len left : Nat) (got : List Byte) (f : PartInFlight) (b : Byte) (s : State) :
    objectByte len left got (some f) b s = inPayload kindObject len left got (some f) (feedByte f.entry b s) := rfl

/-- A FIRST part too short for its fixed fields is refused once its flags are known (R168). -/
theorem objectByte_short {len left : Nat} {got : List Byte} {b : Byte} (s : State) (hlen : (got ++ [b]).length = 3)
    (hfirst : (byteAt (got ++ [b]) 2).getLsbD 0 = true) (hshort : len < 12) :
    objectByte len left got none b s =
      inSkip kindObject len left false (segmentFaultNotice .disc 0x11 0x02 0 len s) := by
  simp only [objectByte]
  rw [if_pos ⟨hlen, hfirst, hshort⟩]
  rfl

/-- The bytes up to the fixed fields are held back (R167). -/
theorem objectByte_held {len left : Nat} {got : List Byte} {b : Byte} (s : State)
    (hfixed : (got ++ [b]).length < partFixed ((byteAt (got ++ [b]) 2).getLsbD 0))
    (hlong : ¬ ((got ++ [b]).length = 3 ∧ (byteAt (got ++ [b]) 2).getLsbD 0 = true ∧ len < 12)) :
    objectByte len left got none b s = inPayload kindObject len left (got ++ [b]) none s := by
  simp only [objectByte]
  rw [if_neg hlong, if_neg fun h => by omega]

/-- With its fixed fields the part reaches its entry, or is skipped (R9, R167). -/
theorem objectByte_begins {len left : Nat} {got : List Byte} {b : Byte} (s : State) (hlen : 4 ≤ (got ++ [b]).length)
    (hfixed : (got ++ [b]).length = partFixed ((byteAt (got ++ [b]) 2).getLsbD 0)) :
    objectByte len left got none b s =
      match beginPart .disc (parsePart (got ++ [b])) s with
      | (u, none) => inSkip kindObject len left false u
      | (u, some i) =>
        inPayload kindObject len left (got ++ [b]) (some ⟨i, (parsePart (got ++ [b])).last⟩) u := by
  simp only [objectByte]
  refine (if_neg fun h => by omega).trans ((if_pos ⟨by omega, hfixed⟩).trans ?_)
  rcases beginPart .disc (parsePart (got ++ [b])) s with ⟨u, _ | i⟩ <;> rfl

/-- The bit LAST of the flags byte (R189). -/
theorem parsePart_last (p : List Byte) : (parsePart p).last = decide (byteAt p 2 &&& 2 = 2) := by
  have hbit : ∀ x : Byte, x.getLsbD 1 = decide (x &&& 2 = 2) := by decide
  exact hbit _

/-- Settles O11: the byte by the parse state of the lane and by what is left of the segment. -/
theorem discLaneTakesBytes : Obligations.DiscLaneTakesBytes := by
  intro s b rest hr hf t
  have hexec {l : LaneState} {u : State} (h : s.recv.disc = l) (hp : pendingLane l = false) :=
    exec_discLaneByte_quiet (u := u) hr hf (by rw [discPending_eq, h, hp])
  have hserve {l : LaneState} (h : s.recv.disc = l) (hp : pendingLane l = false) :
      exec .discLaneByte s = .next (serve (laneByte b t)) := exec_discLaneByte hr hf (by rw [discPending_eq, h, hp])
  have hdisc {l : LaneState} (h : s.recv.disc = l) : t.recv.disc = l := h
  refine ⟨fun m h hc => ?_, fun got h hg hc => ?_, fun got h hg => ?_, fun k len left got h hk hl => ?_,
    fun k len got h hk hc => ?_, fun k len left bad h hl => ?_, fun k kind length h hlength => ?_,
    fun k len bad h hc => ?_, fun len left got f h hl => ?_, fun len got f h hc => ?_,
    fun len left got h hl => ?_, fun len got h => ?_⟩
  · refine hexec h rfl (laneByte_hunt (hdisc h)) (.inr ⟨?_, hc⟩)
    rw [discPending_eq]
    exact pendingLane_huntByte m b
  · refine hexec h ?_ (laneByte_header (hdisc h)) (.inr ⟨?_, hc⟩)
    · simp only [pendingLane, decide_eq_false_iff_not]; omega
    · simp only [discPending_eq, State.setRecv_recv, pendingLane, List.length_append, List.length_cons,
        List.length_nil, decide_eq_false_iff_not]
      omega
  · exact exec_discLaneByte_pending hr (by rw [discPending_eq, h]; exact decide_eq_true hg)
  · have hb := (laneByte_collecting (b := b) (hdisc h) hk).trans (inPayload_more (by omega) ..)
    exact hexec h rfl hb (quiet_payload ..)
  · have hb := laneByte_collecting (b := b) (hdisc h) hk
    refine hexec h rfl (hb.trans ?_) (quiet_hunt false ?_)
    · exact (if_pos rfl).trans (by simp only [endPayload, if_neg (show ¬ k = kindObject from hk), laneIdle])
    · rwa [relay_handSegment]
  · have hb := (laneByte_skip (b := b) (hdisc h)).trans (inSkip_more (by omega) ..)
    exact hexec h rfl hb (quiet_skip ..)
  · have hb : laneByte b t = t.setRecv { s.recv with disc := .header length } := by
      rw [laneByte_header (hdisc h), hlength]; rfl
    rw [hserve h rfl, hb]
    refine ⟨fun hc => ?_, fun _ => rfl⟩
    have hone : serveOne (t.setRecv { s.recv with disc := .header length }) =
        serveDisc length (t.setRecv { s.recv with disc := .header length }) := by
      have hp : discPending (t.setRecv { s.recv with disc := .header length }) = true := by
        rw [discPending_eq, hlength]; rfl
      have hrelay : (t.setRecv { s.recv with disc := .header length }).relay.st ≠ .complete := hc
      have hfree : receiverFree (t.setRecv { s.recv with disc := .header length }) = true := rfl
      rw [serveOne, if_neg (by simp [hfree]), if_pos ⟨hp, .inl hrelay⟩]
      rfl
    have hq : quiet (serveDisc length (t.setRecv { s.recv with disc := .header length })) :=
      quiet_serveDisc length (s := t.setRecv { s.recv with disc := .header length }) hc
    rw [serve, hone, serveOne_of_quiet hq]
  · have hb := laneByte_skip (b := b) (hdisc h)
    refine hexec h rfl (hb.trans (if_pos rfl)) (quiet_hunt false ?_)
    split
    · exact (congrArg Relay.st (relay_receiverFault .disc k faultBadKind len t)).trans_ne hc
    · exact hc
  · have hb := ((laneByte_object (b := b) (hdisc h)).trans (objectByte_inFlight ..)).trans
      (inPayload_more (by omega) ..)
    exact hexec h rfl hb (quiet_payload ..)
  · have hb := ((laneByte_object (b := b) (hdisc h)).trans (objectByte_inFlight ..)).trans (if_pos rfl)
    have hrelay : (feedByte f.entry b t).relay.st ≠ .complete :=
      (congrArg Relay.st (relay_of_ports (ports_feedByte f.entry b t))).trans_ne hc
    exact hexec h rfl hb (quiet_endPayload kindObject got (some f) hrelay)
  · have hb := laneByte_object (b := b) (hdisc h)
    refine ⟨fun hlen hfirst hshort => ?_, fun hheld hlong => ?_, fun hlen hfixed => ?_⟩
    · refine hexec h rfl (hb.trans ?_) (quiet_skip ..)
      rw [objectByte_short t hlen hfirst hshort, inSkip_more (by omega)]; rfl
    · refine hexec h rfl (hb.trans ?_) (quiet_payload ..)
      rw [objectByte_held t hheld hlong, inPayload_more (by omega)]; rfl
    · rw [hserve h rfl, hb, objectByte_begins t hlen hfixed]
      rcases beginPart .disc (parsePart (got ++ [b])) t with ⟨u, _ | i⟩
      · dsimp only
        rw [inSkip_more (by omega), serve_of_quiet (quiet_skip ..)]; rfl
      · dsimp only
        rw [inPayload_more (by omega), serve_of_quiet (quiet_payload ..), parsePart_last]; rfl
  · have hb := laneByte_object (b := b) (hdisc h)
    rw [hserve h rfl, hb]
    refine ⟨fun hlen hfirst hshort => ?_, fun hheld hlong => ?_, fun hlen hfixed => ?_⟩
    · rw [objectByte_short t hlen hfirst hshort]; rfl
    · rw [objectByte_held t hheld hlong]; rfl
    · rw [objectByte_begins t hlen hfixed]
      rcases beginPart .disc (parsePart (got ++ [b])) t with ⟨u, _ | i⟩
      · rfl
      · simp only [parsePart_last, inPayload, endPayload, if_true, decide_eq_true_eq]; rfl

end Sys2Proof.Machine

namespace Sys2Proof.Machine

open Sys2Proof

/-! ## What the sub-blocks leave of the clock at a field start (R130, R143, R163) -/

/-- What the decision on scan-out and stream time depend on. -/
def clock (s : State) : Display × Bool × Bool × List FieldBlock × Word × Bool × Half :=
  (s.disp, s.link.configured, s.comp.clearing, s.due, s.cues.time, s.cues.running, s.cues.ticks)

theorem clock_of_stillOffCues {s t : State} (h : stillOffCues t = stillOffCues s) : clock t = clock s := by
  have h' : clock (stillOffCues t) = clock (stillOffCues s) := congrArg clock h
  exact h'

theorem clock_of_still {s t : State} (h : still t = still s) : clock t = clock s :=
  clock_of_stillOffCues (stillOffCues_of_still h)

theorem clock_startPassIfNeeded (s : State) : clock (startPassIfNeeded s) = clock s := by
  unfold startPassIfNeeded
  split
  · rfl
  · split <;> rfl

theorem clock_composerField (s : State) : clock (composerField s) = clock s := by
  unfold composerField
  split
  · exact clock_startPassIfNeeded (swapPlanes s)
  · exact clock_startPassIfNeeded s
  · rfl

/-- The Cue Unit advances the time once; its cues do not (R130). -/
theorem clock_cueField (s : State) : clock (cueField s) = clock (advanceTime s) := by
  unfold cueField
  dsimp only
  split
  · rw [clock_of_still (still_deliverKeys _), clock_of_stillOffCues (stillOffCues_evaluateCues _)]
  · rfl

theorem clock_runBlock {b : FieldBlock} (hb : b ≠ .cues) (s : State) : clock (runBlock b s) = clock s := by
  cases b with
  | pageStack => exact clock_of_still ((still_deliverKeys _).trans (still_stackField s))
  | navigation => exact clock_of_still (still_navigationField s)
  | sequencer => exact clock_of_still (still_sequencerField s)
  | cues => exact absurd rfl hb
  | composer => exact clock_composerField s

/-- The time advances by the ticks per field if the running flag is set (R130). -/
def nextTime (c : CueUnit) : Word := if c.running = true then c.time + c.ticks.setWidth 32 else c.time

theorem advanceTime_eq (s : State) : advanceTime s = s.setCues { s.cues with time := nextTime s.cues } := by
  unfold advanceTime nextTime
  split <;> rfl

/-- What stays of the clock when a sub-block acts: all but the time and what is due. -/
def clockFrame (s : State) : Display × Bool × Bool × Bool × Half :=
  (s.disp, s.link.configured, s.comp.clearing, s.cues.running, s.cues.ticks)

theorem clockFrame_of_clock {s t : State} (h : clock t = clock s) : clockFrame t = clockFrame s := by
  simp only [clock, Prod.mk.injEq] at h
  simp only [clockFrame, h]

theorem time_of_clock {s t : State} (h : clock t = clock s) : t.cues.time = s.cues.time :=
  congrArg (fun c => c.2.2.2.2.1) h

theorem due_of_clock {s t : State} (h : clock t = clock s) : t.due = s.due := congrArg (fun c => c.2.2.2.1) h

theorem due_runBlock (b : FieldBlock) (s : State) : (runBlock b s).due = s.due := by
  by_cases hb : b = .cues
  · subst hb
    exact (due_of_clock (clock_cueField s)).trans ((congrArg State.due (advanceTime_eq s)).trans rfl)
  · exact due_of_clock (clock_runBlock hb s)

theorem clockFrame_actBlock (s : State) (b : FieldBlock) : clockFrame (actBlock s b) = clockFrame s := by
  unfold actBlock
  split
  · by_cases hb : b = .cues
    · subst hb
      refine (clockFrame_of_clock (clock_cueField _)).trans ?_
      rw [advanceTime_eq]; rfl
    · exact (clockFrame_of_clock (clock_runBlock hb _)).trans rfl
  · rfl

theorem due_actBlock (s : State) (b : FieldBlock) : (actBlock s b).due = s.due.erase b := by
  unfold actBlock
  split
  · exact due_runBlock b _
  · rename_i hb
    exact (List.erase_of_not_mem (by simpa using hb)).symm

theorem time_actBlock_other {b : FieldBlock} (s : State) (hb : b ≠ .cues) :
    (actBlock s b).cues.time = s.cues.time := by
  unfold actBlock
  split
  · exact (time_of_clock (clock_runBlock hb _)).trans rfl
  · rfl

theorem time_actBlock_cues (s : State) :
    (actBlock s .cues).cues.time = if .cues ∈ s.due then nextTime s.cues else s.cues.time := by
  simp only [actBlock, List.contains_iff_mem]
  split
  · refine (time_of_clock (clock_cueField _)).trans ?_
    rw [advanceTime_eq]; rfl
  · rfl

theorem clockFrame_foldl (l : List FieldBlock) : ∀ s, clockFrame (l.foldl actBlock s) = clockFrame s := by
  induction l with
  | nil => intro s; rfl
  | cons b l ih => intro s; exact (ih _).trans (clockFrame_actBlock s b)

/-- Where the Cue Unit has acted already the time stays. -/
theorem time_foldl_acted (l : List FieldBlock) :
    ∀ s : State, .cues ∉ s.due →
      .cues ∉ (l.foldl actBlock s).due ∧ (l.foldl actBlock s).cues.time = s.cues.time := by
  induction l with
  | nil => exact fun s h => ⟨h, rfl⟩
  | cons b l ih =>
    intro s h
    have hdue : .cues ∉ (actBlock s b).due := by
      rw [due_actBlock]
      exact fun hm => h (List.mem_of_mem_erase hm)
    have htime : (actBlock s b).cues.time = s.cues.time := by
      by_cases hb : b = .cues
      · rw [hb, time_actBlock_cues, if_neg h]
      · exact time_actBlock_other s hb
    exact ⟨(ih _ hdue).1, (ih _ hdue).2.trans htime⟩

/-- The Cue Unit acts once among the sub-blocks of a field start. -/
theorem time_foldl_due (l : List FieldBlock) (hl : .cues ∈ l) :
    ∀ s : State, s.due.count .cues = 1 →
      .cues ∉ (l.foldl actBlock s).due ∧ (l.foldl actBlock s).cues.time = nextTime s.cues := by
  induction l with
  | nil => simp at hl
  | cons b l ih =>
    intro s h
    by_cases hb : b = .cues
    · subst hb
      have hdue : .cues ∉ (actBlock s .cues).due := by
        rw [due_actBlock, ← List.count_eq_zero, List.count_erase_self, h]
      have hmem : .cues ∈ s.due := List.count_pos_iff.1 (by omega)
      have hrest := time_foldl_acted l _ hdue
      exact ⟨hrest.1, hrest.2.trans ((time_actBlock_cues s).trans (if_pos hmem))⟩
    · have hcount : (actBlock s b).due.count .cues = 1 := by
        rw [due_actBlock, List.count_erase_of_ne (Ne.symm hb), h]
      have hrest := ih ((List.mem_cons.1 hl).resolve_left (Ne.symm hb)) _ hcount
      refine ⟨hrest.1, hrest.2.trans ?_⟩
      have hframe := clockFrame_actBlock s b
      simp only [clockFrame, Prod.mk.injEq] at hframe
      simp only [nextTime, hframe, time_actBlock_other s hb]

theorem clockFrame_settleField (s : State) : clockFrame (settleField s) = clockFrame s := by
  unfold settleField
  split
  · rfl
  · exact clockFrame_foldl ..

theorem time_settleField (s : State) (h : .cues ∉ s.due) : (settleField s).cues.time = s.cues.time := by
  unfold settleField
  split
  · rfl
  · exact (time_foldl_acted _ s h).2

/-- The blocks that act, with the Cue Unit and the Composer at the end (log 1). -/
def actingOrder (order : List FieldBlock) : List FieldBlock := order ++ [FieldBlock.cues, FieldBlock.composer]

theorem fieldStart_time (order : List FieldBlock) (s : State) (h : .cues ∉ s.due) :
    (fieldStart order s).cues.time = nextTime s.cues := by
  have hbefore := time_foldl_acted s.due s h
  have hframe := clockFrame_foldl s.due s
  simp only [clockFrame, Prod.mk.injEq] at hframe
  have hact := time_foldl_due (actingOrder order) (by simp [actingOrder]) (countField (s.due.foldl actBlock s)) rfl
  calc (fieldStart order s).cues.time
      = ((actingOrder order).foldl actBlock (countField (s.due.foldl actBlock s))).cues.time :=
        time_settleField _ hact.1
    _ = nextTime (s.due.foldl actBlock s).cues := hact.2
    _ = nextTime s.cues := by simp only [nextTime, hframe, hbefore.2]

/-- What a field start leaves of the clock: the counter goes up and the decision on scan-out is taken (R143, R163). -/
theorem clockFrame_fieldStart (order : List FieldBlock) (s : State) :
    clockFrame (fieldStart order s) =
      ({ s.disp with
          counter := s.disp.counter + 1
          scanning := s.link.configured && !s.comp.clearing && s.disp.output },
        s.link.configured, s.comp.clearing, s.cues.running, s.cues.ticks) := by
  have hbefore := clockFrame_foldl s.due s
  have hact := clockFrame_foldl (actingOrder order) (countField (s.due.foldl actBlock s))
  unfold fieldStart
  dsimp only
  rw [clockFrame_settleField]
  simp only [clockFrame, Prod.mk.injEq, actingOrder] at hbefore hact ⊢
  obtain ⟨hdisp, hconf, hclear, hrun, hticks⟩ := hbefore
  obtain ⟨hdisp', hconf', hclear', hrun', hticks'⟩ := hact
  refine ⟨?_, hconf'.trans hconf, hclear'.trans hclear, hrun'.trans hrun, hticks'.trans hticks⟩
  simp only [decideScan, State.setDisp_disp, hdisp', hconf', hclear']
  simp only [countField, State.setDue_disp, State.setDisp_disp, State.setDue_link, State.setDisp_link,
    State.setDue_comp, State.setDisp_comp, hdisp, hconf, hclear]

/-- The pixel of the front plane inside the active area, byte by byte (R1, R163). -/
theorem scanPixel_inside {s : State} {f : PlaneFormat} {x y : Nat} (hf : s.comp.format = some f)
    (hscan : s.disp.scanning = true) (hx : x < (formatSize f).1) (hy : y < (formatSize f).2) :
    scanPixel s x y = readPixel s.mem s.comp.front x y := by
  simp [scanPixel, hf, hscan, hx, hy]

theorem scanPixel_outside {s : State} {x y : Nat}
    (h : s.disp.scanning = false ∨ ¬ ∃ f, s.comp.format = some f ∧ x < (formatSize f).1 ∧ y < (formatSize f).2) :
    scanPixel s x y = transparentBlack := by
  unfold scanPixel
  split
  · rfl
  · rename_i f hf
    refine if_neg fun ⟨hscan, hx, hy⟩ => ?_
    rcases h with h | h
    · simp [h] at hscan
    · exact h ⟨f, hf, hx, hy⟩

/-- Settles O46: the Cue Unit acts once among the blocks of a field start, and no block touches the clock else. -/
theorem fieldStartCountsAndAdvances : Obligations.FieldStartCountsAndAdvances := by
  refine ⟨fun s x y => ⟨fun hscan ⟨f, hf, hx, hy⟩ => ?_, scanPixel_outside⟩, ⟨rfl, rfl, rfl, rfl⟩,
    fun order s hr hdue => ?_⟩
  · rw [scanPixel_inside hf hscan hx hy]
    cases s.comp.front <;> rfl
  · have hcues : .cues ∉ s.due := by simpa using hdue
    have hframe := clockFrame_fieldStart order s
    simp only [clockFrame, Prod.mk.injEq] at hframe
    obtain ⟨hdisp, hconf, hclear, hrun, hticks⟩ := hframe
    refine ⟨fieldStart order s, by simp [exec, execFieldStart, awake, hr], by rw [hdisp],
      fieldStart_time order s hcues, hrun, hticks, by rw [hdisp], by rw [hdisp, hconf, hclear], hconf, hclear⟩

end Sys2Proof.Machine

namespace Sys2Proof.Machine

open Sys2Proof

/-! ## Pixels of a plane (R1) -/

/-- The address lies outside a plane's 1,920 by 1,080 pixels (R1). -/
def offPlane (p : Plane) (a : Addr) : Prop := a.toNat < planeBase p ∨ planeBase p + 8294400 ≤ a.toNat

theorem planeBase_le (p : Plane) : planeBase p ≤ 8294400 := by cases p <;> decide

theorem planeBase_mod (p : Plane) : planeBase p % 4 = 0 := by cases p <;> rfl

theorem formatSize_le (f : PlaneFormat) : (formatSize f).1 ≤ 1920 ∧ (formatSize f).2 ≤ 1080 := by
  cases f <;> decide

/-- The four bytes of a pixel lie in its plane, and the sum does not wrap. -/
theorem toNat_pixelAddr (p : Plane) {x y i : Nat} (hx : x < 1920) (hy : y < 1080) (hi : i < 4) :
    (BitVec.ofNat 25 (pixelAddr p x y + i)).toNat = planeBase p + 4 * (1920 * y + x) + i ∧
      planeBase p + 4 * (1920 * y + x) + i < planeBase p + 8294400 := by
  have hp := planeBase_le p
  rw [BitVec.toNat_ofNat, pixelAddr]
  omega

theorem read_writePixel_offPlane (p : Plane) {x y : Nat} (hx : x < 1920) (hy : y < 1080) (c : Colour) (m : Memory)
    {a : Addr} (ha : offPlane p a) : (writePixel p x y c m).read a = m.read a := by
  refine Memory.read_writeBytes_outside _ _ _ _ fun i hi h => ?_
  have h := congrArg BitVec.toNat h
  obtain ⟨heq, hlt⟩ := toNat_pixelAddr p hx hy hi
  unfold offPlane at ha
  omega

/-- A byte of another pixel of the plane stays (R1). -/
theorem read_writePixel_other (p : Plane) {x y x' y' i : Nat} (hx : x < 1920) (hy : y < 1080) (hx' : x' < 1920)
    (hy' : y' < 1080) (hi : i < 4) (hne : ¬ (x' = x ∧ y' = y)) (c : Colour) (m : Memory) :
    (writePixel p x y c m).read (BitVec.ofNat 25 (pixelAddr p x' y' + i)) =
      m.read (BitVec.ofNat 25 (pixelAddr p x' y' + i)) := by
  refine Memory.read_writeBytes_outside _ _ _ _ fun j hj h => ?_
  have h := congrArg BitVec.toNat h
  rw [(toNat_pixelAddr p hx' hy' hi).1, (toNat_pixelAddr p hx hy hj).1] at h
  have hj : j < 4 := hj
  omega

theorem readPixel_writePixel_other (p : Plane) {x y x' y' : Nat} (hx : x < 1920) (hy : y < 1080) (hx' : x' < 1920)
    (hy' : y' < 1080) (hne : ¬ (x' = x ∧ y' = y)) (c : Colour) (m : Memory) :
    readPixel (writePixel p x y c m) p x' y' = readPixel m p x' y' := by
  have h {i : Nat} (hi : i < 4) := read_writePixel_other p hx hy hx' hy' hi hne c m
  have h0 := h (i := 0) (by omega)
  rw [Nat.add_zero] at h0
  simp only [readPixel, h0, h (i := 1) (by omega), h (i := 2) (by omega), h (i := 3) (by omega)]

/-- A pixel reads back as it was written (R1). -/
theorem readPixel_writePixel_same (p : Plane) {x y : Nat} (hx : x < 1920) (hy : y < 1080) (c : Colour) {m : Memory}
    (hm : m.wf = true) : readPixel (writePixel p x y c m) p x y = c := by
  have hne {i j : Nat} (hi : i < 4) (hj : j < 4) (hij : i ≠ j) :
      BitVec.ofNat 25 (pixelAddr p x y + i) ≠ BitVec.ofNat 25 (pixelAddr p x y + j) := by
    intro h
    have h := congrArg BitVec.toNat h
    rw [(toNat_pixelAddr p hx hy hi).1, (toNat_pixelAddr p hx hy hj).1] at h
    omega
  have h0 {j : Nat} (hj : j < 4) (hj0 : 0 ≠ j) := hne (i := 0) (by omega) hj hj0
  simp only [Nat.add_zero] at h0
  simp only [readPixel, writePixel, Memory.writeBytes, Nat.add_assoc, Nat.reduceAdd]
  rw [Memory.read_write_ne _ _ (h0 (j := 3) (by omega) (by omega)),
    Memory.read_write_ne _ _ (h0 (j := 2) (by omega) (by omega)),
    Memory.read_write_ne _ _ (h0 (j := 1) (by omega) (by omega)),
    Memory.read_write_ne _ _ (hne (i := 1) (j := 3) (by omega) (by omega) (by omega)),
    Memory.read_write_ne _ _ (hne (i := 1) (j := 2) (by omega) (by omega) (by omega)),
    Memory.read_write_ne _ _ (hne (i := 2) (j := 3) (by omega) (by omega) (by omega)),
    Memory.read_write_same hm, Memory.read_write_same (Memory.wf_write hm _ _),
    Memory.read_write_same (Memory.wf_write (Memory.wf_write hm _ _) _ _),
    Memory.read_write_same (Memory.wf_write (Memory.wf_write (Memory.wf_write hm _ _) _ _) _ _)]

/-! ### The fill with transparent black (R154) -/

/-- The bytes that the fill of the active area restores. -/
def filled (p : Plane) (size : Nat × Nat) (a : Nat) : Bool :=
  decide (planeBase p ≤ a) && decide (a < planeBase p + 8294400) &&
    decide ((a - planeBase p) / 4 % 1920 < size.1) && decide ((a - planeBase p) / 4 / 1920 < size.2)

theorem read_fillActive (p : Plane) (size : Nat × Nat) (m : Memory) (a : Addr) :
    (fillActive p size m).read a = if filled p size a.toNat = true then unlisted a.toNat else m.read a :=
  Memory.read_restore ..

theorem read_fillActive_offPlane (p : Plane) (size : Nat × Nat) (m : Memory) {a : Addr} (ha : offPlane p a) :
    (fillActive p size m).read a = m.read a := by
  rw [read_fillActive, if_neg]
  simp only [filled, Bool.and_eq_true, decide_eq_true_eq]
  unfold offPlane at ha
  omega

/-- A byte of a pixel of the plane is restored exactly where the pixel is in the active area. -/
theorem filled_pixelAddr (p : Plane) (size : Nat × Nat) {x y i : Nat} (hx : x < 1920) (hy : y < 1080) (hi : i < 4) :
    filled p size (planeBase p + 4 * (1920 * y + x) + i) = true ↔ x < size.1 ∧ y < size.2 := by
  have hquot : (planeBase p + 4 * (1920 * y + x) + i - planeBase p) / 4 = 1920 * y + x := by omega
  have hcol : (1920 * y + x) % 1920 = x := by omega
  have hrow : (1920 * y + x) / 1920 = y := by omega
  simp only [filled, Bool.and_eq_true, decide_eq_true_eq, hquot, hcol, hrow]
  omega

/-- An unlisted byte of a pixel is the byte of transparent black (R1). -/
theorem unlisted_pixelAddr (p : Plane) {x y i : Nat} (hx : x < 1920) (hy : y < 1080) (hi : i < 4) :
    unlisted (planeBase p + 4 * (1920 * y + x) + i) = unlisted i := by
  have hp := planeBase_le p
  have hmod : (planeBase p + 4 * (1920 * y + x) + i) % 4 = i % 4 := by
    have := planeBase_mod p
    omega
  have hlo : planeBase p + 4 * (1920 * y + x) + i < imageBase := by unfold imageBase; omega
  have hi' : i < imageBase := by unfold imageBase; omega
  simp only [unlisted, hmod, if_pos hlo, if_pos hi']

theorem read_fillActive_pixel (p : Plane) (size : Nat × Nat) (m : Memory) {x y i : Nat} (hx : x < 1920) (hy : y < 1080)
    (hi : i < 4) : (fillActive p size m).read (BitVec.ofNat 25 (pixelAddr p x y + i)) =
      if x < size.1 ∧ y < size.2 then unlisted i else m.read (BitVec.ofNat 25 (pixelAddr p x y + i)) := by
  rw [read_fillActive, (toNat_pixelAddr p hx hy hi).1, unlisted_pixelAddr p hx hy hi]
  exact if_congr (filled_pixelAddr p size hx hy hi) rfl rfl

/-- The active area is transparent black after the fill, the rest of the plane as before (R154). -/
theorem readPixel_fillActive (p : Plane) (size : Nat × Nat) (m : Memory) {x y : Nat} (hx : x < 1920) (hy : y < 1080) :
    readPixel (fillActive p size m) p x y =
      if x < size.1 ∧ y < size.2 then transparentBlack else readPixel m p x y := by
  have h {i : Nat} (hi : i < 4) := read_fillActive_pixel p size m hx hy hi
  have h0 := h (i := 0) (by omega)
  rw [Nat.add_zero] at h0
  simp only [readPixel, h0, h (i := 1) (by omega), h (i := 2) (by omega), h (i := 3) (by omega)]
  split <;> rfl

/-! ### Drawing one item (R155, R156, R160 to R162) -/

theorem read_drawPixel_offPlane (pals : Vector Palette 16) (p : Plane) (f : PlaneFormat) (it : DrawItem) (i j : Nat)
    (m : Memory) {a : Addr} (ha : offPlane p a) : (drawPixel pals p (formatSize f) it i j m).read a = m.read a := by
  have hsize := formatSize_le f
  unfold drawPixel
  dsimp only
  split
  · exact read_writePixel_offPlane p (by omega) (by omega) _ m ha
  · rfl

/-- A pixel of an item is drawn at (x, y): inside the active area and the item's columns (R156, R159). -/
abbrev landsAt (size : Nat × Nat) (it : DrawItem) (x y : Nat) : Prop := x < size.1 ∧ y < size.2 ∧ x < it.columns

/-- What an item makes of the plane's pixel at (x, y) (R160, R161). -/
def blended (pals : Vector Palette 16) (it : DrawItem) (m : Memory) (x y : Nat) (old : Colour) : Colour :=
  let c := pals[it.palette].live[(m.read (regionAddr it.region
    ((it.j0 + (y - it.y)) * it.stride + (it.i0 + (x - it.x))))).toNat]
  blend (effectiveAlpha c.a.toNat it.level) c old

theorem readPixel_drawPixel_other (pals : Vector Palette 16) (p : Plane) (f : PlaneFormat) (it : DrawItem) (i j : Nat)
    (m : Memory) {x y : Nat} (hx : x < 1920) (hy : y < 1080) (hne : ¬ (x = it.x + i ∧ y = it.y + j)) :
    readPixel (drawPixel pals p (formatSize f) it i j m) p x y = readPixel m p x y := by
  have hsize := formatSize_le f
  unfold drawPixel
  dsimp only
  split
  · exact readPixel_writePixel_other p (by omega) (by omega) hx hy hne _ m
  · rfl

theorem readPixel_drawPixel_same (pals : Vector Palette 16) (p : Plane) (f : PlaneFormat) (it : DrawItem) (i j : Nat)
    {m : Memory} (hm : m.wf = true) :
    readPixel (drawPixel pals p (formatSize f) it i j m) p (it.x + i) (it.y + j) =
      if landsAt (formatSize f) it (it.x + i) (it.y + j) then
        blended pals it m (it.x + i) (it.y + j) (readPixel m p (it.x + i) (it.y + j))
      else readPixel m p (it.x + i) (it.y + j) := by
  have hsize := formatSize_le f
  by_cases h : landsAt (formatSize f) it (it.x + i) (it.y + j)
  · have hdraw : drawPixel pals p (formatSize f) it i j m = _ := if_pos h
    rw [if_pos h, hdraw]
    obtain ⟨hx, hy, -⟩ := h
    rw [readPixel_writePixel_same p (by omega) (by omega) _ hm]
    simp only [blended, Nat.add_sub_cancel_left]
  · have hdraw : drawPixel pals p (formatSize f) it i j m = m := if_neg h
    rw [if_neg h, hdraw]

/-- The memory that a drawing reaches from another: canonical still, and the same outside the plane. -/
def drawnOver (p : Plane) (m m' : Memory) : Prop := m'.wf = true ∧ ∀ a, offPlane p a → m'.read a = m.read a

theorem drawnOver_drawPixel (pals : Vector Palette 16) (p : Plane) (f : PlaneFormat) (it : DrawItem) (i j : Nat)
    {m m' : Memory} (h : drawnOver p m m') : drawnOver p m (drawPixel pals p (formatSize f) it i j m') :=
  ⟨wf_drawPixel _ _ _ _ _ _ h.1, fun a ha => (read_drawPixel_offPlane pals p f it i j m' ha).trans (h.2 a ha)⟩

/-- The first n pixels of row j of an item are drawn. -/
def drawRow (pals : Vector Palette 16) (p : Plane) (size : Nat × Nat) (it : DrawItem) (j n : Nat) (m : Memory) :
    Memory := (List.range n).foldl (fun m i => drawPixel pals p size it i j m) m

theorem drawRow_succ (pals : Vector Palette 16) (p : Plane) (size : Nat × Nat) (it : DrawItem) (j n : Nat)
    (m : Memory) : drawRow pals p size it j (n + 1) m =
      drawPixel pals p size it n j (drawRow pals p size it j n m) := by
  simp [drawRow, List.range_succ]

theorem drawnOver_drawRow (pals : Vector Palette 16) (p : Plane) (f : PlaneFormat) (it : DrawItem) (j n : Nat)
    {m m' : Memory} (h : drawnOver p m m') : drawnOver p m (drawRow pals p (formatSize f) it j n m') :=
  foldl_keeps _ (fun _ i hm => drawnOver_drawPixel pals p f it i j hm) _ _ h

/-- The colour of the source of a pixel is the same before and after the drawing: it lies outside the planes. -/
theorem blended_congr (pals : Vector Palette 16) (it : DrawItem) {p : Plane} {m m' : Memory} (h : drawnOver p m m')
    {x y : Nat} (hsource : offPlane p (regionAddr it.region
      ((it.j0 + (y - it.y)) * it.stride + (it.i0 + (x - it.x))))) (old : Colour) :
    blended pals it m' x y old = blended pals it m x y old := by
  simp only [blended, h.2 _ hsource]

/-- The sources of the first n pixels of the first k rows lie outside the plane. -/
def sourcesOff (p : Plane) (it : DrawItem) (n k : Nat) : Prop :=
  ∀ i j, i < n → j < k → offPlane p (regionAddr it.region ((it.j0 + j) * it.stride + (it.i0 + i)))

/-- A row draws each of its pixels where it lands, and no other (R155, R156). -/
theorem readPixel_drawRow (pals : Vector Palette 16) (p : Plane) (f : PlaneFormat) (it : DrawItem) (j n : Nat)
    {m : Memory} (hm : m.wf = true) {x y : Nat} (hx : x < 1920) (hy : y < 1080) (hsource : sourcesOff p it n (j + 1)) :
    readPixel (drawRow pals p (formatSize f) it j n m) p x y =
      if y = it.y + j ∧ it.x ≤ x ∧ x < it.x + n ∧ landsAt (formatSize f) it x y then
        blended pals it m x y (readPixel m p x y)
      else readPixel m p x y := by
  induction n with
  | zero => rw [if_neg (by omega)]; rfl
  | succ n ih =>
    have ih := ih fun i j hi hj => hsource i j (by omega) hj
    have hover := drawnOver_drawRow pals p f it j n (m := m) ⟨hm, fun _ _ => rfl⟩
    rw [drawRow_succ]
    by_cases hat : x = it.x + n ∧ y = it.y + j
    · obtain ⟨rfl, rfl⟩ := hat
      rw [if_neg (by omega)] at ih
      have hoff := hsource n j (by omega) (by omega)
      rw [readPixel_drawPixel_same pals p f it n j hover.1, ih,
        blended_congr pals it hover (by rwa [Nat.add_sub_cancel_left, Nat.add_sub_cancel_left])]
      exact if_congr ⟨fun h => ⟨rfl, by omega, by omega, h⟩, fun h => h.2.2.2⟩ rfl rfl
    · rw [readPixel_drawPixel_other pals p f it n j _ hx hy hat, ih]
      refine if_congr ⟨fun ⟨h1, h2, h3, h4⟩ => ⟨h1, h2, by omega, h4⟩, fun ⟨h1, h2, h3, h4⟩ => ⟨h1, h2, ?_, h4⟩⟩ rfl rfl
      omega

/-- The first k rows of an item are drawn. -/
def drawRows (pals : Vector Palette 16) (p : Plane) (size : Nat × Nat) (it : DrawItem) (k : Nat) (m : Memory) :
    Memory := (List.range k).foldl (fun m j => drawRow pals p size it j it.cols m) m

theorem drawRows_succ (pals : Vector Palette 16) (p : Plane) (size : Nat × Nat) (it : DrawItem) (k : Nat)
    (m : Memory) : drawRows pals p size it (k + 1) m =
      drawRow pals p size it k it.cols (drawRows pals p size it k m) := by
  simp [drawRows, List.range_succ]

theorem drawWhere_eq_drawRows (pals : Vector Palette 16) (p : Plane) (size : Nat × Nat) (it : DrawItem) (m : Memory) :
    drawWhere (fun _ _ => true) pals p size it m = drawRows pals p size it it.rows m := by
  simp [drawWhere, drawRows, drawRow]

/-- An item draws each of its pixels where it lands, and no other (R155, R156). -/
theorem readPixel_drawRows (pals : Vector Palette 16) (p : Plane) (f : PlaneFormat) (it : DrawItem) (k : Nat)
    {m : Memory} (hm : m.wf = true) {x y : Nat} (hx : x < 1920) (hy : y < 1080) (hsource : sourcesOff p it it.cols k) :
    readPixel (drawRows pals p (formatSize f) it k m) p x y =
      if it.x ≤ x ∧ x < it.x + it.cols ∧ it.y ≤ y ∧ y < it.y + k ∧ landsAt (formatSize f) it x y then
        blended pals it m x y (readPixel m p x y)
      else readPixel m p x y := by
  induction k with
  | zero => rw [if_neg (by omega)]; rfl
  | succ k ih =>
    have ih := ih fun i j hi hj => hsource i j hi (by omega)
    have hover : drawnOver p m (drawRows pals p (formatSize f) it k m) :=
      foldl_keeps _ (fun _ j h => drawnOver_drawRow pals p f it j _ h) _ _ ⟨hm, fun _ _ => rfl⟩
    rw [drawRows_succ, readPixel_drawRow pals p f it k it.cols hover.1 hx hy hsource]
    by_cases hat : y = it.y + k ∧ it.x ≤ x ∧ x < it.x + it.cols ∧ landsAt (formatSize f) it x y
    · obtain ⟨rfl, hlo, hhi, hlands⟩ := hat
      have hoff := hsource (x - it.x) k (by omega) (by omega)
      rw [if_pos ⟨rfl, hlo, hhi, hlands⟩, if_pos ⟨hlo, hhi, by omega, by omega, hlands⟩, ih, if_neg (by omega),
        blended_congr pals it hover (by rwa [Nat.add_sub_cancel_left])]
    · rw [if_neg hat, ih]
      refine if_congr ⟨fun ⟨h1, h2, h3, h4, h5⟩ => ⟨h1, h2, h3, by omega, h5⟩, fun ⟨h1, h2, h3, h4, h5⟩ =>
        ⟨h1, h2, h3, ?_, h5⟩⟩ rfl rfl
      have hrow : y ≠ it.y + k := fun h => hat ⟨h, h1, h2, h5⟩
      omega

/-- A pixel of the heap lies outside the planes (R1). -/
theorem offPlane_regionAddr (p : Plane) {r : Region} {offset : Nat}
    (h : heapBase + 256 * r.start + offset < 2 ^ 25) : offPlane p (regionAddr r offset) := by
  have hp := planeBase_le p
  unfold heapBase at h
  unfold offPlane regionAddr
  rw [BitVec.toNat_ofNat, heapBase]
  omega

/-! ### The drawing of a pass leaves everything outside the back plane -/

theorem read_drawAhead_offPlane (s : State) {a : Addr} (ha : offPlane (otherPlane s.comp.front) a) :
    (drawAhead s).mem.read a = s.mem.read a :=
  drawAhead_keeps (P := fun m => m.read a = s.mem.read a) s
    (fun f it m i j h => (read_drawPixel_offPlane _ _ f it i j m ha).trans h) rfl

theorem read_drawToEnd_offPlane (s : State) {a : Addr} (ha : offPlane (otherPlane s.comp.front) a) :
    (drawToEnd s).mem.read a = s.mem.read a :=
  drawToEnd_keeps (P := fun m => m.read a = s.mem.read a) s
    (fun f it m i j h => (read_drawPixel_offPlane _ _ f it i j m ha).trans h) rfl

end Sys2Proof.Machine

namespace Sys2Proof.Machine

open Sys2Proof

/-! ## Passes (R144 to R156) -/

@[simp] theorem getElem_mapWhere {α : Type} {n : Nat} (test : Nat → Bool) (f : α → α) (v : Vector α n) (i : Fin n) :
    (mapWhere test f v)[i] = if test i = true then f v[i] else v[i] := by
  simp [mapWhere]

/-! ### The animation mark (R146) -/

theorem buttonAnimates_iff (b : SnapButton) :
    buttonAnimates b = true ↔ ∃ v, 2 ≤ v.count ∧ some v = shownVisual b := by
  unfold buttonAnimates
  cases shownVisual b with
  | none => simp
  | some v => simp

theorem entryAnimates_iff (e : SnapEntry) :
    entryAnimates e = true ↔ (e.band ≠ .slide ∧ (e.st = .entering ∨ e.st = .leaving)) ∨
      ∃ b ∈ e.buttons, ∃ v, 2 ≤ v.count ∧ some v = shownVisual b := by
  simp [entryAnimates, buttonAnimates_iff]

theorem snapshotAnimates_iff (sn : Snapshot) :
    snapshotAnimates sn = true ↔ sn.trans ≠ none ∨ ∃ e ∈ sn.entries,
      (e.band ≠ .slide ∧ (e.st = .entering ∨ e.st = .leaving)) ∨
        ∃ b ∈ e.buttons, ∃ v, 2 ≤ v.count ∧ some v = shownVisual b := by
  simp [snapshotAnimates, entryAnimates_iff, Option.isSome_iff_ne_none]

/-! ### The start of a pass (R147 to R150, R154) -/

theorem composerField_drawing {s : State} (h : s.comp.pass = .drawing) : composerField s = setLate s := by
  simp only [composerField, h]

theorem composerField_done {s : State} (h : s.comp.pass = .done) :
    composerField s = startPassIfNeeded (swapPlanes s) := by
  simp only [composerField, h]

theorem composerField_idle {s : State} (h : s.comp.pass = .idle) : composerField s = startPassIfNeeded s := by
  simp only [composerField, h]

theorem startPassIfNeeded_not {s : State} (h : s.link.configured = false ∨ s.comp.format = none ∨
    s.comp.clearing = true ∨ (s.comp.recompose = false ∧ s.comp.animation = false)) : startPassIfNeeded s = s := by
  unfold startPassIfNeeded
  split
  · rfl
  · rename_i f hf
    rw [if_neg]
    rcases h with h | h | h | h <;> simp_all

theorem startPassIfNeeded_pass {s : State} {f : PlaneFormat} (hc : s.link.configured = true)
    (hf : s.comp.format = some f) (hcl : s.comp.clearing = false)
    (hr : s.comp.recompose = true ∨ s.comp.animation = true) : startPassIfNeeded s = startPass f s := by
  simp [startPassIfNeeded, hf, hc, hcl, hr]

/-- The snapshot of an entry, as R150 lists its parts. -/
theorem snapEntry_eq (s : State) (e : Entry) : snapEntry s e =
    if e.band = .slide ∨ e.st = .shown ∨ e.st = .leaving ∨ e.start ≠ none then
      (readySlot e.page s).bind (fun k => (slotAt k s).defn.map (fun d =>
        ⟨e.page, e.band, e.st, e.start, e.role, d.palette, d.fadeIn, d.fadeOut, d.placements,
          List.zipWith snapButton d.buttons (slotAt k s).buttons⟩))
    else none := by
  have hcond : (e.band ≠ .slide ∧ e.st = .entering ∧ e.start = none) ↔
      ¬ (e.band = .slide ∨ e.st = .shown ∨ e.st = .leaving ∨ e.start ≠ none) := by
    cases e.st <;> simp
  unfold snapEntry
  by_cases h : e.band = .slide ∨ e.st = .shown ∨ e.st = .leaving ∨ e.start ≠ none
  · rw [if_neg (fun hn => hcond.1 hn h), if_pos h]
    cases readySlot e.page s with
    | none => rfl
    | some k => cases hd : (slotAt k s).defn <;> simp [hd]
  · rw [if_pos (hcond.2 h), if_neg h]

theorem snapObjects_eq (s : State) : snapObjects s = (List.finRange 512).filterMap (fun i =>
    if (objEntry i s).st = .ready ∨ (objEntry i s).st = .replacing then
      (objEntry i s).current.map (fun r => ⟨i, r, (objEntry i s).width, (objEntry i s).height⟩)
    else none) := by
  refine List.filterMap_congr fun i _ => ?_
  simp [isDrawn]

theorem snapObjects_latchPalettes (s : State) : snapObjects (latchPalettes s) = snapObjects s :=
  List.filterMap_congr fun _ _ => rfl

theorem latchPalettes_getElem (s : State) (i : Fin 16) : (latchPalettes s).pals[i] =
    if s.pals[i].changed = true then { s.pals[i] with live := s.pals[i].pending, changed := false }
    else s.pals[i] :=
  (getElem_mapWhere ..).trans (if_pos rfl)

/-! ### The end of a pass (R151, R154) -/

theorem exec_passComplete {s : State} (h : s.resetLow = false) : exec .passComplete s = .next (completePass s) := by
  simp [exec, execPassComplete, awake, h]

/-- Pass complete: the back plane is drawn, the deferred regions are free, the pass is DONE (R151). -/
theorem completePass_drawing {s : State} (h : s.comp.pass = .drawing) : completePass s =
    ((s.setMem (drawToEnd s).mem).setObjs { s.objs with
      free := s.objs.deferred.foldl (fun f r => giveBack r f) s.objs.free, deferred := [] }).setComp
        { s.comp with pass := .done, snapshot := none, progress := ⟨0, []⟩ } := by
  have hflight : passInFlight s = true := by simp [passInFlight, h]
  unfold completePass
  rw [if_pos hflight]
  dsimp only
  rw [drawToEnd_eq]
  rfl

/-- With nothing drawn yet, a pass draws its items whole, one after another (R154). -/
theorem drawRest_fresh (pals : Vector Palette 16) (p : Plane) (size : Nat × Nat) (items : List DrawItem) (m : Memory) :
    drawRest [] pals p size items m =
      items.foldl (fun m it => drawWhere (fun _ _ => true) pals p size it m) m := by
  cases items <;> rfl

theorem drawToEnd_fresh {s : State} {sn : Snapshot} (h : s.comp.snapshot = some sn) (hp : s.comp.progress = ⟨0, []⟩) :
    (drawToEnd s).mem = (passItems sn s.comp.stamp).foldl
      (fun m it => drawWhere (fun _ _ => true) s.pals (otherPlane s.comp.front) (formatSize sn.format) it m) s.mem := by
  simp only [drawToEnd, h, hp, List.drop_zero, drawRest_fresh, State.setMem_mem]

/-! ### What an entry draws (R155, R156) -/

theorem snapObject_eq (sn : Snapshot) (o : Owner) (id : Nat) :
    snapObject sn o id = (objectIndex o id).bind (fun i => sn.objects.find? (fun x => x.entry = i)) := by
  unfold snapObject
  cases objectIndex o id <;> rfl

/-- Settles O47: the start of a pass, its end, and what it draws down to the pixel. -/
theorem passesRunInTheBackPlane : Obligations.PassesRunInTheBackPlane := by
  refine ⟨snapshotAnimates_iff, fun s => ⟨composerField_drawing, fun h => ?_, fun h hn => ?_,
    fun f h hc hf hcl hr => ?_⟩, fun s hr => ⟨fun h => ?_, fun h => ?_⟩, fun s order hr hdue => ?_,
    fun s order hr hdue => ?_, fun s h => if_pos h, fun s f h hc hf hcl hr => ?_, fun s sn hr h hsn hp => ?_,
    fun sn now e level => ⟨fun p => ?_, fun b => ?_⟩, fun pals plane f it m x y hm hx hy hsource => ?_⟩
  · rw [composerField_done h]
    exact (composerField_idle rfl).symm
  · rw [composerField_idle h, startPassIfNeeded_not hn]
  · rw [composerField_idle h, startPassIfNeeded_pass hc hf hcl hr]
    refine ⟨rfl, rfl, rfl, rfl, takeSnapshot f (latchPalettes s), rfl, rfl, rfl, ?_, ?_, rfl, latchPalettes_getElem s⟩
    · exact List.filterMap_congr fun e _ => snapEntry_eq (latchPalettes s) e
    · have hobjects : (takeSnapshot f (latchPalettes s)).objects = snapObjects (latchPalettes s) := by
        simp only [takeSnapshot]
      rw [hobjects, snapObjects_latchPalettes, snapObjects_eq]
  · have hflight : ¬ passInFlight s = true := by simp [passInFlight, h]
    rw [exec_passComplete hr, completePass, if_neg hflight]
  · have hpass := completePass_drawing h
    refine ⟨completePass s, exec_passComplete hr, ?_, fun a ha => ?_⟩
    · rw [hpass]; rfl
    · rw [hpass]
      exact read_drawToEnd_offPlane s ha
  · simp only [exec, execFieldStart, awake, hr, fieldStart, hdue]
    rfl
  · simp only [exec, execFieldStart, awake, hr, fieldStart, hdue]
    rfl
  · rw [composerField_idle h, startPassIfNeeded_pass hc hf hcl hr]
    exact ⟨rfl, fun x y hx hy => readPixel_fillActive _ _ _ hx hy, fun a ha => read_fillActive_offPlane _ _ _ ha⟩
  · refine ⟨completePass s, exec_passComplete hr, ?_⟩
    rw [completePass_drawing h]
    exact drawToEnd_fresh hsn hp
  · simp only [placementItem, snapObject_eq]
    cases p.crop <;> rfl
  · unfold buttonItem
    change _ = (shownVisual b).bind _
    cases shownVisual b with
    | none => rfl
    | some v => simp only [snapObject_eq]; rfl
  · rw [drawWhere_eq_drawRows]
    exact readPixel_drawRows pals plane f it it.rows hm hx hy fun i j hi hj =>
      offPlane_regionAddr plane (hsource i j hi hj)

end Sys2Proof.Machine

namespace Sys2Proof.Machine

open Sys2Proof

/-! ## What the Page Exchange leaves (R43, R49 to R55) -/

/-- The machine without what the exchange works on: its slots and queue, the residency of the pages, the recompose
request. -/
def offExchange (s : State) : State :=
  { s with
    exch := State.reset.exch
    pages := s.pages.map (fun e => { e with slot := none })
    comp := { s.comp with recompose := false } }

@[simp] theorem offExchange_setExch (s : State) (v : Exchange) : offExchange (s.setExch v) = offExchange s := rfl
@[simp] theorem offExchange_setSlot (k : Fin 6) (v : Slot) (s : State) : offExchange (setSlot k v s) = offExchange s :=
  rfl
@[simp] theorem offExchange_raiseRecompose (s : State) : offExchange (raiseRecompose s) = offExchange s := rfl

theorem pageIndex_inj {r r' : PageRef} : pageIndex r = pageIndex r' ↔ r = r' := by
  refine ⟨fun h => ?_, fun h => h ▸ rfl⟩
  obtain ⟨o, p⟩ := r
  obtain ⟨o', p'⟩ := r'
  have h := congrArg Fin.val h
  cases o <;> cases o' <;> simp only [pageIndex] at h
  · exact congrArg _ (Fin.ext h)
  · omega
  · omega
  · exact congrArg _ (Fin.ext (by omega))

@[simp] theorem pageEntry_setPageEntry_same (r : PageRef) (e : PageEntry) (s : State) :
    pageEntry r (setPageEntry r e s) = e := by simp [pageEntry, setPageEntry]

theorem pageEntry_setPageEntry_ne {r r' : PageRef} (h : r' ≠ r) (e : PageEntry) (s : State) :
    pageEntry r' (setPageEntry r e s) = pageEntry r' s := by
  have hne : (pageIndex r).val ≠ (pageIndex r').val := fun hi => h (pageIndex_inj.1 (Fin.ext hi)).symm
  simp [pageEntry, setPageEntry, Vector.getElem_set_ne, hne]

@[simp] theorem offExchange_setResidency (r : PageRef) (k : Option (Fin 6)) (s : State) :
    offExchange (setPageEntry r { pageEntry r s with slot := k } s) = offExchange s := by
  have h : (s.pages.set (pageIndex r) { pageEntry r s with slot := k }).map (fun e => { e with slot := none }) =
      s.pages.map (fun e : PageEntry => { e with slot := none }) := by
    ext i hi
    by_cases hr : (pageIndex r).val = i
    · subst hr; simp [pageEntry]
    · simp [hr]
  simp only [offExchange, setPageEntry, State.setPages, h]

@[simp] theorem offExchange_startLoad (t : Transfer) (s : State) : offExchange (startLoad t s) = offExchange s := rfl

@[simp] theorem offExchange_dropResidency (k : Fin 6) (s : State) :
    offExchange (dropResidency k s) = offExchange s := by
  unfold dropResidency
  split
  · rfl
  · exact offExchange_setResidency ..

@[simp] theorem offExchange_startExchange (r : PageRef) (k : Fin 6) (s : State) :
    offExchange (startExchange r k s) = offExchange s := by
  unfold startExchange
  dsimp only
  (repeat' split) <;> simp

@[simp] theorem offExchange_takeControllerRequest (s : State) :
    offExchange (takeControllerRequest s) = offExchange s := by
  unfold takeControllerRequest
  (repeat' split) <;> simp

@[simp] theorem offExchange_takeRequests (qs : List Request) :
    ∀ s, offExchange (takeRequests qs s) = offExchange s := by
  induction qs with
  | nil => exact offExchange_takeControllerRequest
  | cons q qs ih =>
    intro s
    unfold takeRequests
    (repeat' split) <;> simp [ih]

@[simp] theorem offExchange_takeUp (s : State) : offExchange (takeUp s) = offExchange s := by
  unfold takeUp
  split <;> simp

@[simp] theorem offExchange_withdrawRequest (w : Requester) (r : PageRef) (s : State) :
    offExchange (withdrawRequest w r s) = offExchange s := rfl

@[simp] theorem offExchange_leaveSave (t : Transfer) (s : State) : offExchange (leaveSave t s) = offExchange s := by
  unfold leaveSave
  dsimp only
  split <;> rfl

@[simp] theorem offExchange_abandonSave (test : PageRef → Bool) (s : State) :
    offExchange (abandonSave test s) = offExchange s := by
  unfold abandonSave
  (repeat' split) <;> simp

@[simp] theorem offExchange_emptyResident (test : PageRef → Bool) (s : State) (k : Fin 6) :
    offExchange (emptyResident test s k) = offExchange s := by
  unfold emptyResident
  (repeat' split) <;> simp

@[simp] theorem offExchange_cancelIncoming (test : PageRef → Bool) (s : State) :
    offExchange (cancelIncoming test s) = offExchange s := by
  unfold cancelIncoming
  (repeat' split) <;> rfl

@[simp] theorem offExchange_cancelActivation (k : Fin 6) (s : State) :
    offExchange (cancelActivation k s) = offExchange s := by
  unfold cancelActivation
  dsimp only
  split <;> rfl

theorem offExchange_foldl {α : Type} (f : State → α → State) (h : ∀ s a, offExchange (f s a) = offExchange s)
    (l : List α) : ∀ s, offExchange (l.foldl f s) = offExchange s := by
  induction l with
  | nil => exact fun _ => rfl
  | cons a l ih => exact fun s => (ih _).trans (h s a)

@[simp] theorem offExchange_cancelUnlessFocus (s : State) (k : Fin 6) :
    offExchange (cancelUnlessFocus s k) = offExchange s := by
  unfold cancelUnlessFocus
  split
  · exact offExchange_cancelActivation k s
  · rfl

@[simp] theorem offExchange_tellNavigation (s : State) : offExchange (tellNavigation s) = offExchange s :=
  offExchange_foldl _ offExchange_cancelUnlessFocus _ s

@[simp] theorem offExchange_handOn (s : State) : offExchange (handOn s) = offExchange s := by
  unfold handOn
  rw [offExchange_raiseRecompose, offExchange_tellNavigation]

section Views

variable {s t : State} (h : offExchange t = offExchange s)

include h

theorem view_of_offExchange {α : Type} (f : State → α) (hf : ∀ u, f (offExchange u) = f u) : f t = f s :=
  (hf t).symm.trans ((congrArg f h).trans (hf s))

theorem stack_of_offExchange : t.stack = s.stack := view_of_offExchange h State.stack fun _ => rfl
theorem seqr_of_offExchange : t.seqr = s.seqr := view_of_offExchange h State.seqr fun _ => rfl
theorem link_of_offExchange : t.link = s.link := view_of_offExchange h State.link fun _ => rfl
theorem mem_of_offExchange : t.mem = s.mem := view_of_offExchange h State.mem fun _ => rfl
theorem nav_of_offExchange : t.nav = s.nav := view_of_offExchange h State.nav fun _ => rfl
theorem disp_of_offExchange : t.disp = s.disp := view_of_offExchange h State.disp fun _ => rfl
theorem cues_of_offExchange : t.cues = s.cues := view_of_offExchange h State.cues fun _ => rfl

/-- Of a page only its residency changes. -/
theorem pageEntry_of_offExchange (r : PageRef) :
    { pageEntry r t with slot := none } = { pageEntry r s with slot := none } := by
  have hp := congrArg (fun u : State => u.pages[pageIndex r]) h
  simpa [offExchange, pageEntry] using hp

end Views

/-! ### The controller request and what is held for it (R51, R104) -/

/-- What is held once the controller request has gone with the pages that a test names (R104). -/
def heldWithout (test : PageRef → Bool) (s : State) : Navigation :=
  if s.exch.ctrlReq.any test = true then { s.nav with heldEnables := [], heldSelect := none } else s.nav

theorem dropControllerRequest_eq (test : PageRef → Bool) (s : State) : dropControllerRequest test s =
    (s.setExch { s.exch with
      ctrlReq := if s.exch.ctrlReq.any test = true then none else s.exch.ctrlReq }).setNav (heldWithout test s) := by
  unfold heldWithout
  by_cases h : s.exch.ctrlReq.any test = true
  · rw [if_pos h, if_pos h]
    unfold dropControllerRequest
    cases hreq : s.exch.ctrlReq with
    | none => simp [hreq] at h
    | some r => exact if_pos (by simpa [hreq] using h)
  · have hkept : dropControllerRequest test s = s := by
      unfold dropControllerRequest
      split
      · rfl
      · rename_i r hr
        exact if_neg (by simpa [hr] using h)
    rw [if_neg h, if_neg h, hkept]
    rfl

/-- Requests, controller request and what is held for it, of the pages a test names, are gone (R51, R104). -/
def withoutRequests (test : PageRef → Bool) (s : State) : State :=
  (s.setExch { s.exch with
    queue := s.exch.queue.filter (fun q => !test q.page)
    ctrlReq := if s.exch.ctrlReq.any test = true then none else s.exch.ctrlReq }).setNav (heldWithout test s)

theorem dropRequests_dropController (test : PageRef → Bool) (s : State) :
    dropControllerRequest test (dropRequests test s) = withoutRequests test s := by
  rw [dropControllerRequest_eq]
  rfl

/-! ### Emptying the slots of pages that go (R41, R45) -/

/-- The slot's page is resident there and goes. -/
def evicted (test : PageRef → Bool) (s : State) (k : Fin 6) : Prop :=
  ∃ r, (slotAt k s).page = some r ∧ test r = true ∧ residentSlot r s = some k

theorem emptyResident_of_evicted {test : PageRef → Bool} {s : State} {k : Fin 6} {r : PageRef}
    (hp : (slotAt k s).page = some r) (ht : test r = true) (hr : residentSlot r s = some k) :
    emptyResident test s k = setSlot k slotReset (setPageEntry r { pageEntry r s with slot := none } s) := by
  simp only [emptyResident, hp, ht, hr, and_self, if_true]

theorem emptyResident_of_not {test : PageRef → Bool} {s : State} {k : Fin 6} (h : ¬ evicted test s k) :
    emptyResident test s k = s := by
  unfold emptyResident
  split
  · rfl
  · rename_i r hr
    exact if_neg fun hc => h ⟨r, hr, hc⟩

@[simp] theorem slotAt_setSlot_same (k : Fin 6) (v : Slot) (s : State) : slotAt k (setSlot k v s) = v := by
  simp [slotAt, setSlot]

theorem slotAt_setSlot_ne {k j : Fin 6} (h : k ≠ j) (v : Slot) (s : State) : slotAt k (setSlot j v s) = slotAt k s := by
  have hne : j.val ≠ k.val := fun e => h (Fin.ext e).symm
  simp [slotAt, setSlot, hne]

@[simp] theorem slotAt_setPageEntry (k : Fin 6) (r : PageRef) (e : PageEntry) (s : State) :
    slotAt k (setPageEntry r e s) = slotAt k s := rfl

@[simp] theorem residentSlot_setSlot (r : PageRef) (k : Fin 6) (v : Slot) (s : State) :
    residentSlot r (setSlot k v s) = residentSlot r s := rfl

theorem slotAt_emptyResident_ne {test : PageRef → Bool} {s : State} {k j : Fin 6} (h : k ≠ j) :
    slotAt k (emptyResident test s j) = slotAt k s := by
  by_cases he : evicted test s j
  · obtain ⟨r, hp, ht, hr⟩ := he
    rw [emptyResident_of_evicted hp ht hr, slotAt_setSlot_ne h, slotAt_setPageEntry]
  · rw [emptyResident_of_not he]

/-- A page resident in another slot stays there, and no page comes to a slot. -/
theorem residentSlot_emptyResident_ne {test : PageRef → Bool} {s : State} {k j : Fin 6} (h : k ≠ j) (r : PageRef) :
    residentSlot r (emptyResident test s j) = some k ↔ residentSlot r s = some k := by
  by_cases he : evicted test s j
  · obtain ⟨r', hp, ht, hr⟩ := he
    rw [emptyResident_of_evicted hp ht hr, residentSlot_setSlot]
    by_cases hrr : r = r'
    · subst hrr
      have hk : residentSlot r s ≠ some k := fun hk => h (Option.some.inj (hk.symm.trans hr))
      have hnone : residentSlot r (setPageEntry r { pageEntry r s with slot := none } s) = none := by
        simp [residentSlot]
      simp [hk, hnone]
    · simp only [residentSlot, pageEntry_setPageEntry_ne hrr]
  · rw [emptyResident_of_not he]

/-- A page that is resident nowhere stays so. -/
theorem residentSlot_emptyResident_none {test : PageRef → Bool} {s : State} {r : PageRef}
    (h : residentSlot r s = none) (j : Fin 6) : residentSlot r (emptyResident test s j) = none := by
  by_cases he : evicted test s j
  · obtain ⟨r', hp, ht, hr⟩ := he
    have hne : r ≠ r' := fun e => by simp [← e, h] at hr
    rw [emptyResident_of_evicted hp ht hr, residentSlot_setSlot]
    simpa only [residentSlot, pageEntry_setPageEntry_ne hne] using h
  · rwa [emptyResident_of_not he]

theorem evicted_emptyResident_ne {test : PageRef → Bool} {s : State} {k j : Fin 6} (h : k ≠ j) :
    evicted test (emptyResident test s j) k ↔ evicted test s k := by
  simp only [evicted, slotAt_emptyResident_ne h, residentSlot_emptyResident_ne h]

/-- Once emptied, a slot stays so, and its page stays out of it. -/
theorem foldl_emptyResident_notMem (test : PageRef → Bool) {k : Fin 6} (l : List (Fin 6)) (hk : k ∉ l) :
    ∀ s, slotAt k (l.foldl (emptyResident test) s) = slotAt k s ∧
      (∀ r, residentSlot r (l.foldl (emptyResident test) s) = some k ↔ residentSlot r s = some k) := by
  induction l with
  | nil => exact fun s => ⟨rfl, fun r => Iff.rfl⟩
  | cons j l ih =>
    intro s
    have hkj : k ≠ j := fun e => hk (e ▸ List.mem_cons_self)
    obtain ⟨hslot, hres⟩ := ih (fun h => hk (List.mem_cons_of_mem _ h)) (emptyResident test s j)
    exact ⟨hslot.trans (slotAt_emptyResident_ne hkj),
      fun r => (hres r).trans (residentSlot_emptyResident_ne hkj r)⟩

theorem foldl_emptyResident_mem (test : PageRef → Bool) {k : Fin 6} (l : List (Fin 6)) (hl : l.Nodup) (hk : k ∈ l) :
    ∀ s, (evicted test s k → slotAt k (l.foldl (emptyResident test) s) = slotReset) ∧
      (¬ evicted test s k → slotAt k (l.foldl (emptyResident test) s) = slotAt k s) := by
  induction l with
  | nil => simp at hk
  | cons j l ih =>
    intro s
    obtain ⟨hj, hl⟩ := List.nodup_cons.1 hl
    by_cases hkj : k = j
    · subst hkj
      have hrest := (foldl_emptyResident_notMem test l hj (emptyResident test s k)).1
      refine ⟨fun he => hrest.trans ?_, fun he => hrest.trans ?_⟩
      · obtain ⟨r, hp, ht, hr⟩ := he
        rw [emptyResident_of_evicted hp ht hr, slotAt_setSlot_same]
      · rw [emptyResident_of_not he]
    · obtain ⟨h1, h2⟩ := ih hl ((List.mem_cons.1 hk).resolve_left hkj) (emptyResident test s j)
      rw [evicted_emptyResident_ne hkj] at h1 h2
      exact ⟨h1, fun he => (h2 he).trans (slotAt_emptyResident_ne hkj)⟩

/-- Every slot in which a page that goes is resident is emptied. -/
def emptied (test : PageRef → Bool) (s : State) : State := allSlots.foldl (emptyResident test) s

theorem mem_allSlots (k : Fin 6) : k ∈ allSlots := by revert k; decide

theorem slotAt_emptied (test : PageRef → Bool) (s : State) (k : Fin 6) :
    (evicted test s k → slotAt k (emptied test s) = slotReset) ∧
      (¬ evicted test s k → slotAt k (emptied test s) = slotAt k s) :=
  foldl_emptyResident_mem test allSlots (by decide) (mem_allSlots k) s

/-- The exchange without its slots: queue, current exchange, controller request, cursor. -/
def exchRest (s : State) : List Request × Option Transfer × Option PageRef × Fin 6 :=
  (s.exch.queue, s.exch.current, s.exch.ctrlReq, s.exch.cursor)

theorem exchRest_emptyResident (test : PageRef → Bool) (s : State) (k : Fin 6) :
    exchRest (emptyResident test s k) = exchRest s := by
  unfold emptyResident
  (repeat' split) <;> rfl

theorem exchRest_emptied (test : PageRef → Bool) (s : State) : exchRest (emptied test s) = exchRest s := by
  unfold emptied
  induction allSlots generalizing s with
  | nil => rfl
  | cons k l ih => exact (ih _).trans (exchRest_emptyResident test s k)

/-- A page that goes from the slot it was resident in is resident nowhere. -/
theorem residentSlot_emptied {test : PageRef → Bool} {s : State} {k : Fin 6} {r : PageRef}
    (hp : (slotAt k s).page = some r) (ht : test r = true) (hr : residentSlot r s = some k) :
    residentSlot r (emptied test s) = none := by
  have h (l : List (Fin 6)) : ∀ s : State, residentSlot r s = none ∨
      ((slotAt k s).page = some r ∧ residentSlot r s = some k ∧ k ∈ l) →
      residentSlot r (l.foldl (emptyResident test) s) = none := by
    induction l with
    | nil => exact fun s h => h.resolve_right fun h => by simp at h
    | cons j l ih =>
      refine fun s h => ih _ ?_
      rcases h with h | ⟨hp, hr, hk⟩
      · exact .inl (residentSlot_emptyResident_none h j)
      by_cases hkj : k = j
      · subst hkj
        rw [emptyResident_of_evicted hp ht hr, residentSlot_setSlot]
        exact .inl (by simp [residentSlot])
      · exact .inr ⟨(congrArg Slot.page (slotAt_emptyResident_ne hkj)).trans hp,
          (residentSlot_emptyResident_ne hkj r).2 hr, (List.mem_cons.1 hk).resolve_left hkj⟩
  exact h allSlots s (.inr ⟨hp, hr, mem_allSlots k⟩)

/-! ### The exchange in progress (R41, R55) -/

/-- The slot of a transfer holds a victim that goes: its save is abandoned. -/
def saveGone (test : PageRef → Bool) (s : State) (x : Transfer) : Bool :=
  decide (x.stage = .save) && (slotAt x.slot s).page.any test

/-- The exchange after its incoming page and its victim have been judged. -/
def afterCancel (test : PageRef → Bool) (s : State) : State := abandonSave test (cancelIncoming test s)

theorem afterCancel_none {test : PageRef → Bool} {s : State} (h : s.exch.current = none) : afterCancel test s = s := by
  simp only [afterCancel, cancelIncoming, h, abandonSave]

/-- A load of a page that goes is abandoned (R41). -/
theorem afterCancel_load {test : PageRef → Bool} {s : State} {x : Transfer} (h : s.exch.current = some x)
    (ht : test x.page = true) (hst : x.stage = .load) :
    afterCancel test s = (setSlot x.slot slotReset s).setExch
      { (setSlot x.slot slotReset s).exch with current := none } := by
  simp only [afterCancel, cancelIncoming, h, ht, hst, if_true, abandonSave, State.setExch_exch]

/-- A save in favour of a page that goes is cancelled, and abandoned where its victim goes too (R41). -/
theorem afterCancel_cancelled {test : PageRef → Bool} {s : State} {x : Transfer} (h : s.exch.current = some x)
    (ht : test x.page = true) (hst : x.stage = .save) :
    afterCancel test s =
      if saveGone test s x = true then (setSlot x.slot slotReset s).setExch
        { (setSlot x.slot slotReset s).exch with current := none }
      else s.setExch { s.exch with current := some { x with cancelled := true } } := by
  simp only [afterCancel, cancelIncoming, h, ht, hst, if_true, abandonSave, State.setExch_exch, saveGone,
    decide_true, Bool.true_and, true_and]
  by_cases hv : (slotAt x.slot s).page.any test = true
  · exact (if_pos hv).trans (if_pos hv).symm
  · exact (if_neg hv).trans (if_neg hv).symm

/-- The save of a victim that goes ends at once: for its incoming page, or for none where it was cancelled (R41). -/
theorem afterCancel_other {test : PageRef → Bool} {s : State} {x : Transfer} (h : s.exch.current = some x)
    (ht : test x.page = false) :
    afterCancel test s = if saveGone test s x = true then leaveSave x s else s := by
  simp only [afterCancel, cancelIncoming, h, ht, if_false, Bool.false_eq_true, abandonSave, saveGone,
    Bool.and_eq_true, decide_eq_true_eq]

/-- Only the slot of the exchange in progress is touched. -/
theorem slotAt_afterCancel {test : PageRef → Bool} {s : State} {k : Fin 6}
    (hk : ∀ x, s.exch.current = some x → x.slot ≠ k) : slotAt k (afterCancel test s) = slotAt k s := by
  cases h : s.exch.current with
  | none => rw [afterCancel_none h]
  | some x =>
    have hne : k ≠ x.slot := (hk x h).symm
    have hreset : slotAt k (setSlot x.slot slotReset s) = slotAt k s := slotAt_setSlot_ne hne _ _
    cases ht : test x.page with
    | true =>
      cases hst : x.stage with
      | load => rw [afterCancel_load h ht hst]; exact hreset
      | save =>
        rw [afterCancel_cancelled h ht hst]
        split
        · exact hreset
        · rfl
    | false =>
      rw [afterCancel_other h ht]
      split
      · unfold leaveSave
        dsimp only
        split
        · exact hreset
        · exact (slotAt_setSlot_ne hne _ _).trans hreset
      · rfl

theorem pages_afterCancel (test : PageRef → Bool) (s : State) : (afterCancel test s).pages = s.pages := by
  have hcancel : (cancelIncoming test s).pages = s.pages := by
    unfold cancelIncoming
    (repeat' split) <;> rfl
  rw [← hcancel]
  unfold afterCancel abandonSave leaveSave
  (repeat' split) <;> rfl

theorem residentSlot_afterCancel (test : PageRef → Bool) (r : PageRef) (s : State) :
    residentSlot r (afterCancel test s) = residentSlot r s := by
  simp only [residentSlot, pageEntry, pages_afterCancel]

theorem exchangeDrop_eq (test : PageRef → Bool) (s : State) :
    exchangeDrop test s = emptied test (afterCancel test (withoutRequests test s)) := by
  unfold exchangeDrop
  rw [dropRequests_dropController]
  rfl

theorem offExchange_afterCancel (test : PageRef → Bool) (s : State) :
    offExchange (afterCancel test s) = offExchange s :=
  (offExchange_abandonSave ..).trans (offExchange_cancelIncoming ..)

theorem offExchange_emptied (test : PageRef → Bool) (s : State) : offExchange (emptied test s) = offExchange s :=
  offExchange_foldl _ (offExchange_emptyResident test) _ s

/-- Outside the exchange only the held changes can go (R104). -/
theorem offExchange_exchangeDrop (test : PageRef → Bool) (s : State) :
    offExchange (exchangeDrop test s) = offExchange (s.setNav (heldWithout test s)) := by
  rw [exchangeDrop_eq, offExchange_emptied, offExchange_afterCancel]
  rfl

/-- What is left of the queue, the controller request and the cursor (R51, R104). -/
theorem exchangeDrop_requests (test : PageRef → Bool) (s : State) :
    (exchangeDrop test s).exch.queue = s.exch.queue.filter (fun q => !test q.page) ∧
      (exchangeDrop test s).exch.ctrlReq = (if s.exch.ctrlReq.any test = true then none else s.exch.ctrlReq) ∧
      (exchangeDrop test s).exch.cursor = s.exch.cursor := by
  have hcancel (u : State) : (afterCancel test u).exch.queue = u.exch.queue ∧
      (afterCancel test u).exch.ctrlReq = u.exch.ctrlReq ∧ (afterCancel test u).exch.cursor = u.exch.cursor := by
    have hin : (cancelIncoming test u).exch.queue = u.exch.queue ∧
        (cancelIncoming test u).exch.ctrlReq = u.exch.ctrlReq ∧
        (cancelIncoming test u).exch.cursor = u.exch.cursor := by
      unfold cancelIncoming
      (repeat' split) <;> exact ⟨rfl, rfl, rfl⟩
    rw [← hin.1, ← hin.2.1, ← hin.2.2]
    unfold afterCancel abandonSave leaveSave
    (repeat' split) <;> exact ⟨rfl, rfl, rfl⟩
  have hrest := exchRest_emptied test (afterCancel test (withoutRequests test s))
  simp only [exchRest, Prod.mk.injEq] at hrest
  obtain ⟨hqueue, -, hreq, hcursor⟩ := hrest
  rw [exchangeDrop_eq, hqueue, hreq, hcursor]
  exact hcancel (withoutRequests test s)

theorem exchangeDrop_current (test : PageRef → Bool) (s : State) :
    (exchangeDrop test s).exch.current = (afterCancel test (withoutRequests test s)).exch.current := by
  have hrest := exchRest_emptied test (afterCancel test (withoutRequests test s))
  simp only [exchRest, Prod.mk.injEq] at hrest
  rw [exchangeDrop_eq, hrest.2.1]

/-- A slot whose page stays is not emptied. -/
theorem slotAt_emptied_kept {test : PageRef → Bool} {s : State} {k : Fin 6} (h : (slotAt k s).page.any test = false) :
    slotAt k (emptied test s) = slotAt k s := by
  refine (slotAt_emptied test s k).2 fun ⟨r, hp, ht, _⟩ => ?_
  simp [hp, ht] at h

section Current

variable {test : PageRef → Bool} {s : State} {x : Transfer} (h : s.exch.current = some x)

include h

/-- A load of a page that goes is over (R41). -/
theorem exchangeDrop_load (ht : test x.page = true) (hst : x.stage = .load) :
    (exchangeDrop test s).exch.current = none ∧ slotAt x.slot (exchangeDrop test s) = slotReset := by
  have hcancel := afterCancel_load (s := withoutRequests test s) h ht hst
  have hslot : slotAt x.slot (afterCancel test (withoutRequests test s)) = slotReset := by
    rw [hcancel]
    exact slotAt_setSlot_same ..
  rw [exchangeDrop_current, hcancel, exchangeDrop_eq, slotAt_emptied_kept (by rw [hslot]; rfl), hslot]
  exact ⟨rfl, rfl⟩

/-- A save in favour of a page that goes is cancelled (R41). -/
theorem exchangeDrop_cancelled (ht : test x.page = true) (hst : x.stage = .save) (hv : saveGone test s x = false) :
    (exchangeDrop test s).exch.current = some { x with cancelled := true } ∧
      slotAt x.slot (exchangeDrop test s) = slotAt x.slot s := by
  have hnot : ¬ saveGone test (withoutRequests test s) x = true :=
    fun e => Bool.false_ne_true (hv.symm.trans e)
  have hcancel := (afterCancel_cancelled (s := withoutRequests test s) h ht hst).trans (if_neg hnot)
  have hslot : slotAt x.slot (afterCancel test (withoutRequests test s)) = slotAt x.slot s := by rw [hcancel]; rfl
  have hpage : (slotAt x.slot s).page.any test = false := by simpa [saveGone, hst] using hv
  rw [exchangeDrop_current, hcancel, exchangeDrop_eq, slotAt_emptied_kept (by rw [hslot]; exact hpage), hslot]
  exact ⟨rfl, rfl⟩

/-- The save of a victim that goes leaves nothing where its incoming page goes too, or has gone (R41). -/
theorem exchangeDrop_both (hv : saveGone test s x = true) (hc : test x.page = true ∨ x.cancelled = true) :
    (exchangeDrop test s).exch.current = none ∧ slotAt x.slot (exchangeDrop test s) = slotReset := by
  have hcancel : ∃ u : State, afterCancel test (withoutRequests test s) =
      (setSlot x.slot slotReset u).setExch { (setSlot x.slot slotReset u).exch with current := none } := by
    have hstage : x.stage = .save := by
      simp only [saveGone, Bool.and_eq_true, decide_eq_true_eq] at hv
      exact hv.1
    cases ht : test x.page with
    | true => exact ⟨_, (afterCancel_cancelled (s := withoutRequests test s) h ht hstage).trans (if_pos hv)⟩
    | false =>
      have hc : x.cancelled = true := by simpa [ht] using hc
      exact ⟨_, ((afterCancel_other (s := withoutRequests test s) h ht).trans (if_pos hv)).trans (if_pos hc)⟩
  obtain ⟨u, hcancel⟩ := hcancel
  have hslot : slotAt x.slot (afterCancel test (withoutRequests test s)) = slotReset := by
    rw [hcancel]
    exact slotAt_setSlot_same ..
  rw [exchangeDrop_current, hcancel, exchangeDrop_eq, slotAt_emptied_kept (by rw [hslot]; rfl), hslot]
  exact ⟨rfl, rfl⟩

/-- The save of a victim that goes is abandoned, and the load of the incoming page begins (R41). -/
theorem exchangeDrop_victim (ht : test x.page = false) (hv : saveGone test s x = true) (hc : x.cancelled = false) :
    (exchangeDrop test s).exch.current = some { x with stage := .load } ∧
      slotAt x.slot (exchangeDrop test s) = loadingSlot x.page := by
  have hleave : leaveSave x (withoutRequests test s) =
      startLoad x (setSlot x.slot slotReset (withoutRequests test s)) := if_neg (by simp [hc])
  have hcancel : afterCancel test (withoutRequests test s) =
      startLoad x (setSlot x.slot slotReset (withoutRequests test s)) :=
    ((afterCancel_other (s := withoutRequests test s) h ht).trans (if_pos hv)).trans hleave
  have hslot : slotAt x.slot (afterCancel test (withoutRequests test s)) = loadingSlot x.page := by
    rw [hcancel]
    exact slotAt_setSlot_same ..
  rw [exchangeDrop_current, hcancel, exchangeDrop_eq,
    slotAt_emptied_kept (by rw [hslot]; simpa [loadingSlot] using ht), hslot]
  exact ⟨rfl, rfl⟩

/-- An exchange that neither brings nor saves a page that goes stays (R41). -/
theorem exchangeDrop_kept (ht : test x.page = false) (hv : saveGone test s x = false) :
    (exchangeDrop test s).exch.current = some x := by
  have hnot : ¬ saveGone test (withoutRequests test s) x = true :=
    fun e => Bool.false_ne_true (hv.symm.trans e)
  rw [exchangeDrop_current, (afterCancel_other (s := withoutRequests test s) h ht).trans (if_neg hnot)]
  exact h

end Current

theorem exchangeDrop_idle {test : PageRef → Bool} {s : State} (h : s.exch.current = none) :
    (exchangeDrop test s).exch.current = none := by
  rw [exchangeDrop_current, afterCancel_none (s := withoutRequests test s) h]
  exact h

section Slots

variable {test : PageRef → Bool} {s : State} {k : Fin 6} (hk : ∀ x, s.exch.current = some x → x.slot ≠ k)

include hk

/-- A slot outside the exchange keeps a page that stays (R41). -/
theorem exchangeDrop_slot_kept (hp : (slotAt k s).page.any test = false) :
    slotAt k (exchangeDrop test s) = slotAt k s := by
  have hslot : slotAt k (afterCancel test (withoutRequests test s)) = slotAt k s := slotAt_afterCancel hk
  rw [exchangeDrop_eq, slotAt_emptied_kept (by rw [hslot]; exact hp), hslot]

/-- A slot outside the exchange is emptied where its page goes (R41, R45). -/
theorem exchangeDrop_slot_gone {r : PageRef} (hp : (slotAt k s).page = some r) (ht : test r = true)
    (hr : residentSlot r s = some k) :
    slotAt k (exchangeDrop test s) = slotReset ∧ residentSlot r (exchangeDrop test s) = none := by
  have hslot : (slotAt k (afterCancel test (withoutRequests test s))).page = some r :=
    (congrArg Slot.page (slotAt_afterCancel (s := withoutRequests test s) hk)).trans hp
  have hres : residentSlot r (afterCancel test (withoutRequests test s)) = some k :=
    (residentSlot_afterCancel ..).trans hr
  rw [exchangeDrop_eq]
  exact ⟨(slotAt_emptied ..).1 ⟨r, hslot, ht, hres⟩, residentSlot_emptied hslot ht hres⟩

end Slots

end Sys2Proof.Machine

namespace Sys2Proof.Machine

open Sys2Proof

/-! ## DELETE (R174) -/

theorem deleteRange_eq (lane : Owner) :
    deleteRange lane 0x11 = some (if lane = .disc then 384 else 128) ∧ deleteRange lane 0x10 = some 8 ∧
      deleteRange lane 0x12 = some 32 ∧ deleteRange lane 0x13 = some 2 ∧ deleteRange lane 0x14 = some 8 := by
  refine ⟨?_, rfl, rfl, rfl, rfl⟩
  cases lane <;> rfl

theorem deleteRange_none {lane : Owner} {item : Byte} (h : item ∉ [(0x10 : Byte), 0x11, 0x12, 0x13, 0x14]) :
    deleteRange lane item = none := by
  simp only [List.mem_cons, List.not_mem_nil, or_false, not_or] at h
  obtain ⟨hpal, hobj, hpage, hlist, hcue⟩ := h
  simp only [deleteRange, kindObject, kindPalette, kindPage, kindSlideList, kindCue, hpal, hobj, hpage, hlist, hcue,
    if_false]

theorem deleteFault_of_range {lane : Owner} {p : List Byte} {n : Nat} (hlen : p.length = 3)
    (h : deleteRange lane (byteAt p 0) = some n) :
    deleteFault lane p = if (halfAt p 1).toNat < n then none else some (0x03, 1) := by
  simp only [deleteFault, hlen, h, ne_eq, not_true, if_false]
  by_cases hn : n ≤ (halfAt p 1).toNat
  · rw [if_pos hn, if_neg (by omega)]; rfl
  · rw [if_neg hn, if_pos (by omega)]

/-- A DELETE that arrives on an open lane is checked and handed to its block. -/
theorem exec_delete {s : State} (h : laneOpen s = true) (lane : Owner) (p : List Byte) :
    exec (.delete lane p) s = .next (takeDelete lane p s) := by
  have hjudged : headerFault lane kindDelete p.length = none := by
    simp [headerFault, isKind, kindDelete, kindEdition, kindTime, kindPage, kindMinimum, kindObject, kindPalette,
      kindSlideList]
  simp only [exec, execDelete, awake_arriveSegment h, wholeSegment, hjudged]
  rfl

theorem exec_delete_accepted {s : State} (h : laneOpen s = true) {lane : Owner} {p : List Byte}
    (hp : deleteFault lane p = none) :
    exec (.delete lane p) s = .next (deleteItem lane (byteAt p 0) (halfAt p 1).toNat s) := by
  simp only [exec_delete h, takeDelete, hp]

theorem deleteItem_object {lane : Owner} {id : Nat} {i : Fin 512} (h : objectIndex lane id = some i) (s : State) :
    deleteItem lane 0x11 id s = deleteObject i s := by
  simp [deleteItem, kindObject, h]

theorem deleteItem_palette (lane : Owner) (q : Fin 8) (s : State) :
    deleteItem lane 0x10 q.val s = deletePalette (paletteIndex lane q) s := by
  simp [deleteItem, kindObject, kindPalette]

theorem deleteItem_page (lane : Owner) (q : Fin 32) (s : State) :
    deleteItem lane 0x12 q.val s = deletePage ⟨lane, q⟩ s := by
  simp [deleteItem, kindObject, kindPalette, kindPage]

theorem deleteItem_list (lane : Owner) (q : Fin 2) (s : State) :
    deleteItem lane 0x13 q.val s = deleteList lane q s := by
  simp [deleteItem, kindObject, kindPalette, kindPage, kindSlideList]

theorem deleteItem_cue (lane : Owner) (q : Fin 8) (s : State) :
    deleteItem lane 0x14 q.val s = deleteCue (cueIndex lane q) s := by
  simp [deleteItem, kindObject, kindPalette, kindPage, kindSlideList, kindCue]

/-! ### Objects and palettes (R20, R26) -/

/-- The regions of an entry, incoming first. -/
theorem deleteObject_eq (i : Fin 512) (s : State) : deleteObject i s =
    let e := objEntry i s
    let gone := s.setObjs { released s ((e.incoming.map Incoming.region).toList ++ e.current.toList) with
      dir := s.objs.dir.set i objEntryReset }
    if e.st = .ready ∨ e.st = .replacing then raiseRecompose gone else gone := by
  unfold deleteObject
  dsimp only
  rw [releaseOpt_eq, releaseOpt_eq, released_released]
  simp only [isDrawn, Bool.or_eq_true, beq_iff_eq]
  rfl

theorem beforeLiveChange_of_not {s : State} (h : s.comp.pass ≠ .drawing) : beforeLiveChange s = s := by
  have hflight : ¬ passInFlight s = true := by simp [passInFlight, h]
  exact if_neg hflight

/-- Before a live palette changes the pass in flight draws some more, and nothing else changes (R162, log 6). -/
theorem beforeLiveChange_eq (s : State) : beforeLiveChange s =
    ((s.setMem (beforeLiveChange s).mem).setComp { s.comp with
      progress := (beforeLiveChange s).comp.progress }).setFresh (beforeLiveChange s).fresh := by
  unfold beforeLiveChange
  split
  · exact drawAhead_eq s
  · rfl

theorem read_beforeLiveChange_offPlane (s : State) {a : Addr} (ha : offPlane (otherPlane s.comp.front) a) :
    (beforeLiveChange s).mem.read a = s.mem.read a := by
  unfold beforeLiveChange
  split
  · exact read_drawAhead_offPlane s ha
  · rfl

theorem deletePalette_eq (i : Fin 16) (s : State) : deletePalette i s =
    raiseRecompose ((beforeLiveChange s).setPals (s.pals.set i paletteReset)) := by
  unfold deletePalette
  rw [beforeLiveChange_eq]
  rfl

/-! ### Slide lists (R113, R127) -/

theorem deleteList_of_none {lane : Owner} {q : Fin 2} {s : State} (h : slideList lane q s = none) :
    deleteList lane q s = s := by
  simp only [deleteList, h]

theorem deleteList_of_some {lane : Owner} {q : Fin 2} {s : State} (h : slideList lane q s ≠ none) :
    deleteList lane q s = changeList lane q none s := by
  unfold deleteList
  split
  · contradiction
  · rfl

theorem isRunningList_iff (o : Owner) (q : Fin 2) (s : State) :
    isRunningList o q s = true ↔ s.seqr.st ≠ .stopped ∧ s.seqr.owner = o ∧ s.seqr.list = q := by
  simp [isRunningList, and_assoc]

/-! ### Removing an entry of the stack (R66) -/

theorem hasEntry_iff (r : PageRef) (s : State) : hasEntry r s = true ↔ ∃ e, entryOf r s = some e := by
  rw [← Option.isSome_iff_exists, entryOf, List.find?_isSome, hasEntry, List.any_eq_true]

/-- The notice that an entry is gone, where one is posted (R66). -/
def hiddenNotice (r : PageRef) (i : Nat) (code : Option Half) (s : State) : State :=
  match code with
  | none => s
  | some c => pageNotice .pageHidden r i c s

theorem hiddenNotice_eq_setLink (r : PageRef) (i : Nat) (code : Option Half) (s : State) :
    hiddenNotice r i code s = s.setLink (hiddenNotice r i code s).link := by
  cases code with
  | none => rfl
  | some c => exact post_eq_setLink ..

/-- An entry has left the stack and its return selection is gone; the exchange does not know yet (R62, R66, R102). -/
def entryGone (r : PageRef) (i : Nat) (e : Entry) (code : Option Half) (s : State) : State :=
  dropReturnSel (fun x => x == r) (setEntries (closeOrder e (s.stack.entries.eraseIdx i)) (hiddenNotice r i code s))

theorem entryGone_eq (r : PageRef) (i : Nat) (e : Entry) (code : Option Half) (s : State) :
    entryGone r i e code s = ((s.setLink (hiddenNotice r i code s).link).setStack
      { s.stack with entries := closeOrder e (s.stack.entries.eraseIdx i) }).setNav
        { s.nav with returnSel := s.nav.returnSel.filter (fun x => !(x.1 == r)) } := by
  unfold entryGone
  rw [hiddenNotice_eq_setLink]
  rfl

/-- A removed entry withdraws the request of its page, or frees a pinned slot for the exchange (R47, R50, R66). -/
theorem removeEntry_eq {r : PageRef} {i : Nat} {e : Entry} {s : State} (code : Option Half)
    (hi : positionOf r s = some i) (he : entryOf r s = some e) :
    removeEntry r code s = handOn (if isResident r s = true then takeUp (entryGone r i e code s)
      else withdrawRequest .stack r (entryGone r i e code s)) := by
  have hres : isResident r (entryGone r i e code s) = isResident r s := by rw [entryGone_eq]; rfl
  have hstack : (hiddenNotice r i code s).stack = s.stack := by rw [hiddenNotice_eq_setLink]; rfl
  have hdetach : detachEntry r code s = if isResident r (entryGone r i e code s) = true then entryGone r i e code s
      else withdrawRequest .stack r (entryGone r i e code s) := by
    simp only [detachEntry, hi, he]
    unfold entryGone
    rw [← hstack]
    rfl
  rw [removeEntry, if_pos ((hasEntry_iff r s).2 ⟨e, he⟩), hdetach, hres]
  cases hr : isResident r s with
  | true => simp only [if_true, hres, hr]
  | false =>
    have hkept : isResident r (withdrawRequest .stack r (entryGone r i e code s)) = false := hres.trans hr
    simp only [Bool.false_eq_true, if_false, hkept]

theorem removeEntry_none {r : PageRef} {s : State} (code : Option Half) (h : entryOf r s = none) :
    removeEntry r code s = s := by
  refine if_neg fun hn => ?_
  obtain ⟨e, he⟩ := (hasEntry_iff r s).1 hn
  rw [h] at he
  contradiction

/-- Outside the exchange a removed entry changes the stack, its return selection and the notices (R66, R102). -/
theorem offExchange_removeEntry {r : PageRef} {i : Nat} {e : Entry} {s : State} (code : Option Half)
    (hi : positionOf r s = some i) (he : entryOf r s = some e) :
    offExchange (removeEntry r code s) = offExchange (entryGone r i e code s) := by
  rw [removeEntry_eq code hi he, offExchange_handOn]
  split
  · exact offExchange_takeUp _
  · rfl

/-- An entry is found at its position, or nowhere. -/
theorem entryOf_cases (r : PageRef) (s : State) :
    (positionOf r s = none ∧ entryOf r s = none) ∨ ∃ i e, positionOf r s = some i ∧ entryOf r s = some e := by
  cases hi : positionOf r s with
  | none => exact .inl ⟨rfl, by simpa [positionOf, entryOf] using hi⟩
  | some i =>
    have hsome : (entryOf r s).isSome = true := by
      rw [entryOf, List.find?_isSome]
      obtain ⟨h, hp, -⟩ := List.findIdx?_eq_some_iff_getElem.1 hi
      exact ⟨_, List.getElem_mem h, hp⟩
    obtain ⟨e, he⟩ := Option.isSome_iff_exists.1 hsome
    exact .inr ⟨i, e, rfl, he⟩

/-- The show, the time and the counter stay when an entry is removed. -/
theorem removeEntry_keeps (r : PageRef) (code : Option Half) (s : State) :
    (removeEntry r code s).seqr = s.seqr ∧ (removeEntry r code s).disp = s.disp ∧
      (removeEntry r code s).cues = s.cues := by
  rcases entryOf_cases r s with ⟨-, he⟩ | ⟨i, e, hi, he⟩
  · rw [removeEntry_none code he]
    exact ⟨rfl, rfl, rfl⟩
  · have h := offExchange_removeEntry code hi he
    rw [entryGone_eq] at h
    exact ⟨(seqr_of_offExchange h).trans rfl, (disp_of_offExchange h).trans rfl, (cues_of_offExchange h).trans rfl⟩

theorem recompose_handOn (s : State) : (handOn s).comp.recompose = true := rfl

theorem closeOrder_eq (e : Entry) (es : List Entry) : closeOrder e es = es.map (fun x =>
    if e.st = .leaving ∧ x.st = .leaving ∧ e.order < x.order then { x with order := x.order - 1 } else x) := by
  unfold closeOrder isLeaving
  by_cases h : e.st = .leaving
  · simp [h]
  · simp [h]

theorem eraseIdx_positionOf {r : PageRef} {i : Nat} {s : State} (h : positionOf r s = some i) :
    s.stack.entries.eraseIdx i = s.stack.entries.eraseP (fun x => x.page == r) := by
  rw [List.eraseP_eq_eraseIdx, show s.stack.entries.findIdx? _ = some i from h]

/-! ### The slide show and a page that goes (R128) -/

theorem slideGone_of_not {r : PageRef} {s : State} (h : isSlidePage r s = true ∨
    (¬ ∃ e ∈ runningEntries s, (⟨s.seqr.owner, e.page⟩ : PageRef) = r) ∨ s.seqr.st = .stopped) :
    sequencerPageChanged r s = s := by
  unfold sequencerPageChanged
  split
  · rename_i hc
    obtain ⟨hnamed, hslide⟩ := hc
    rcases h with h | h | h
    · simp [h] at hslide
    · exact absurd (by simpa [slidePage] using hnamed) h
    · simp only [slideGone, h]
  · rfl

theorem sequencerPageChanged_named {r : PageRef} {s : State} (hslide : isSlidePage r s = false)
    (hnamed : ∃ e ∈ runningEntries s, (⟨s.seqr.owner, e.page⟩ : PageRef) = r) :
    sequencerPageChanged r s = slideGone r s :=
  if_pos ⟨by simpa [slidePage] using hnamed, hslide⟩

theorem slideGone_settled {r : PageRef} {s : State}
    (h : s.seqr.st = .holding ∨ s.seqr.st = .paused ∨ s.seqr.st = .ended) : slideGone r s = heldPageGone r s := by
  rcases h with h | h | h <;> simp only [slideGone, h]

theorem slideGone_waiting {r : PageRef} {s : State} (h : s.seqr.st = .waiting) : slideGone r s = waitPageGone r s := by
  simp only [slideGone, h]

theorem stack_pageNotice (kind : NoticeKind) (r : PageRef) (pos : Nat) (code : Half) (s : State) :
    (pageNotice kind r pos code s).stack = s.stack := by
  rw [pageNotice, post_eq_setLink]; rfl

theorem seqr_pageNotice (kind : NoticeKind) (r : PageRef) (pos : Nat) (code : Half) (s : State) :
    (pageNotice kind r pos code s).seqr = s.seqr := by
  rw [pageNotice, post_eq_setLink]; rfl

/-- A slide brought back to full level: what changes outside the exchange (R66, R79). -/
theorem offExchange_changeEntry (r : PageRef) (f : Entry → Entry) (s : State) :
    offExchange (changeEntry r f s) =
      offExchange (setEntries (s.stack.entries.map (fun e => if e.page = r then f e else e)) s) := by
  unfold changeEntry
  exact offExchange_handOn _

/-- The notices of a slide brought back to full level: hidden at full cut, shown again (R66, R79). -/
def renewNotices (r : PageRef) (i : Nat) (s : State) : State :=
  pageNotice .pageShown r i 2 (pageNotice .pageHidden r i 4 s)

theorem positionOf_congr {r : PageRef} {s t : State}
    (h : t.stack.entries.map Entry.page = s.stack.entries.map Entry.page) :
    positionOf r t = positionOf r s := by
  have hmap (u : State) : positionOf r u = (u.stack.entries.map Entry.page).findIdx? (fun p => p == r) := by
    rw [positionOf, List.findIdx?_map]; rfl
  rw [hmap, hmap, h]

/-- The slide as it stands again at full level (R66). -/
def renewedEntry (now : Word) (e : Entry) : Entry := { e with st := .shown, start := some now, role := .plain }

theorem renewSlide_stack_seqr (r : PageRef) (s : State) :
    (renewSlide r s).stack.entries =
        s.stack.entries.map (fun x => if x.page = r then renewedEntry s.disp.counter x else x) ∧
      (renewSlide r s).seqr = s.seqr := by
  unfold renewSlide turnShown
  dsimp only
  generalize hu : pageNotice .pageHidden r ((positionOf r s).getD 0) hiddenSlide s = u
  have hus : u = s.setLink u.link := by rw [← hu]; exact post_eq_setLink ..
  have h := offExchange_changeEntry r (fun e => { e with st := .shown, start := some (fieldNow u), role := .plain }) u
  rw [stack_pageNotice, seqr_pageNotice, stack_of_offExchange h, seqr_of_offExchange h, hus]
  exact ⟨rfl, rfl⟩

theorem renewSlide_link {r : PageRef} {i : Nat} {s : State} (hi : positionOf r s = some i) :
    (renewSlide r s).link = (renewNotices r i s).link := by
  unfold renewSlide turnShown renewNotices
  simp only [hi, Option.getD_some, shownSlide, hiddenSlide]
  generalize hu : pageNotice .pageHidden r i 4 s = u
  have hpos : positionOf r u = some i := by
    rw [← hu, positionOf_congr (congrArg (fun st => st.entries.map Entry.page) (stack_pageNotice ..)), hi]
  have h := offExchange_changeEntry r (fun e => { e with st := .shown, start := some (fieldNow u), role := .plain }) u
  rw [hpos]
  exact post_link_congr _ _ _ _ _ _ _ _ ((link_of_offExchange h).trans rfl) ((disp_of_offExchange h).trans rfl)
    ((cues_of_offExchange h).trans rfl)

theorem slideGone_trans {r out : PageRef} {s : State} (hst : s.seqr.st = .transitioning)
    (hout : s.seqr.shown = some out) (hne : out ≠ r) : slideGone r s =
      if pageAt s.seqr.index s = some r then
        searchMove s.seqr.back ((renewSlide out s).setSeqr { s.seqr with trans := none, st := .waiting })
      else s := by
  have hshown : ¬ s.seqr.shown = some r := by rw [hout]; exact fun e => hne (Option.some.inj e)
  have hseqr := (renewSlide_stack_seqr out s).2
  simp only [slideGone, hst, transPageGone]
  rw [if_neg hshown]
  refine if_congr Iff.rfl ?_ rfl
  simp only [hout, updateSeq, hseqr]

/-! ### Pages (R41, R126) -/

/-- The directory entry of a page that is deleted (R41). -/
def undefinedEntry (e : PageEntry) : PageEntry := { e with defined := false, saved := false, len := 0 }

/-- The exchange has let a deleted page go and takes up its next work (R41, R52). -/
def pageLeft (r : PageRef) (s : State) : State :=
  takeUp (dropReturnSel (fun x => x == r) (exchangeDrop (fun x => x == r) s))

theorem still_pageLeft (r : PageRef) (s : State) : still (pageLeft r s) = still s := by
  unfold pageLeft
  rw [still_takeUp, still_dropReturnSel, still_exchangeDrop]

/-- Of the pages the exchange changes the residency only. -/
theorem pageEntry_pageLeft (r x : PageRef) (s : State) :
    { pageEntry x (pageLeft r s) with slot := none } = { pageEntry x s with slot := none } := by
  have hdrop (u : State) : pageEntry x (dropReturnSel (fun x => x == r) u) = pageEntry x u := rfl
  unfold pageLeft
  rw [pageEntry_of_offExchange (offExchange_takeUp _) x, hdrop,
    pageEntry_of_offExchange (offExchange_exchangeDrop ..) x]
  rfl

theorem pageFacts_of_still {s t : State} (h : still t = still s) (r : PageRef) :
    pageFacts (pageEntry r t) = pageFacts (pageEntry r s) := by
  have hp := congrArg (fun u : State => u.pages[pageIndex r]) h
  simpa [still, pageEntry] using hp

theorem deletePage_defined {r : PageRef} {s : State} (h : (pageEntry r s).defined = true) :
    deletePage r s = deliverKeys (sequencerPageChanged r (removeEntry r (some 3)
      (setPageEntry r { pageEntry r (pageLeft r (setPageEntry r (undefinedEntry (pageEntry r s)) s)) with slot := none }
        (pageLeft r (setPageEntry r (undefinedEntry (pageEntry r s)) s))))) := if_pos h

theorem still_deletePage {r : PageRef} {s : State} (h : (pageEntry r s).defined = true) :
    still (deletePage r s) = still (setPageEntry r (undefinedEntry (pageEntry r s)) s) := by
  rw [deletePage_defined h, still_deliverKeys, still_sequencerPageChanged, still_removeEntry, still_slot,
    still_pageLeft]

/-! ### The statements of O21, one by one -/

/-- The exchange in progress saves a page that goes (R41). -/
theorem saveGone_page (s : State) (r : PageRef) (x : Transfer) :
    saveGone (fun p => p == r) s x = true ↔ x.stage = .save ∧ (slotAt x.slot s).page = some r := by
  rw [saveGone, Bool.and_eq_true, decide_eq_true_eq]
  cases (slotAt x.slot s).page <;> simp

/-- The controller request and what is held for it when one page goes (R51, R104). -/
theorem exchangeDrop_ctrlReq (s : State) (r : PageRef) :
    (exchangeDrop (fun x => x == r) s).exch.ctrlReq = (if s.exch.ctrlReq = some r then none else s.exch.ctrlReq) ∧
      (exchangeDrop (fun x => x == r) s).nav =
        (if s.exch.ctrlReq = some r then { s.nav with heldEnables := [], heldSelect := none } else s.nav) := by
  have hreq : s.exch.ctrlReq.any (fun x => x == r) = true ↔ s.exch.ctrlReq = some r := by
    cases s.exch.ctrlReq <;> simp
  rw [(exchangeDrop_requests ..).2.1, nav_of_offExchange (offExchange_exchangeDrop ..), State.setNav_nav, heldWithout]
  exact ⟨if_congr hreq rfl rfl, if_congr hreq rfl rfl⟩

/-- The request of the wanted page is withdrawn (R118). -/
def unwanted (w : Option PageRef) (s : State) : State :=
  match w with
  | none => s
  | some w => withdrawRequest .sequencer w s

theorem wantNone_eq (s : State) : wantNone s = (unwanted s.seqr.wanted s).setSeqr { s.seqr with wanted := none } := by
  unfold wantNone unwanted
  cases hw : s.seqr.wanted with
  | none =>
    have hsame : ({ s.seqr with wanted := none } : Sequencer) = s.seqr := by rw [← hw]
    rw [hsame]; rfl
  | some w => rfl

theorem post_setSeqr (kind : NoticeKind) (owner : Option Owner) (page : Option (Fin 32)) (index code : Half)
    (detail : Word) (flag : Bool) (n : Sequencer) (s : State) :
    post kind owner page index code detail flag (s.setSeqr n) =
      (post kind owner page index code detail flag s).setSeqr n := by
  unfold post
  rw [State.setSeqr_link]
  split <;> rfl

theorem emptySlideBand_seqr (silent : Bool) (s : State) : (emptySlideBand silent s).seqr = s.seqr := by
  unfold emptySlideBand
  induction slidePages s generalizing s with
  | nil => rfl
  | cons r l ih => exact (ih _).trans (removeEntry_keeps r _ s).1

/-- A show stops: its entries are gone, the wanted page's request is withdrawn, its notice is posted (R127). -/
theorem stopShow_eq (reason : Half) (s : State) : stopShow reason s =
    (post .slideStopped (some s.seqr.owner) none (BitVec.ofNat 16 s.seqr.index) reason
      (BitVec.ofNat 32 s.seqr.list.val) false
      (unwanted s.seqr.wanted (emptySlideBand (reason == stoppedErased) s))).setSeqr (sequencerReset s.seqr.lists) := by
  unfold stopShow seqNotice resetSeq
  dsimp only
  rw [wantNone_eq, post_setSeqr, emptySlideBand_seqr]
  rfl

/-- A list that runs goes with its show (R113, R127). -/
theorem deleteList_running {lane : Owner} {q : Fin 2} {s : State} (h : slideList lane q s ≠ none)
    (hrun : s.seqr.st ≠ .stopped ∧ s.seqr.owner = lane ∧ s.seqr.list = q) :
    deleteList lane q s =
      (post .slideStopped (some lane) none (BitVec.ofNat 16 s.seqr.index) 2 (BitVec.ofNat 32 q.val) false
        (unwanted s.seqr.wanted (emptySlideBand false s))).setSeqr
        (sequencerReset (s.seqr.lists.set (listIndex lane q) none)) := by
  rw [deleteList_of_some h, changeList, if_pos ((isRunningList_iff ..).2 hrun), stopShow_eq]
  obtain ⟨-, rfl, rfl⟩ := hrun
  rfl

theorem deleteList_idle {lane : Owner} {q : Fin 2} {s : State} (h : slideList lane q s ≠ none)
    (hrun : ¬ (s.seqr.st ≠ .stopped ∧ s.seqr.owner = lane ∧ s.seqr.list = q)) :
    deleteList lane q s = s.setSeqr { s.seqr with lists := s.seqr.lists.set (listIndex lane q) none } := by
  rw [deleteList_of_some h, changeList, if_neg (fun hc => hrun ((isRunningList_iff ..).1 hc))]
  rfl

/-- Settles O21: the checks of R174, then the removal by item kind. -/
theorem deleteRemovesTheItem : Obligations.DeleteRemovesTheItem := by
  refine ⟨fun lane p => ⟨fun h => if_pos h, fun h hb => ?_, fun ids hids h => ?_⟩, fun lane p s h => ⟨?_, fun hp => ?_⟩,
    fun s r => ?_, fun s r => ⟨removeEntry_none _, fun i e hi he => ?_⟩, fun s r => ⟨slideGone_of_not, fun hs hn => ?_⟩⟩
  · simp only [deleteFault, h, deleteRange_none hb, ne_eq, not_true, if_false]
    rfl
  · refine deleteFault_of_range h ?_
    obtain ⟨hobj, hpal, hpage, hlist, hcue⟩ := deleteRange_eq lane
    simp only [List.mem_cons, Prod.mk.injEq, List.not_mem_nil, or_false] at hids
    rcases hids with ⟨hk, rfl⟩ | ⟨hk, rfl⟩ | ⟨hk, rfl⟩ | ⟨hk, rfl⟩ | ⟨hk, rfl⟩ <;> rw [hk] <;> assumption
  · intro code detail hp
    simp only [exec_delete h, takeDelete, hp]
    rfl
  · have haccepted := exec_delete_accepted h hp
    refine ⟨fun i hk hi => ?_, fun q hk hq => ?_, fun q hk hq => ?_, fun q hk hq => ?_, fun q hk hq => ?_⟩
    · rw [haccepted, hk, deleteItem_object hi, deleteObject_eq]
      rfl
    · simp only [haccepted, hk, hq, deleteItem_palette, deletePalette_eq]
      refine ⟨fun hpass => by rw [beforeLiveChange_of_not hpass], _, rfl, ?_, fun a ha => ?_⟩
      · rw [beforeLiveChange_eq]; rfl
      · exact read_beforeLiveChange_offPlane s ha
    · simp only [haccepted, hk, hq, deleteItem_page]
      refine ⟨fun hd => congrArg _ (if_neg (by simp [hd])), fun hd => ⟨_, _, rfl, deletePage_defined hd, rfl,
        still_deletePage hd, ?_, ?_⟩⟩
      · have hfacts := congrArg PageEntry.defined (pageFacts_of_still (still_deletePage hd) ⟨lane, q⟩)
        rw [pageEntry_setPageEntry_same] at hfacts
        exact hfacts
      · rw [pageEntry_setPageEntry_same, pageEntry_pageLeft, pageEntry_setPageEntry_same]
        rfl
    · simp only [haccepted, hk, hq, deleteItem_list]
      refine ⟨fun hn => by rw [deleteList_of_none hn], fun hn hrun => by rw [deleteList_idle hn hrun],
        fun hn hrun => (congrArg Host.Outcome.next (deleteList_running hn hrun)).trans ?_⟩
      cases s.seqr.wanted <;> rfl
    · rw [haccepted, hk, hq, deleteItem_cue]
      rfl
  · obtain ⟨hqueue, -, hcursor⟩ := exchangeDrop_requests (fun x => x == r) s
    obtain ⟨hctrl, hnav⟩ := exchangeDrop_ctrlReq s r
    have h := offExchange_exchangeDrop (fun x => x == r) s
    have hstack := stack_of_offExchange h
    have hseqr := seqr_of_offExchange h
    have hlink := link_of_offExchange h
    have hmem := mem_of_offExchange h
    refine ⟨hqueue, hctrl, hnav, hcursor, hstack, hseqr, hlink, hmem, exchangeDrop_idle, fun x hx => ?_,
      fun k hk => ⟨fun hp => exchangeDrop_slot_kept hk ?_, fun hp hr =>
        exchangeDrop_slot_gone (test := fun p => p == r) hk hp (beq_self_eq_true r) hr⟩⟩
    · have hvictim := saveGone_page s r x
      have hpage (h : x.page = r) : (x.page == r) = true := by simp [h]
      have hother (h : x.page ≠ r) : (x.page == r) = false := by simp [h]
      refine ⟨fun hp => exchangeDrop_load (test := fun p => p == r) hx (hpage hp),
        fun hp hst hv => exchangeDrop_cancelled (test := fun p => p == r) hx (hpage hp) hst ?_,
        fun hp hv hc => exchangeDrop_victim (test := fun p => p == r) hx (hother hp) (hvictim.2 hv) hc,
        fun hv hc => exchangeDrop_both (test := fun p => p == r) hx (hvictim.2 hv) (.inr hc),
        fun hp hv => exchangeDrop_kept (test := fun p => p == r) hx (hother hp) ?_⟩
      · exact Bool.eq_false_iff.2 fun e => hv (hvictim.1 e)
      · exact Bool.eq_false_iff.2 fun e => hv (hvictim.1 e)
    · cases hpage : (slotAt k s).page with
      | none => rfl
      | some x =>
        have hne : x ≠ r := fun e => hp (by rw [hpage, e])
        simpa using hne
  · have h := offExchange_removeEntry (some 3) hi he
    refine ⟨?_, (link_of_offExchange h).trans ?_, ?_⟩
    · rw [stack_of_offExchange h, entryGone_eq, ← eraseIdx_positionOf hi, ← closeOrder_eq]
      rfl
    · rw [entryGone_eq]; rfl
    · rw [removeEntry_eq _ hi he]
      exact recompose_handOn _
  · have hgone := sequencerPageChanged_named hs hn
    simp only [hgone]
    refine ⟨fun hst hshown => ?_, fun hst hshown => ?_, fun hst => ?_, fun hst hshown => ?_,
      fun out hst hout hne => ⟨fun hp => ?_, fun hp => ?_, (renewSlide_stack_seqr out s).1,
        fun i hi => renewSlide_link hi⟩⟩
    · rw [slideGone_settled hst]
      exact if_pos hshown
    · rw [slideGone_settled hst]
      exact if_neg hshown
    · rw [slideGone_waiting hst]
      by_cases hshown : s.seqr.shown = some r
      · simp only [waitPageGone, if_pos hshown]; rfl
      · simp only [waitPageGone, if_neg hshown]
    · simp only [slideGone, hst, transPageGone, hshown, if_true]
    · rw [slideGone_trans hst hout hne, if_neg hp]
    · rw [slideGone_trans hst hout hne, if_pos hp]

end Sys2Proof.Machine

namespace Sys2Proof.Machine

open Sys2Proof

/-! ## The exchange takes up work (R52 to R54) -/

/-- The exchange starts to bring a page into a slot: what the start does to the exchange, the slots, the residency
(R54). -/
structure Started (p : PageRef) (k : Fin 6) (s t : State) : Prop where
  current : ∃ x, t.exch.current = some x ∧ x.page = p ∧ x.slot = k ∧ x.cancelled = false
  queue : t.exch.queue = s.exch.queue
  ctrlReq : t.exch.ctrlReq = s.exch.ctrlReq
  slots : ∀ j, j ≠ k → slotAt j t = slotAt j s
  page : (slotAt k t).page = some p ∨ (slotAt k t).page = (slotAt k s).page
  resident : ∀ r j, residentSlot r t = some j → residentSlot r s = some j

theorem residentSlot_dropResidency (k : Fin 6) {r : PageRef} {j : Fin 6} {s : State}
    (h : residentSlot r (dropResidency k s) = some j) : residentSlot r s = some j := by
  unfold dropResidency at h
  split at h
  · exact h
  · rename_i r' _
    by_cases hr : r = r'
    · subst hr
      simp [residentSlot] at h
    · simpa only [residentSlot, pageEntry_setPageEntry_ne hr] using h

theorem dropResidency_exch (k : Fin 6) (s : State) : (dropResidency k s).exch = s.exch := by
  unfold dropResidency
  split <;> rfl

theorem started_startLoad (p : PageRef) (k : Fin 6) (s : State) : Started p k s (startLoad ⟨p, k, .load, false⟩ s) where
  current := ⟨_, rfl, rfl, rfl, rfl⟩
  queue := rfl
  ctrlReq := rfl
  slots := fun _ hj => slotAt_setSlot_ne hj ..
  page := .inl (congrArg Slot.page (slotAt_setSlot_same ..))
  resident := fun _ _ h => h

theorem Started.of_eq {p : PageRef} {k : Fin 6} {s s' t : State} (h : Started p k s' t)
    (hq : s'.exch.queue = s.exch.queue)
    (hc : s'.exch.ctrlReq = s.exch.ctrlReq) (hs : s'.exch.slots = s.exch.slots)
    (hr : ∀ r j, residentSlot r s' = some j → residentSlot r s = some j) : Started p k s t where
  current := h.current
  queue := h.queue.trans hq
  ctrlReq := h.ctrlReq.trans hc
  slots := fun j hj => (h.slots j hj).trans (by rw [slotAt, hs]; rfl)
  page := h.page.imp_right fun e => e.trans (by rw [slotAt, hs]; rfl)
  resident := fun r j e => hr r j (h.resident r j e)

theorem started_startExchange (p : PageRef) (k : Fin 6) (s : State) : Started p k s (startExchange p k s) := by
  have hres (r : PageRef) (j : Fin 6)
      (h : residentSlot r (dropResidency k (s.setExch { s.exch with cursor := k })) = some j) :
      residentSlot r s = some j :=
    residentSlot_dropResidency (s := s.setExch { s.exch with cursor := k }) k h
  have hexch : (dropResidency k (s.setExch { s.exch with cursor := k })).exch = { s.exch with cursor := k } :=
    dropResidency_exch ..
  unfold startExchange
  dsimp only
  generalize dropResidency k (s.setExch { s.exch with cursor := k }) = d at hres hexch
  have hqueue : d.exch.queue = s.exch.queue := by rw [hexch]
  have hreq : d.exch.ctrlReq = s.exch.ctrlReq := by rw [hexch]
  have hslots : d.exch.slots = s.exch.slots := by rw [hexch]
  split
  · exact (started_startLoad p k _).of_eq rfl rfl rfl fun _ _ h => h
  split
  · refine ⟨⟨_, rfl, rfl, rfl, rfl⟩, hqueue, hreq, fun j hj => ?_, .inr ?_, hres⟩
    · exact (slotAt_setSlot_ne (s := d) hj _).trans (by rw [slotAt, hslots]; rfl)
    · exact (congrArg Slot.page (slotAt_setSlot_same k _ d)).trans rfl
  · exact (started_startLoad p k _).of_eq hqueue hreq hslots hres

/-- What taking up work does where no exchange is in progress: requests of resident pages leave the head of the queue,
and then a page that was next, or the controller's, may begin its exchange in a slot that qualifies (R52, R53). -/
inductive TakenUp (s t : State) : Prop where
  | served (rest : List Request) (ht : t = s.setExch { s.exch with queue := rest })
      (hrest : rest <:+ s.exch.queue) (hserved : ∀ q ∈ s.exch.queue, q ∈ rest ∨ isResident q.page s = true)
  | started (rest : List Request) (p : PageRef) (k : Fin 6) (hk : chooseSlot s = some k)
      (ht : Started p k (s.setExch { s.exch with queue := rest }) t) (hrest : rest <:+ s.exch.queue)
      (hserved : ∀ q ∈ s.exch.queue, q ∈ rest ∨ isResident q.page s = true ∨ q.page = p)
      (hp : (∃ q ∈ s.exch.queue, q.page = p) ∨ s.exch.ctrlReq = some p)

theorem takenUp_takeControllerRequest (s : State) : TakenUp s (takeControllerRequest s) := by
  have hsame : TakenUp s s := .served s.exch.queue rfl (List.suffix_refl _) fun q h => .inl h
  unfold takeControllerRequest
  split
  · exact hsame
  · rename_i r hr
    split
    · exact hsame
    · split
      · exact hsame
      · rename_i k hk
        exact .started s.exch.queue r k hk (started_startExchange r k s) (List.suffix_refl _)
          (fun q h => .inl h) (.inr hr)

theorem takenUp_takeRequests (qs : List Request) : ∀ s : State, s.exch.queue = qs →
    TakenUp s (takeRequests qs s) := by
  induction qs with
  | nil => exact fun s _ => takenUp_takeControllerRequest s
  | cons q qs ih =>
    intro s hq
    have hsuffix : qs <:+ s.exch.queue := hq ▸ List.suffix_cons q qs
    have hmem {x : Request} (h : x ∈ s.exch.queue) : x = q ∨ x ∈ qs := List.mem_cons.1 (hq ▸ h)
    unfold takeRequests
    split
    · rename_i hres
      cases ih (s.setExch { s.exch with queue := qs }) rfl with
      | served rest ht hrest hserved =>
        refine .served rest ht (hrest.trans hsuffix) fun x hx => ?_
        rcases hmem hx with rfl | hx
        · exact .inr hres
        · exact hserved x hx
      | started rest p k hk ht hrest hserved hp =>
        refine .started rest p k hk ht (hrest.trans hsuffix) (fun x hx => ?_) (hp.imp_left ?_)
        · rcases hmem hx with rfl | hx
          · exact .inr (.inl hres)
          · exact hserved x hx
        · exact fun ⟨x, hx, hxp⟩ => ⟨x, hsuffix.subset hx, hxp⟩
    · split
      · exact .served s.exch.queue rfl (List.suffix_refl _) fun x h => .inl h
      · rename_i k hk
        refine .started qs q.page k hk (started_startExchange ..) hsuffix (fun x hx => ?_)
          (.inl ⟨q, hq ▸ List.mem_cons_self, rfl⟩)
        rcases hmem hx with rfl | hx
        · exact .inr (.inr rfl)
        · exact .inl hx

/-- An exchange in progress is left alone (R52). -/
theorem takeUp_busy {s : State} {x : Transfer} (h : s.exch.current = some x) : takeUp s = s := by
  simp only [takeUp, h]

theorem takenUp_takeUp {s : State} (h : s.exch.current = none) : TakenUp s (takeUp s) := by
  have htake : takeUp s = takeRequests s.exch.queue s := by simp only [takeUp, h]
  exact htake ▸ takenUp_takeRequests _ s rfl

/-- A slot that is chosen is empty, or READY and not pinned (R47, R53). -/
theorem chooseSlot_qualifies {s : State} {k : Fin 6} (h : chooseSlot s = some k) :
    (slotAt k s).st = .empty ∨ pinned k s = false := by
  have htest : emptyTest s k = true ∨ victimTest s k = true := by
    simp only [chooseSlot, Option.or_eq_some_iff] at h
    rcases h with (h | ⟨-, h⟩) | ⟨-, h⟩
    · exact .inl (List.find?_some h)
    · have hclean := List.find?_some h
      simp only [cleanTest, Bool.and_eq_true] at hclean
      exact .inr hclean.1
    · exact .inr (List.find?_some h)
  rcases htest with he | hv
  · exact .inl (by simpa [emptyTest] using he)
  · simp only [victimTest, Bool.and_eq_true, Bool.not_eq_true'] at hv
    exact .inr hv.2

/-- A slot that its page is resident in is pinned while the page has a stack entry (R47). -/
theorem pinned_of_resident {s : State} {k : Fin 6} {r : PageRef} (hp : (slotAt k s).page = some r)
    (hr : residentSlot r s = some k) (he : hasEntry r s = true) : pinned k s = true := by
  simp [pinned, hp, hr, he]

end Sys2Proof.Machine

namespace Sys2Proof.Machine

open Sys2Proof

/-! ## The exchange of an owner erase (R41, R42, R52) -/

theorem owner_of_outlives {o : Owner} {s : State} {r : PageRef} (h : outlives o s r = true) : r.owner ≠ o := by
  simp only [outlives, Bool.and_eq_true, bne_iff_ne] at h
  exact h.1

theorem outlives_of_keptRequest {o : Owner} {s : State} {q : Request} (h : keptRequest o s q = true) :
    outlives o s q.page = true := by
  simp only [keptRequest, Bool.and_eq_true] at h
  exact h.1

theorem keptRequest_congr (o : Owner) (s : State) {q q' : Request} (h : q.page = q'.page) :
    keptRequest o s q = keptRequest o s q' := by simp only [keptRequest, h]

/-- Every request has a requester (R48). -/
def requested (s : State) : Prop := ∀ q ∈ s.exch.queue, (q.byStack || q.bySequencer) = true

/-- The slot of a page that stays: its working copy is there, in a slot that the exchange does not work on; or the
exchange took it as a victim, which it does not with a page on the stack (R47). -/
def slotStays (s v : State) (r : PageRef) (k : Fin 6) : Prop :=
  ((slotFacts (slotAt k v) = slotFacts (slotAt k s) ∧ ∀ i, enabledAt (slotAt k v) i = enabledAt (slotAt k s) i) ∧
    ((v.exch.current = none ∧ residentSlot r v = some k) ∨ ∃ x, v.exch.current = some x ∧ x.slot ≠ k)) ∨
  (hasEntry r s = false ∧ ∃ x, v.exch.current = some x ∧ x.slot = k)

/-- What the exchange holds after the pages of an owner have gone, while it serves others (R41, R42, R52). -/
structure ErasedExchange (o : Owner) (s v : State) : Prop where
  queueGone : ∀ q ∈ v.exch.queue, q.page.owner ≠ o
  request : v.exch.ctrlReq = if s.exch.ctrlReq.map PageRef.owner = some o then none else s.exch.ctrlReq
  incomingGone : ∀ x, v.exch.current = some x → x.page.owner = o → x.stage = .save ∧ x.cancelled = true
  slotsGone : ∀ (r : PageRef) (k : Fin 6), r.owner = o → residentSlot r s = some k →
    (slotAt k s).page = some r → (slotAt k v).page ≠ some r
  queueKept : requested s → v.exch.queue.filter (keptRequest o s) <:+ s.exch.queue.filter (keptRequest o s)
  queueServed : requested s → ∀ q ∈ s.exch.queue, keptRequest o s q = true → q ∈ v.exch.queue ∨
    isResident q.page s = true ∨ ∃ x, v.exch.current = some x ∧ x.page = q.page
  resident : ∀ r, isResident r v = true → isResident r s = true
  exchangeKept : ∀ x, s.exch.current = some x → x.page.owner ≠ o → x.cancelled = false →
    v.exch.current = some (if x.stage = .save ∧ (slotAt x.slot s).page.map PageRef.owner = some o then
      { x with stage := .load } else x) ∧
    (requested s → v.exch.queue.filter (keptRequest o s) = s.exch.queue.filter (keptRequest o s))
  slotsKept : ∀ (r : PageRef) (k : Fin 6), outlives o s r = true → residentSlot r s = some k →
    (slotAt k s).page = some r → (slotAt k s).st ≠ .empty → (∀ x, s.exch.current = some x → x.slot ≠ k) →
    slotStays s v r k

/-- The pages that stay keep their place on the stack: they have an entry or not, as before. -/
def entriesStay (o : Owner) (s v : State) : Prop := ∀ r, outlives o s r = true → hasEntry r v = hasEntry r s

theorem dropRequester_page (w : Requester) (q : Request) : (dropRequester w q).page = q.page := by cases w <;> rfl

/-- The requests of a page withdrawn, those that stay are as before (R50). -/
theorem filter_withdrawn {o : Owner} {s : State} (w : Requester) {r : PageRef}
    (hr : ∀ q, q.page = r → keptRequest o s q = false) (l : List Request)
    (hasked : ∀ q ∈ l, keptRequest o s q = true → (q.byStack || q.bySequencer) = true) :
    ((l.map fun q => if q.page = r then dropRequester w q else q).filter
      fun q => q.byStack || q.bySequencer).filter (keptRequest o s) = l.filter (keptRequest o s) := by
  rw [List.filter_filter]
  induction l with
  | nil => rfl
  | cons q l ih =>
    have ih := ih fun q' hq' => hasked q' (List.mem_cons_of_mem _ hq')
    have hq := hasked q List.mem_cons_self
    rw [List.map_cons, List.filter_cons, List.filter_cons, ih]
    by_cases hqr : q.page = r
    · have hdropped : keptRequest o s (dropRequester w q) = false :=
        (keptRequest_congr o s (dropRequester_page w q)).trans (hr q hqr)
      simp [hqr, hdropped, hr q hqr]
    · cases hk : keptRequest o s q with
      | true => simp [hqr, hk, hq hk]
      | false => simp [hqr, hk]

section Served

variable {o : Owner} {s v : State} (h : ErasedExchange o s v)

include h

theorem ErasedExchange.requestGone {r : PageRef} (hr : v.exch.ctrlReq = some r) : r.owner ≠ o := by
  rw [h.request] at hr
  split at hr
  · cases hr
  · rename_i hn
    exact fun e => hn (by rw [hr, Option.map_some, e])

/-- Requests that are served leave the head of the queue (R52). -/
theorem ErasedExchange.dropServed {rest : List Request} (hrest : rest <:+ v.exch.queue)
    (hserved : ∀ q ∈ v.exch.queue, q ∈ rest ∨ isResident q.page v = true) (hidle : v.exch.current = none) :
    ErasedExchange o s (v.setExch { v.exch with queue := rest }) := by
  refine { h with
    queueGone := fun q hq => h.queueGone q (hrest.subset hq)
    queueKept := fun hs => (hrest.filter _).trans (h.queueKept hs)
    queueServed := fun hs q hq hk => ?_
    exchangeKept := fun x hx ho hc => ?_ }
  · rcases h.queueServed hs q hq hk with hq | hr | hx
    · exact (hserved q hq).imp id fun hr => .inl (h.resident _ hr)
    · exact .inr (.inl hr)
    · exact .inr (.inr hx)
  · have hbusy := (h.exchangeKept x hx ho hc).1
    rw [hidle] at hbusy
    contradiction

/-- The exchange of another page begins (R52, R53, R54). -/
theorem ErasedExchange.start (hentries : entriesStay o s v) {rest : List Request} {p : PageRef} {k : Fin 6} {t : State}
    (hidle : v.exch.current = none) (hk : chooseSlot v = some k)
    (ht : Started p k (v.setExch { v.exch with queue := rest }) t) (hrest : rest <:+ v.exch.queue)
    (hserved : ∀ q ∈ v.exch.queue, q ∈ rest ∨ isResident q.page v = true ∨ q.page = p)
    (hp : (∃ q ∈ v.exch.queue, q.page = p) ∨ v.exch.ctrlReq = some p) : ErasedExchange o s t := by
  obtain ⟨x, hx, hxp, hxk, -⟩ := ht.current
  have hqueue : t.exch.queue = rest := ht.queue
  have hreq : t.exch.ctrlReq = v.exch.ctrlReq := ht.ctrlReq
  have hslots (j : Fin 6) (hj : j ≠ k) : slotAt j t = slotAt j v := ht.slots j hj
  have hpage : (slotAt k t).page = some p ∨ (slotAt k t).page = (slotAt k v).page := ht.page
  have hother : p.owner ≠ o := by
    rcases hp with ⟨q, hq, rfl⟩ | hp
    · exact h.queueGone q hq
    · exact h.requestGone hp
  refine ⟨fun q hq => h.queueGone q (hrest.subset (hqueue ▸ hq)), hreq.trans h.request,
    fun y hy ho => ?_, fun r j ho hr hj hn => ?_, fun hs => ?_, fun hs q hq hk => ?_, fun r hr => ?_,
    fun y hy ho hc => ?_, fun r j hlives hr hj hst hfree => ?_⟩
  · cases hx.symm.trans hy
    exact absurd (hxp ▸ ho) hother
  · have hold := h.slotsGone r j ho hr hj
    by_cases hjk : j = k
    · subst hjk
      rcases hpage with hnew | hsame
      · rw [hnew] at hn
        exact hother (Option.some.inj hn ▸ ho)
      · exact hold (hsame ▸ hn)
    · rw [hslots j hjk] at hn
      exact hold hn
  · rw [hqueue]
    exact (hrest.filter _).trans (h.queueKept hs)
  · rcases h.queueServed hs q hq hk with hq | hr | ⟨y, hy, -⟩
    · rcases hserved q hq with hq | hr | hp
      · exact .inl (hqueue ▸ hq)
      · exact .inr (.inl (h.resident _ hr))
      · exact .inr (.inr ⟨x, hx, hxp.trans hp.symm⟩)
    · exact .inr (.inl hr)
    · rw [hidle] at hy
      contradiction
  · obtain ⟨j, hj⟩ := Option.isSome_iff_exists.1 hr
    exact h.resident r (Option.isSome_iff_exists.2 ⟨j, ht.resident r j hj⟩)
  · have hbusy := (h.exchangeKept y hy ho hc).1
    rw [hidle] at hbusy
    contradiction
  · rcases h.slotsKept r j hlives hr hj hst hfree with ⟨hfacts, hin⟩ | ⟨-, y, hy, -⟩
    · have hres : residentSlot r v = some j := by
        rcases hin with ⟨-, hres⟩ | ⟨y, hy, -⟩
        · exact hres
        · rw [hidle] at hy
          contradiction
      by_cases hjk : j = k
      · subst hjk
        refine .inr ⟨?_, x, hx, hxk⟩
        have hvpage : (slotAt j v).page = some r := (congrArg Slot.page hfacts.1).trans hj
        rcases chooseSlot_qualifies hk with hempty | hpinned
        · exact absurd ((congrArg Slot.st hfacts.1).symm.trans hempty) hst
        · rw [← hentries r hlives]
          refine Bool.eq_false_iff.2 fun he => ?_
          rw [pinned_of_resident hvpage hres he] at hpinned
          contradiction
      · rw [← hslots j hjk] at hfacts
        exact .inl ⟨hfacts, .inr ⟨x, hx, fun e => hjk (e.symm.trans hxk)⟩⟩
    · rw [hidle] at hy
      contradiction

/-- The exchange takes up its next work (R52). -/
theorem ErasedExchange.takeUp (hentries : entriesStay o s v) : ErasedExchange o s (takeUp v) := by
  cases hcur : v.exch.current with
  | some x => rwa [takeUp_busy hcur]
  | none =>
    cases takenUp_takeUp hcur with
    | served rest ht hrest hserved => exact ht ▸ h.dropServed hrest hserved hcur
    | started rest p k hk ht hrest hserved hp => exact h.start hentries hcur hk ht hrest hserved hp

/-- A requester of a page that goes is withdrawn: what is asked for the pages that stay is as before (R50). -/
theorem ErasedExchange.withdraw (w : Requester) {r : PageRef} (hr : ∀ q, q.page = r → keptRequest o s q = false) :
    ErasedExchange o s (withdrawRequest w r v) := by
  have hmem {q : Request} (hq : q ∈ (withdrawRequest w r v).exch.queue) : ∃ q' ∈ v.exch.queue, q'.page = q.page := by
    obtain ⟨q', hq', rfl⟩ := List.mem_map.1 (List.mem_of_mem_filter hq)
    refine ⟨q', hq', ?_⟩
    split
    · exact (dropRequester_page w q').symm
    · rfl
  have hfilter (hs : requested s) :
      (withdrawRequest w r v).exch.queue.filter (keptRequest o s) = v.exch.queue.filter (keptRequest o s) := by
    have hasked : ∀ q ∈ v.exch.queue, keptRequest o s q = true → (q.byStack || q.bySequencer) = true := fun q hq hk =>
      hs q (List.mem_of_mem_filter ((h.queueKept hs).subset (List.mem_filter.2 ⟨hq, hk⟩)))
    exact filter_withdrawn w hr _ hasked
  refine { h with
    queueGone := fun q hq => ?_
    queueKept := fun hs => (hfilter hs).symm ▸ h.queueKept hs
    queueServed := fun hs q hq hk => (h.queueServed hs q hq hk).imp_left fun hq => ?_
    exchangeKept := fun x hx ho hc => ⟨(h.exchangeKept x hx ho hc).1,
      fun hs => (hfilter hs).trans ((h.exchangeKept x hx ho hc).2 hs)⟩ }
  · obtain ⟨q', hq', he⟩ := hmem hq
    exact he ▸ h.queueGone q' hq'
  · have hin : q ∈ (withdrawRequest w r v).exch.queue.filter (keptRequest o s) :=
      hfilter hs ▸ List.mem_filter.2 ⟨hq, hk⟩
    exact List.mem_of_mem_filter hin

/-- Nothing of the exchange changes but the buttons of working copies, as a cancelled activation leaves them, and pages
of the erased owner that are resident no more. -/
theorem ErasedExchange.frame {t : State} (hqueue : t.exch.queue = v.exch.queue)
    (hcurrent : t.exch.current = v.exch.current) (hreq : t.exch.ctrlReq = v.exch.ctrlReq)
    (hslots : ∀ k, slotFacts (slotAt k t) = slotFacts (slotAt k v) ∧
      ∀ i, enabledAt (slotAt k t) i = enabledAt (slotAt k v) i)
    (hres : ∀ r, residentSlot r t = residentSlot r v ∨ (r.owner = o ∧ residentSlot r t = none)) :
    ErasedExchange o s t := by
  refine ⟨hqueue ▸ h.queueGone, hreq.trans h.request, hcurrent ▸ h.incomingGone, fun r k ho hr hp hn => ?_,
    fun hs => hqueue ▸ h.queueKept hs, fun hs => hqueue ▸ hcurrent ▸ h.queueServed hs, fun r hr => ?_,
    hqueue ▸ hcurrent ▸ h.exchangeKept, fun r k hlives hr hp hst hfree => ?_⟩
  · exact h.slotsGone r k ho hr hp ((congrArg Slot.page (hslots k).1).symm.trans hn)
  · rcases hres r with hsame | ⟨-, hnone⟩
    · exact h.resident r (by rw [isResident, ← hsame]; exact hr)
    · rw [isResident, hnone] at hr
      contradiction
  · have hsame : residentSlot r t = residentSlot r v :=
      (hres r).resolve_right fun hc => owner_of_outlives hlives hc.1
    refine (h.slotsKept r k hlives hr hp hst hfree).imp (fun ⟨⟨hfacts, henabled⟩, hin⟩ => ⟨⟨?_, fun i => ?_⟩, ?_⟩)
      fun hv => hcurrent ▸ hv
    · exact (hslots k).1.trans hfacts
    · exact ((hslots k).2 i).trans (henabled i)
    · rw [hcurrent, hsame]
      exact hin

theorem ErasedExchange.of_same {t : State} (hexch : t.exch = v.exch) (hpages : t.pages = v.pages) :
    ErasedExchange o s t :=
  h.frame (congrArg _ hexch) (congrArg _ hexch) (congrArg _ hexch)
    (fun k => by rw [slotAt, hexch]; exact ⟨rfl, fun _ => rfl⟩)
    fun r => .inl (by rw [residentSlot, pageEntry, hpages]; rfl)

end Served

end Sys2Proof.Machine

namespace Sys2Proof.Machine

open Sys2Proof

/-! ## The exchange lets the pages of an owner go (R41) -/

/-- The pages of an owner. -/
def ownedBy (o : Owner) (r : PageRef) : Bool := r.owner == o

theorem ownedBy_iff (o : Owner) (r : PageRef) : ownedBy o r = true ↔ r.owner = o := beq_iff_eq

theorem residentSlot_emptyResident_other {test : PageRef → Bool} {r : PageRef} (ht : test r = false) (s : State)
    (j : Fin 6) : residentSlot r (emptyResident test s j) = residentSlot r s := by
  by_cases he : evicted test s j
  · obtain ⟨r', hp, ht', hr⟩ := he
    have hne : r ≠ r' := fun e => by simp [← e, ht] at ht'
    rw [emptyResident_of_evicted hp ht' hr, residentSlot_setSlot]
    simp only [residentSlot, pageEntry_setPageEntry_ne hne]
  · rw [emptyResident_of_not he]

/-- A page that stays is resident where it was. -/
theorem residentSlot_exchangeDrop_other {test : PageRef → Bool} {r : PageRef} (ht : test r = false) (s : State) :
    residentSlot r (exchangeDrop test s) = residentSlot r s := by
  have h (l : List (Fin 6)) : ∀ s : State, residentSlot r (l.foldl (emptyResident test) s) = residentSlot r s := by
    induction l with
    | nil => exact fun _ => rfl
    | cons j l ih => exact fun s => (ih _).trans (residentSlot_emptyResident_other ht s j)
  rw [exchangeDrop_eq, emptied, h, residentSlot_afterCancel]
  rfl

/-- A page that was resident nowhere is so afterwards. -/
theorem isResident_exchangeDrop {test : PageRef → Bool} {r : PageRef} {s : State}
    (h : isResident r (exchangeDrop test s) = true) : isResident r s = true := by
  have hnone (l : List (Fin 6)) : ∀ s : State, residentSlot r s = none →
      residentSlot r (l.foldl (emptyResident test) s) = none := by
    induction l with
    | nil => exact fun _ h => h
    | cons j l ih => exact fun s h => ih _ (residentSlot_emptyResident_none h j)
  rw [exchangeDrop_eq, emptied] at h
  by_contra hn
  have hs : residentSlot r (afterCancel test (withoutRequests test s)) = none := by
    rw [residentSlot_afterCancel]
    have hs : residentSlot r s = none := by simpa [isResident] using hn
    exact hs
  rw [isResident, hnone _ _ hs] at h
  contradiction

/-- The exchange in progress afterwards: none, or the one before, which brings no page that goes unless it was
cancelled. -/
theorem exchangeDrop_current_kinds (test : PageRef → Bool) (s : State) :
    (exchangeDrop test s).exch.current = none ∨ ∃ x x', s.exch.current = some x ∧
      (exchangeDrop test s).exch.current = some x' ∧ x'.slot = x.slot ∧ x'.page = x.page ∧
      (test x'.page = true → x'.stage = .save ∧ x'.cancelled = true) := by
  cases h : s.exch.current with
  | none => exact .inl (exchangeDrop_idle h)
  | some x =>
    cases ht : test x.page with
    | true =>
      cases hst : x.stage with
      | load => exact .inl (exchangeDrop_load h ht hst).1
      | save =>
        cases hv : saveGone test s x with
        | true => exact .inl (exchangeDrop_both h hv (.inl ht)).1
        | false =>
          exact .inr ⟨x, _, rfl, (exchangeDrop_cancelled h ht hst hv).1, rfl, rfl, fun _ => ⟨hst, rfl⟩⟩
    | false =>
      cases hv : saveGone test s x with
      | true =>
        cases hc : x.cancelled with
        | true => exact .inl (exchangeDrop_both h hv (.inr hc)).1
        | false =>
          exact .inr ⟨x, _, rfl, (exchangeDrop_victim h ht hv hc).1, rfl, rfl, fun e => by simp [ht] at e⟩
      | false => exact .inr ⟨x, x, rfl, exchangeDrop_kept h ht hv, rfl, rfl, fun e => by simp [ht] at e⟩

/-- A page that goes is in no slot that it was resident in. -/
theorem slot_exchangeDrop_gone {test : PageRef → Bool} {s : State} {r : PageRef} {k : Fin 6} (ht : test r = true)
    (hr : residentSlot r s = some k) : (slotAt k (exchangeDrop test s)).page ≠ some r := by
  have hres : residentSlot r (afterCancel test (withoutRequests test s)) = some k :=
    (residentSlot_afterCancel ..).trans hr
  rw [exchangeDrop_eq]
  obtain ⟨hgone, hkept⟩ := slotAt_emptied test (afterCancel test (withoutRequests test s)) k
  by_cases he : evicted test (afterCancel test (withoutRequests test s)) k
  · rw [hgone he]
    exact nofun
  · rw [hkept he]
    exact fun hp => he ⟨r, hp, ht, hres⟩

theorem saveGone_owner (o : Owner) (s : State) (x : Transfer) : saveGone (ownedBy o) s x = true ↔
    x.stage = .save ∧ (slotAt x.slot s).page.map PageRef.owner = some o := by
  rw [saveGone, Bool.and_eq_true, decide_eq_true_eq]
  cases (slotAt x.slot s).page <;> simp [ownedBy]

/-- The exchange once the pages of an owner have gone (R41). -/
theorem erasedExchange_exchangeDrop (o : Owner) (s : State) : ErasedExchange o s (exchangeDrop (ownedBy o) s) := by
  obtain ⟨hqueue, hreq, -⟩ := exchangeDrop_requests (ownedBy o) s
  have hother {r : PageRef} (h : r.owner ≠ o) : ownedBy o r = false :=
    Bool.eq_false_iff.2 fun e => h ((ownedBy_iff o r).1 e)
  have hfilter : (exchangeDrop (ownedBy o) s).exch.queue.filter (keptRequest o s) =
      s.exch.queue.filter (keptRequest o s) := by
    rw [hqueue, List.filter_filter]
    refine List.filter_congr fun q _ => ?_
    cases hk : keptRequest o s q with
    | true => simp [hother (owner_of_outlives (outlives_of_keptRequest hk))]
    | false => rfl
  refine ⟨fun q hq ho => ?_, ?_, fun x' hx' ho => ?_,
    fun r k ho hr _ => slot_exchangeDrop_gone ((ownedBy_iff o r).2 ho) hr, fun _ => ?_,
    fun _ q hq hk => .inl ?_, fun r => isResident_exchangeDrop, fun x hx ho hc => ⟨?_, fun _ => hfilter⟩,
    fun r k hlives hr hp hst hfree => .inl ?_⟩
  · rw [hqueue] at hq
    have hq := (List.mem_filter.1 hq).2
    simp [ownedBy, ho] at hq
  · have hmine : s.exch.ctrlReq.any (ownedBy o) = true ↔ s.exch.ctrlReq.map PageRef.owner = some o := by
      cases s.exch.ctrlReq <;> simp [ownedBy]
    exact hreq.trans (if_congr hmine rfl rfl)
  · rcases exchangeDrop_current_kinds (ownedBy o) s with hnone | ⟨x, y, -, hy, -, -, hgone⟩
    · cases hnone.symm.trans hx'
    · cases hy.symm.trans hx'
      exact hgone ((ownedBy_iff o _).2 ho)
  · rw [hfilter]
  · rw [hqueue]
    exact List.mem_filter.2 ⟨hq, by simp [hother (owner_of_outlives (outlives_of_keptRequest hk))]⟩
  · have hv := saveGone_owner o s x
    by_cases hgone : saveGone (ownedBy o) s x = true
    · rw [if_pos (hv.1 hgone)]
      exact (exchangeDrop_victim hx (hother ho) hgone hc).1
    · rw [if_neg fun e => hgone (hv.2 e)]
      exact exchangeDrop_kept hx (hother ho) (Bool.eq_false_iff.2 hgone)
  · have ht := hother (owner_of_outlives hlives)
    have hslot : slotAt k (exchangeDrop (ownedBy o) s) = slotAt k s :=
      exchangeDrop_slot_kept hfree (by rw [hp]; exact ht)
    rw [hslot]
    refine ⟨⟨rfl, fun _ => rfl⟩, ?_⟩
    rcases exchangeDrop_current_kinds (ownedBy o) s with hnone | ⟨x, x', hx, hx', hslot', -, -⟩
    · exact .inl ⟨hnone, (residentSlot_exchangeDrop_other ht s).trans hr⟩
    · exact .inr ⟨x', hx', fun e => hfree x hx (hslot'.symm.trans e)⟩

/-! ### The hand-on: activations outside the focus are cancelled (R67) -/

theorem cancelActivation_exch (k : Fin 6) (s : State) :
    (cancelActivation k s).exch.queue = s.exch.queue ∧ (cancelActivation k s).exch.current = s.exch.current ∧
      (cancelActivation k s).exch.ctrlReq = s.exch.ctrlReq ∧ (cancelActivation k s).pages = s.pages := by
  unfold cancelActivation
  dsimp only
  split <;> exact ⟨rfl, rfl, rfl, rfl⟩

/-- The button that was ACTIVATED turns SELECTED: enabled before and after (R97). -/
theorem enabledAt_putButton_activated {sl : Slot} {i : Nat} (h : activatedIndex sl = some i) (now : Word)
    (hold j : Nat) :
    enabledAt { putButton i .selected now sl with hold := hold } j = enabledAt sl j := by
  obtain ⟨hi, hact, -⟩ := List.findIdx?_eq_some_iff_getElem.1 h
  have hact : sl.buttons[i].st = .activated := by simpa using hact
  by_cases hij : i = j
  · subst hij
    simp only [enabledAt, putButton, List.getElem?_set_self hi, List.getElem?_eq_getElem hi, hact]
    rfl
  · simp [enabledAt, putButton, hij]

/-- A cancelled activation leaves working copies but for the button and its hold counter (R97). -/
theorem cancelActivation_slots (k j : Fin 6) (s : State) :
    slotFacts (slotAt j (cancelActivation k s)) = slotFacts (slotAt j s) ∧
      ∀ i, enabledAt (slotAt j (cancelActivation k s)) i = enabledAt (slotAt j s) i := by
  unfold cancelActivation
  dsimp only
  split
  · exact ⟨rfl, fun _ => rfl⟩
  · rename_i i hi
    have hraise (u : State) : slotAt j (raiseRecompose u) = slotAt j u := rfl
    rw [hraise]
    by_cases hjk : j = k
    · subst hjk
      rw [slotAt_setSlot_same]
      exact ⟨rfl, fun i' => enabledAt_putButton_activated hi _ _ i'⟩
    · rw [slotAt_setSlot_ne hjk]
      exact ⟨rfl, fun _ => rfl⟩

theorem ErasedExchange.handOn {o : Owner} {s v : State} (h : ErasedExchange o s v) : ErasedExchange o s (handOn v) := by
  have hcancel (k : Fin 6) {u : State} (h : ErasedExchange o s u) : ErasedExchange o s (cancelUnlessFocus u k) := by
    unfold cancelUnlessFocus
    split
    · obtain ⟨hqueue, hcurrent, hreq, hpages⟩ := cancelActivation_exch k u
      exact h.frame hqueue hcurrent hreq (fun j => cancelActivation_slots k j u)
        fun r => .inl (by rw [residentSlot, pageEntry, hpages]; rfl)
    · exact h
  have htell : ErasedExchange o s (tellNavigation v) := by
    unfold tellNavigation
    induction allSlots generalizing v with
    | nil => exact h
    | cons k l ih => exact ih (hcancel k h)
  unfold Machine.handOn
  generalize tellNavigation v = u at htell
  exact htell.of_same rfl rfl

end Sys2Proof.Machine

namespace Sys2Proof.Machine

open Sys2Proof

/-! ## The stack of an owner erase (R61, R82, R102) -/

/-- What the stack and the return selections hold while entries of pages that do not outlive the erase leave. -/
structure ErasedStack (o : Owner) (s v : State) : Prop where
  kept : (v.stack.entries.filter (fun e => outlives o s e.page)).map unordered =
    (s.stack.entries.filter (fun e => outlives o s e.page)).map unordered
  seats : ∀ e ∈ v.stack.entries, ∃ e' ∈ s.stack.entries, e'.page = e.page ∧ e'.band = e.band
  returnKept : v.nav.returnSel.filter (fun x => outlives o s x.1) = s.nav.returnSel.filter (fun x => outlives o s x.1)
  returnGone : ∀ x ∈ v.nav.returnSel, x.1.owner ≠ o

theorem ErasedStack.of_same {o : Owner} {s v t : State} (h : ErasedStack o s v)
    (hentries : t.stack.entries = v.stack.entries) (hsel : t.nav.returnSel = v.nav.returnSel) : ErasedStack o s t :=
  ⟨by rw [hentries]; exact h.kept, by rw [hentries]; exact h.seats, by rw [hsel]; exact h.returnKept,
    by rw [hsel]; exact h.returnGone⟩

theorem ErasedStack.of_offExchange {o : Owner} {s v t : State} (h : ErasedStack o s v)
    (ht : offExchange t = offExchange v) : ErasedStack o s t :=
  h.of_same (by rw [stack_of_offExchange ht]) (by rw [nav_of_offExchange ht])

/-- Whether a page that stays has an entry can be told from the entries that stay. -/
theorem hasEntry_of_outlives {o : Owner} {s : State} {r : PageRef} (hr : outlives o s r = true) (v : State) :
    hasEntry r v =
      ((v.stack.entries.filter (fun e => outlives o s e.page)).map unordered).any (fun e => e.page == r) := by
  rw [Bool.eq_iff_iff, hasEntry, List.any_eq_true, List.any_map, List.any_eq_true]
  refine ⟨fun ⟨e, he, hp⟩ => ⟨e, List.mem_filter.2 ⟨he, ?_⟩, hp⟩, fun ⟨e, he, hp⟩ => ⟨e, List.mem_of_mem_filter he, hp⟩⟩
  rw [beq_iff_eq.1 hp, hr]

theorem ErasedStack.entriesStay {o : Owner} {s v : State} (h : ErasedStack o s v) : entriesStay o s v := fun r hr => by
  rw [hasEntry_of_outlives hr v, hasEntry_of_outlives hr s, h.kept]

/-! ### The entries that are left when one leaves -/

theorem unordered_closeOrder (gone : Entry) (es : List Entry) (p : PageRef → Bool) :
    ((closeOrder gone es).filter (fun e => p e.page)).map unordered =
      (es.filter (fun e => p e.page)).map unordered := by
  rw [closeOrder_eq, List.filter_map, List.map_map]
  refine (congrArg (List.map _) (List.filter_congr fun e _ => ?_)).trans (List.map_congr_left fun e _ => ?_)
  · dsimp only [Function.comp]
    split <;> rfl
  · dsimp only [Function.comp]
    split <;> rfl

theorem closeOrder_seats (gone : Entry) (es : List Entry) :
    (closeOrder gone es).map (fun e => (e.page, e.band)) = es.map (fun e => (e.page, e.band)) := by
  rw [closeOrder_eq, List.map_map]
  refine List.map_congr_left fun e _ => ?_
  dsimp only [Function.comp]
  split <;> rfl

theorem filter_eraseP {α : Type} (p q : α → Bool) (h : ∀ a, q a = true → p a = false) (l : List α) :
    (l.eraseP q).filter p = l.filter p := by
  induction l with
  | nil => rfl
  | cons a l ih =>
    by_cases hq : q a = true
    · rw [List.eraseP_cons_of_pos hq, List.filter_cons_of_neg (by simp [h a hq])]
    · rw [List.eraseP_cons_of_neg hq, List.filter_cons, List.filter_cons, ih]

/-- The pages of the stack's entries. -/
def pagesOf (s : State) : List PageRef := s.stack.entries.map Entry.page

section Leave

variable {r : PageRef} {i : Nat} {e : Entry} {v : State} (hi : positionOf r v = some i)

include hi

theorem entryGone_entries : (entryGone r i e none v).stack.entries =
    closeOrder e (v.stack.entries.eraseP (fun x => x.page == r)) := by
  rw [entryGone_eq, ← eraseIdx_positionOf hi]
  rfl

/-- An entry of a page that does not outlive the erase leaves (R61, R102). -/
theorem ErasedStack.entryGone {o : Owner} {s : State} (h : ErasedStack o s v) (hr : outlives o s r = false) :
    ErasedStack o s (entryGone r i e none v) := by
  have hsel : (Machine.entryGone r i e none v).nav.returnSel = v.nav.returnSel.filter (fun x => !(x.1 == r)) := rfl
  have hentries := entryGone_entries (e := e) hi
  refine ⟨?_, fun x hx => ?_, ?_, fun x hx => ?_⟩
  · rw [hentries, unordered_closeOrder, filter_eraseP, h.kept]
    intro x hx
    rw [beq_iff_eq.1 hx, hr]
  · have hseat : (x.page, x.band) ∈
        (v.stack.entries.eraseP (fun x => x.page == r)).map (fun e => (e.page, e.band)) := by
      rw [← closeOrder_seats e, ← hentries]
      exact List.mem_map_of_mem hx
    obtain ⟨y, hy, hyx⟩ := List.mem_map.1 hseat
    obtain ⟨e', he', hp, hb⟩ := h.seats y (List.mem_of_mem_eraseP hy)
    simp only [Prod.mk.injEq] at hyx
    exact ⟨e', he', hp.trans hyx.1, hb.trans hyx.2⟩
  · rw [hsel, List.filter_filter, ← h.returnKept]
    refine List.filter_congr fun x _ => ?_
    cases hx : outlives o s x.1 with
    | false => rfl
    | true =>
      have hne : x.1 ≠ r := fun e => by simp [e, hr] at hx
      simpa using hne
  · rw [hsel] at hx
    exact h.returnGone x (List.mem_of_mem_filter hx)

theorem pagesOf_entryGone : pagesOf (entryGone r i e none v) = (pagesOf v).erase r := by
  have hpages (es : List Entry) : (closeOrder e es).map Entry.page = es.map Entry.page := by
    have h := congrArg (List.map Prod.fst) (closeOrder_seats e es)
    rw [List.map_map, List.map_map] at h
    exact h
  rw [pagesOf, entryGone_entries hi, hpages, pagesOf, List.erase_eq_eraseP', List.eraseP_map]
  rfl

end Leave

/-! ### Entries leave one after another -/

/-- The exchange and the stack while an owner erase goes on. -/
def Erasing (o : Owner) (s v : State) : Prop := ErasedExchange o s v ∧ ErasedStack o s v

theorem keptRequest_of_not_outlives {o : Owner} {s : State} {r : PageRef} (hr : outlives o s r = false) (q : Request)
    (hq : q.page = r) : keptRequest o s q = false := by
  simp [keptRequest, hq, hr]

/-- A page that does not outlive the erase loses its entry without a notice (R61, R126). -/
theorem Erasing.removeEntry {o : Owner} {s v : State} (h : Erasing o s v) {r : PageRef} (hr : outlives o s r = false) :
    Erasing o s (removeEntry r none v) := by
  obtain ⟨hexch, hstack⟩ := h
  rcases entryOf_cases r v with ⟨-, he⟩ | ⟨i, e, hi, he⟩
  · rw [removeEntry_none none he]
    exact ⟨hexch, hstack⟩
  · have hgone : ErasedStack o s (entryGone r i e none v) := hstack.entryGone hi hr
    have hexch : ErasedExchange o s (entryGone r i e none v) := hexch.of_same rfl rfl
    refine ⟨?_, hgone.of_offExchange (offExchange_removeEntry none hi he)⟩
    rw [removeEntry_eq none hi he]
    split
    · exact (hexch.takeUp hgone.entriesStay).handOn
    · exact (hexch.withdraw .stack (keptRequest_of_not_outlives hr)).handOn

theorem Erasing.removeEntries {o : Owner} {s : State} (l : List PageRef) (hl : ∀ r ∈ l, outlives o s r = false) :
    ∀ {v : State}, Erasing o s v → Erasing o s (l.foldl (fun t r => Machine.removeEntry r none t) v) := by
  induction l with
  | nil => exact fun h => h
  | cons r l ih =>
    exact fun h => ih (fun r' hr' => hl r' (List.mem_cons_of_mem _ hr')) (h.removeEntry (hl r List.mem_cons_self))

theorem pagesOf_removeEntry (r : PageRef) (v : State) : pagesOf (removeEntry r none v) = (pagesOf v).erase r := by
  rcases entryOf_cases r v with ⟨-, he⟩ | ⟨i, e, hi, he⟩
  · rw [removeEntry_none none he, List.erase_of_not_mem]
    intro hm
    obtain ⟨x, hx, hxr⟩ := List.mem_map.1 hm
    have hnone := List.find?_eq_none.1 he x hx
    simp [hxr] at hnone
  · rw [← pagesOf_entryGone hi (e := e), pagesOf, stack_of_offExchange (offExchange_removeEntry none hi he)]
    rfl

theorem pagesOf_removeEntries (l : List PageRef) : ∀ v : State,
    pagesOf (l.foldl (fun t r => removeEntry r none t) v) = (pagesOf v).diff l := by
  induction l with
  | nil => exact fun _ => rfl
  | cons r l ih =>
    intro v
    rw [List.foldl_cons, ih, pagesOf_removeEntry, List.diff_cons]

/-- Every page of the owner leaves the stack, however many entries it has (R61). -/
theorem pagesOf_eraseStack (o : Owner) (v : State) : ∀ r ∈ pagesOf (eraseStack o v), r.owner ≠ o := by
  intro r hr ho
  have hpages : pagesOf (setFrames o [] v) = pagesOf v := by cases o <;> rfl
  have hmine : (v.stack.entries.filter (fun e => e.page.owner == o)).map Entry.page =
      (pagesOf v).filter (ownedBy o) := by
    rw [pagesOf, List.filter_map]
    rfl
  unfold eraseStack at hr
  dsimp only at hr
  rw [pagesOf_removeEntries, hpages, hmine] at hr
  have hcount := List.count_pos_iff.2 hr
  rw [List.count_diff, List.count_filter ((ownedBy_iff o r).2 ho), Nat.sub_self] at hcount
  omega

end Sys2Proof.Machine

namespace Sys2Proof.Machine

open Sys2Proof

/-! ## The pages of an owner erase (R42, R61, R82, R111, R126) -/

/-- The machine outside the exchange, the stack's entries and the return selections. -/
def beyond (s : State) : State :=
  ((offExchange s).setStack { s.stack with entries := [] }).setNav { s.nav with returnSel := [] }

theorem beyond_of_offExchange {s t : State} (h : offExchange t = offExchange s) : beyond t = beyond s :=
  congrArg (fun u : State => (u.setStack { u.stack with entries := [] }).setNav { u.nav with returnSel := [] }) h

theorem view_of_beyond {s t : State} (h : beyond t = beyond s) {α : Type} (f : State → α)
    (hf : ∀ u, f (beyond u) = f u) : f t = f s :=
  (hf t).symm.trans ((congrArg f h).trans (hf s))

theorem pageEntry_of_beyond {s t : State} (h : beyond t = beyond s) (r : PageRef) :
    { pageEntry r t with slot := none } = { pageEntry r s with slot := none } := by
  have hp := congrArg (fun u : State => u.pages[pageIndex r]) h
  simpa [beyond, offExchange, pageEntry] using hp

theorem beyond_removeEntry (r : PageRef) (v : State) : beyond (removeEntry r none v) = beyond v := by
  rcases entryOf_cases r v with ⟨-, he⟩ | ⟨i, e, hi, he⟩
  · rw [removeEntry_none none he]
  · rw [beyond_of_offExchange (offExchange_removeEntry none hi he), entryGone_eq]
    rfl

theorem beyond_removeEntries (l : List PageRef) : ∀ v : State,
    beyond (l.foldl (fun t r => removeEntry r none t) v) = beyond v := by
  induction l with
  | nil => exact fun _ => rfl
  | cons r l ih => exact fun v => (ih _).trans (beyond_removeEntry r v)

theorem beyond_eraseStack (o : Owner) (v : State) : beyond (eraseStack o v) = beyond (setFrames o [] v) := by
  unfold eraseStack
  exact beyond_removeEntries ..

/-- The stack of the owner is erased: exchange and stack (R61). -/
theorem Erasing.eraseStack {o : Owner} {s v : State} (h : Erasing o s v) : Erasing o s (eraseStack o v) := by
  have hframes : Erasing o s (setFrames o [] v) := by
    cases o <;> exact ⟨h.1.of_same rfl rfl, h.2.of_same rfl rfl⟩
  refine hframes.removeEntries _ fun r hr => ?_
  obtain ⟨e, he, rfl⟩ := List.mem_map.1 hr
  have howner := (List.mem_filter.1 he).2
  simp only [outlives, bne, howner, Bool.not_true, Bool.false_and]

/-! ### The show of the owner (R113, R126) -/

/-- The SLIDE band is empty and the wanted page is not asked for any more: the show of the owner has gone but for its
record and its notice (R126). -/
def slidesGone (v : State) : State := unwanted v.seqr.wanted (emptySlideBand true v)

theorem eraseSlides_running {o : Owner} {v : State} (h : slidesRunFor o v = true) :
    eraseSlides o v = ((slidesGone v).setLink (post .slideStopped (some o) none (BitVec.ofNat 16 v.seqr.index) 3
      (BitVec.ofNat 32 v.seqr.list.val) false (slidesGone v)).link).setSeqr (sequencerReset (listsErased o v)) := by
  have howner : v.seqr.owner = o := by
    simp only [slidesRunFor, Bool.and_eq_true, beq_iff_eq] at h
    exact h.2
  have hstop : stopShow stoppedErased v = (post .slideStopped (some o) none (BitVec.ofNat 16 v.seqr.index) 3
      (BitVec.ofNat 32 v.seqr.list.val) false (slidesGone v)).setSeqr (sequencerReset v.seqr.lists) := by
    rw [stopShow_eq, howner]
    rfl
  have hcond : (v.seqr.st != .stopped && v.seqr.owner == o) = true := h
  unfold eraseSlides
  dsimp only
  rw [if_pos hcond, hstop, post_eq_setLink]
  rfl

theorem eraseSlides_idle {o : Owner} {v : State} (h : slidesRunFor o v = false) :
    eraseSlides o v = v.setSeqr { v.seqr with lists := listsErased o v } := by
  have hnot : ¬ (v.seqr.st != .stopped && v.seqr.owner == o) = true := Bool.eq_false_iff.1 h
  unfold eraseSlides
  dsimp only
  rw [if_neg hnot]
  rfl

theorem beyond_slidesGone (v : State) : beyond (slidesGone v) = beyond v := by
  have hband : beyond (emptySlideBand true v) = beyond v := beyond_removeEntries ..
  rw [← hband]
  unfold slidesGone unwanted
  split <;> rfl

/-- The slides of the erased show leave the stack, and their requests the queue (R126). -/
theorem Erasing.slidesGone {o : Owner} {s v : State} (h : Erasing o s v) (hrun : slidesRunFor o s = true)
    (hseqr : v.seqr = s.seqr) : Erasing o s (slidesGone v) := by
  have hslides : ∀ r ∈ slidePages v, outlives o s r = false := by
    intro r hr
    obtain ⟨e, he, rfl⟩ := List.mem_map.1 hr
    obtain ⟨he, hband⟩ := List.mem_filter.1 he
    obtain ⟨e', he', hp, hb⟩ := h.2.seats e he
    have hmem : e.page ∈ slidesErased o s := by
      rw [slidesErased, if_pos hrun]
      exact List.mem_map.2 ⟨e', List.mem_filter.2 ⟨he', by rw [hb]; exact hband⟩, hp⟩
    simp [outlives, hmem]
  have hband : Erasing o s (emptySlideBand true v) := h.removeEntries _ hslides
  unfold Machine.slidesGone unwanted
  split
  · exact hband
  · rename_i w hw
    have hw : s.seqr.wanted = some w := by rw [← hseqr, hw]
    refine ⟨hband.1.withdraw .sequencer fun q hq => ?_, hband.2.of_same rfl rfl⟩
    simp [keptRequest, hrun, hw, hq]

theorem Erasing.eraseSlides {o : Owner} {s v : State} (h : Erasing o s v) (hseqr : v.seqr = s.seqr) :
    Erasing o s (eraseSlides o v) := by
  have hruns : slidesRunFor o v = slidesRunFor o s := by rw [slidesRunFor, hseqr]; rfl
  cases hrun : slidesRunFor o s with
  | true =>
    rw [eraseSlides_running (hruns.trans hrun)]
    exact ⟨(h.slidesGone hrun hseqr).1.of_same rfl rfl, (h.slidesGone hrun hseqr).2.of_same rfl rfl⟩
  | false =>
    rw [eraseSlides_idle (hruns.trans hrun)]
    exact ⟨h.1.of_same rfl rfl, h.2.of_same rfl rfl⟩

/-! ### All of it -/

/-- The pages of the owner are gone from the exchange, the return selections and the directory (R42). -/
def pagesGone (o : Owner) (s : State) : State :=
  erasePageEntries o (dropReturnSel (ownedBy o) (exchangeDrop (ownedBy o) s))

theorem erasePages_eq (o : Owner) (s : State) :
    erasePages o s = handOn (takeUp (eraseSlides o (eraseStack o (pagesGone o s)))) := rfl

theorem pageEntry_erasePageEntries (o : Owner) (s : State) (r : PageRef) : pageEntry r (erasePageEntries o s) =
    if r.owner = o then pageEntryReset else pageEntry r s := by
  have howns : ownsPage o (pageIndex r).val = true ↔ r.owner = o := by
    obtain ⟨w, p⟩ := r
    have hp := p.isLt
    cases o <;> cases w <;> simp [ownsPage, pageIndex]
    exact decide_eq_false (by omega)
  rw [pageEntry, erasePageEntries, State.setPages_pages, getElem_mapWhere]
  exact if_congr howns rfl rfl

theorem erasing_pagesGone (o : Owner) (s : State) : Erasing o s (pagesGone o s) := by
  have hoff := offExchange_exchangeDrop (ownedBy o) s
  have hstack : (exchangeDrop (ownedBy o) s).stack = s.stack := (stack_of_offExchange hoff).trans rfl
  have hsel : (exchangeDrop (ownedBy o) s).nav.returnSel = s.nav.returnSel := by
    rw [nav_of_offExchange hoff, State.setNav_nav, heldWithout]
    split <;> rfl
  have hexch := erasedExchange_exchangeDrop o s
  unfold pagesGone
  generalize exchangeDrop (ownedBy o) s = d at hstack hsel hexch
  have hgone : (erasePageEntries o (dropReturnSel (ownedBy o) d)).nav.returnSel =
      s.nav.returnSel.filter (fun x => !ownedBy o x.1) := by rw [← hsel]; rfl
  have hentries : (erasePageEntries o (dropReturnSel (ownedBy o) d)).stack.entries = s.stack.entries := by
    rw [← hstack]; rfl
  refine ⟨hexch.frame rfl rfl rfl (fun k => ⟨rfl, fun _ => rfl⟩) fun r => ?_, ?_⟩
  · rw [residentSlot, pageEntry_erasePageEntries]
    by_cases ho : r.owner = o
    · exact .inr ⟨ho, by rw [if_pos ho]; rfl⟩
    · exact .inl (by rw [if_neg ho]; rfl)
  · refine ⟨by rw [hentries], fun e he => ⟨e, hentries ▸ he, rfl, rfl⟩, ?_, fun x hx => ?_⟩
    · rw [hgone, List.filter_filter]
      refine List.filter_congr fun x _ => ?_
      cases hx : outlives o s x.1 with
      | false => rfl
      | true => simpa [ownedBy] using owner_of_outlives hx
    · rw [hgone] at hx
      simpa [ownedBy] using (List.mem_filter.1 hx).2

/-! ### What the erase leaves beyond the exchange and the stack's entries -/

/-- The show, the notices, the counter and stream time. -/
def outside (s : State) : Sequencer × Link × Display × CueUnit := (s.seqr, s.link, s.disp, s.cues)

/-- What the keys and the variables are, and what is held for the controller request (R104). -/
def held (s : State) : List Key × Vector Word 16 × List (Byte × Bool) × Option Byte :=
  (s.nav.keys, s.nav.vars, s.nav.heldEnables, s.nav.heldSelect)

/-- The directory and the frames of an owner are cleared; the rest is as the exchange left it. -/
def directoryGone (o : Owner) (d : State) : State :=
  setFrames o [] (erasePageEntries o (dropReturnSel (ownedBy o) d))

theorem beyond_stackGone (o : Owner) (s : State) :
    beyond (eraseStack o (pagesGone o s)) = beyond (directoryGone o (exchangeDrop (ownedBy o) s)) :=
  beyond_eraseStack o (pagesGone o s)

theorem outside_directoryGone (o : Owner) (d : State) : outside (directoryGone o d) = outside d := by cases o <;> rfl

theorem held_directoryGone (o : Owner) (d : State) : held (directoryGone o d) = held d := by cases o <;> rfl

theorem framesOf_directoryGone (o w : Owner) (d : State) :
    framesOf w (directoryGone o d) = if w = o then [] else framesOf w d := by cases o <;> cases w <;> rfl

theorem saved_directoryGone {o : Owner} {r : PageRef} (h : r.owner ≠ o) (d : State) :
    (pageEntry r (directoryGone o d)).saved = (pageEntry r d).saved := by
  have hframes (u : State) : pageEntry r (setFrames o [] u) = pageEntry r u := by cases o <;> rfl
  rw [directoryGone, hframes, pageEntry_erasePageEntries, if_neg h]
  rfl

theorem framesOf_beyond (w : Owner) (u : State) : framesOf w (beyond u) = framesOf w u := by cases w <;> rfl

theorem framesOf_offExchange (w : Owner) (u : State) : framesOf w (offExchange u) = framesOf w u := by cases w <;> rfl

theorem framesOf_setNav (w : Owner) (n : Navigation) (u : State) : framesOf w (u.setNav n) = framesOf w u := by
  cases w <;> rfl

/-- The stack and the exchange of the owner are gone; the show and the time go on. -/
theorem outside_stackGone (o : Owner) (s : State) : outside (eraseStack o (pagesGone o s)) = outside s := by
  rw [view_of_beyond (beyond_stackGone o s) outside fun _ => rfl, outside_directoryGone,
    view_of_offExchange (offExchange_exchangeDrop ..) outside fun _ => rfl]
  rfl

theorem held_stackGone (o : Owner) (s : State) :
    held (eraseStack o (pagesGone o s)) = held (s.setNav (heldWithout (ownedBy o) s)) := by
  rw [view_of_beyond (beyond_stackGone o s) held fun _ => rfl, held_directoryGone,
    view_of_offExchange (offExchange_exchangeDrop ..) held fun _ => rfl]

theorem framesOf_stackGone (o w : Owner) (s : State) :
    framesOf w (eraseStack o (pagesGone o s)) = if w = o then [] else framesOf w s := by
  rw [view_of_beyond (beyond_stackGone o s) (framesOf w) (framesOf_beyond w), framesOf_directoryGone,
    view_of_offExchange (offExchange_exchangeDrop ..) (framesOf w) (framesOf_offExchange w), framesOf_setNav]

theorem saved_of_beyond {s t : State} (h : beyond t = beyond s) (r : PageRef) :
    (pageEntry r t).saved = (pageEntry r s).saved := by
  have hsaved := congrArg PageEntry.saved (pageEntry_of_beyond h r)
  exact hsaved

theorem saved_of_offExchange {s t : State} (h : offExchange t = offExchange s) (r : PageRef) :
    (pageEntry r t).saved = (pageEntry r s).saved := saved_of_beyond (beyond_of_offExchange h) r

theorem saved_stackGone {o : Owner} {r : PageRef} (h : r.owner ≠ o) (s : State) :
    (pageEntry r (eraseStack o (pagesGone o s))).saved = (pageEntry r s).saved := by
  rw [saved_of_beyond (beyond_stackGone o s) r, saved_directoryGone h,
    saved_of_offExchange (offExchange_exchangeDrop ..) r]
  rfl

/-- Exchange and stack once all pages of the owner are erased. -/
theorem erasing_erasePages (o : Owner) (s : State) : Erasing o s (erasePages o s) := by
  have hout := outside_stackGone o s
  simp only [outside, Prod.mk.injEq] at hout
  obtain ⟨hseqr, -⟩ := hout
  have hslides := (erasing_pagesGone o s).eraseStack.eraseSlides hseqr
  rw [erasePages_eq]
  generalize eraseSlides o (eraseStack o (pagesGone o s)) = v at hslides
  exact ⟨(hslides.1.takeUp hslides.2.entriesStay).handOn,
    hslides.2.of_offExchange ((offExchange_handOn _).trans (offExchange_takeUp v))⟩

theorem offExchange_erasePages (o : Owner) (s : State) :
    offExchange (erasePages o s) = offExchange (eraseSlides o (eraseStack o (pagesGone o s))) := by
  rw [erasePages_eq, offExchange_handOn, offExchange_takeUp]

/-- The show of the owner that stops changes the show and the notices only, beyond its entries (R126). -/
theorem beyond_eraseSlides (o : Owner) (v : State) :
    ∃ q l, beyond (eraseSlides o v) = ((beyond v).setSeqr q).setLink l := by
  cases h : slidesRunFor o v with
  | true =>
    rw [eraseSlides_running h]
    refine ⟨sequencerReset (listsErased o v), (post .slideStopped (some o) none (BitVec.ofNat 16 v.seqr.index) 3
      (BitVec.ofNat 32 v.seqr.list.val) false (slidesGone v)).link, ?_⟩
    rw [← beyond_slidesGone v]
    rfl
  | false =>
    rw [eraseSlides_idle h]
    exact ⟨_, v.link, rfl⟩

/-- A view that neither looks at the exchange, the stack's entries, the return selections, nor at the show and the
notices. -/
theorem view_eraseSlides {α : Type} (o : Owner) (v : State) (f : State → α) (hf : ∀ u, f (beyond u) = f u)
    (hq : ∀ (u : State) q l, f ((u.setSeqr q).setLink l) = f u) : f (eraseSlides o v) = f v := by
  obtain ⟨q, l, h⟩ := beyond_eraseSlides o v
  rw [← hf, h, hq, hf]

theorem seqr_eraseSlides (o : Owner) (v : State) : (eraseSlides o v).seqr =
    if slidesRunFor o v = true then sequencerReset (listsErased o v) else { v.seqr with lists := listsErased o v } := by
  cases h : slidesRunFor o v with
  | true => rw [eraseSlides_running h]; rfl
  | false => rw [eraseSlides_idle h]; rfl

theorem link_eraseSlides (o : Owner) (v : State) : (eraseSlides o v).link = (erasedShowNotice o v).link := by
  unfold erasedShowNotice
  cases h : slidesRunFor o v with
  | true =>
    rw [eraseSlides_running h, if_pos rfl]
    have hgone : outside (slidesGone v) = outside v := view_of_beyond (beyond_slidesGone v) outside fun _ => rfl
    simp only [outside, Prod.mk.injEq] at hgone
    exact post_link_congr _ _ _ _ _ _ _ _ hgone.2.1 hgone.2.2.1 hgone.2.2.2
  | false =>
    rw [eraseSlides_idle h]
    rfl

/-- A show that stops takes entries from the stack and adds none. -/
theorem pagesOf_eraseSlides {o : Owner} {v : State} {r : PageRef} (h : r ∈ pagesOf (eraseSlides o v)) :
    r ∈ pagesOf v := by
  cases hrun : slidesRunFor o v with
  | true =>
    have hband : pagesOf (slidesGone v) = (pagesOf v).diff (slidePages v) := by
      rw [← pagesOf_removeEntries]
      unfold slidesGone unwanted
      split <;> rfl
    have hsame : pagesOf (eraseSlides o v) = pagesOf (slidesGone v) := by rw [eraseSlides_running hrun]; rfl
    rw [hsame, hband] at h
    exact List.diff_subset _ _ h
  | false =>
    rw [eraseSlides_idle hrun] at h
    exact h

theorem requested_of_queueSound {s : State} (h : queueSound s) : requested s := h.2.1

theorem stackGone_erasePages (o : Owner) (s : State) : ∀ e ∈ (erasePages o s).stack.entries, e.page.owner ≠ o := by
  intro e he
  have hmem : e.page ∈ pagesOf (eraseSlides o (eraseStack o (pagesGone o s))) := by
    rw [pagesOf, ← stack_of_offExchange (offExchange_erasePages o s)]
    exact List.mem_map_of_mem he
  exact pagesOf_eraseStack o _ _ (pagesOf_eraseSlides hmem)

theorem framesOf_erasePages (o w : Owner) (s : State) :
    framesOf w (erasePages o s) = if w = o then [] else framesOf w s := by
  rw [view_of_offExchange (offExchange_erasePages o s) (framesOf w) (framesOf_offExchange w),
    view_eraseSlides o _ (framesOf w) (framesOf_beyond w) (by intros; cases w <;> rfl), framesOf_stackGone]

theorem held_erasePages (o : Owner) (s : State) :
    held (erasePages o s) = held (s.setNav (heldWithout (ownedBy o) s)) := by
  rw [view_of_offExchange (offExchange_erasePages o s) held fun _ => rfl,
    view_eraseSlides o _ held (fun _ => rfl) (fun _ _ _ => rfl), held_stackGone]

theorem saved_erasePages {o : Owner} {r : PageRef} (h : r.owner ≠ o) (s : State) :
    (pageEntry r (erasePages o s)).saved = (pageEntry r s).saved := by
  obtain ⟨q, l, hslides⟩ := beyond_eraseSlides o (eraseStack o (pagesGone o s))
  rw [saved_of_offExchange (offExchange_erasePages o s) r, ← saved_stackGone h s]
  generalize eraseStack o (pagesGone o s) = v at hslides
  have hsame : beyond (eraseSlides o v) = beyond ((v.setSeqr q).setLink l) := hslides
  exact saved_of_beyond hsame r

theorem seqr_link_erasePages (o : Owner) (s : State) :
    (erasePages o s).seqr = (if slidesRunFor o s = true then sequencerReset (listsErased o s)
      else { s.seqr with lists := listsErased o s }) ∧ (erasePages o s).link = (erasedShowNotice o s).link := by
  have hout := outside_stackGone o s
  have hoff := offExchange_erasePages o s
  rw [seqr_of_offExchange hoff, link_of_offExchange hoff, seqr_eraseSlides, link_eraseSlides]
  generalize eraseStack o (pagesGone o s) = v at hout
  simp only [outside, Prod.mk.injEq] at hout
  obtain ⟨hseqr, hlink, hdisp, hcues⟩ := hout
  have hruns : slidesRunFor o v = slidesRunFor o s := by rw [slidesRunFor, hseqr]; rfl
  have hlists : listsErased o v = listsErased o s := by rw [listsErased, hseqr]; rfl
  refine ⟨by rw [hruns, hlists, hseqr], ?_⟩
  unfold erasedShowNotice
  rw [hruns, hseqr]
  split
  · exact post_link_congr _ _ _ _ _ _ _ _ hlink hdisp hcues
  · exact hlink

/-- What an owner erase leaves of the pages, before the keys that wait are delivered. -/
theorem erasedPages_erasePages (o : Owner) (s : State) : ErasedPagesFor o s (erasePages o s) := by
  obtain ⟨hexch, hstack⟩ := erasing_erasePages o s
  have hheld := held_erasePages o s
  have hstackGone := stackGone_erasePages o s
  have hframes := fun w => framesOf_erasePages o w s
  have hsaved := fun (r : PageRef) (h : r.owner ≠ o) => saved_erasePages h s
  have hslides := (seqr_link_erasePages o s).1
  generalize erasePages o s = u at hexch hstack hheld hstackGone hframes hsaved hslides
  have hmine : s.exch.ctrlReq.any (ownedBy o) = true ↔ s.exch.ctrlReq.map PageRef.owner = some o := by
    cases s.exch.ctrlReq <;> simp [ownedBy]
  simp only [held, Prod.mk.injEq, State.setNav_nav] at hheld
  obtain ⟨hkeys, hvars, henables, hselect⟩ := hheld
  refine ⟨hstackGone, hstack.kept, hframes, hexch.queueGone, hexch.incomingGone, hexch.slotsGone,
    fun hs => hexch.queueKept (requested_of_queueSound hs), fun hs => hexch.queueServed (requested_of_queueSound hs),
    fun x hx ho hc => ⟨(hexch.exchangeKept x hx ho hc).1,
      fun hs => (hexch.exchangeKept x hx ho hc).2 (requested_of_queueSound hs)⟩,
    fun r k hlives hr hp hst hfree => ?_, hsaved, hexch.request, ?_, hstack.returnGone, hstack.returnKept, ?_, hslides⟩
  · refine (hexch.slotsKept r k hlives hr hp hst hfree).imp (fun h => h.1) fun ⟨he, x, hx, hk⟩ =>
      ⟨he, fun hsame => hfree x (hsame.trans hx) hk, x, hx, hk⟩
  · rw [henables, hselect, heldWithout]
    by_cases hreq : s.exch.ctrlReq.map PageRef.owner = some o
    · rw [if_pos (hmine.2 hreq), if_pos hreq]
    · rw [if_neg (fun h => hreq (hmine.1 h)), if_neg hreq]
  · rw [hkeys, hvars, heldWithout]
    split <;> exact ⟨rfl, rfl⟩

end Sys2Proof.Machine

namespace Sys2Proof.Machine

open Sys2Proof

/-! ## A recompose request stays (R145)

Until a pass starts nothing takes a recompose request back. Key delivery reaches most of the interactive blocks, so each
of their operations says so once, in the order of the model. -/

/-- The recompose request is raised. -/
def raised (s : State) : Prop := s.comp.recompose = true

section Raised

variable {s : State}

@[simp] theorem raised_setExch (v : Exchange) : raised (s.setExch v) ↔ raised s := Iff.rfl
@[simp] theorem raised_setNav (v : Navigation) : raised (s.setNav v) ↔ raised s := Iff.rfl
@[simp] theorem raised_setSlot (k : Fin 6) (v : Slot) : raised (setSlot k v s) ↔ raised s := Iff.rfl
@[simp] theorem raised_setPageEntry (r : PageRef) (e : PageEntry) : raised (setPageEntry r e s) ↔ raised s := Iff.rfl
@[simp] theorem raised_raiseRecompose : raised (raiseRecompose s) := rfl

@[simp] theorem raised_post (kind : NoticeKind) (owner : Option Owner) (page : Option (Fin 32)) (index code : Half)
    (detail : Word) (flag : Bool) : raised (post kind owner page index code detail flag s) ↔ raised s := by
  rw [post_eq_setLink]
  exact Iff.rfl

theorem raised_foldl {α : Type} (f : State → α → State) (hf : ∀ t a, raised t → raised (f t a)) (l : List α)
    (h : raised s) : raised (l.foldl f s) := by
  induction l generalizing s with
  | nil => exact h
  | cons a l ih => exact ih (hf s a h)

/-! ### Buttons -/

@[simp] theorem raised_commitButtons (k : Fin 6) (sl : Slot) : raised (commitButtons k sl s) := by simp [commitButtons]

@[simp] theorem raised_becomeSelection (k : Fin 6) (c : Nat) (h : raised s) : raised (becomeSelection k c s) := by
  simp only [becomeSelection]
  (repeat' split) <;> simp [h]

@[simp] theorem raised_applyDefault (k : Fin 6) (h : raised s) : raised (applyDefault k s) := by
  simp only [applyDefault]
  (repeat' split) <;> simp [h]

@[simp] theorem raised_selectButton (k : Fin 6) (id : Byte) (h : raised s) : raised (selectButton k id s) := by
  simp only [selectButton]
  (repeat' split) <;> simp [h]

@[simp] theorem raised_selectIfEnabled (k : Fin 6) (id : Byte) (h : raised s) : raised (selectIfEnabled k id s) := by
  simp only [selectIfEnabled]
  (repeat' split) <;> simp [h]

@[simp] theorem raised_activateButton (k : Fin 6) (i : Nat) (h : raised s) : raised (activateButton k i s) := by
  simp only [activateButton]
  (repeat' split) <;> simp [h]

/-! ### Page Exchange -/

@[simp] theorem raised_startLoad (t : Transfer) : raised (startLoad t s) ↔ raised s := by simp [startLoad]

@[simp] theorem raised_dropResidency (k : Fin 6) (h : raised s) : raised (dropResidency k s) := by
  simp only [dropResidency]
  (repeat' split) <;> simp [h]

@[simp] theorem raised_startExchange (r : PageRef) (k : Fin 6) (h : raised s) : raised (startExchange r k s) := by
  simp only [startExchange]
  (repeat' split) <;> simp [h]

@[simp] theorem raised_takeControllerRequest (h : raised s) : raised (takeControllerRequest s) := by
  simp only [takeControllerRequest]
  (repeat' split) <;> simp [h]

theorem raised_takeRequests (qs : List Request) : ∀ {s : State}, raised s → raised (takeRequests qs s) := by
  induction qs with
  | nil => exact raised_takeControllerRequest
  | cons q qs ih =>
    intro s h
    simp only [takeRequests]
    (repeat' split) <;> simp [h, ih]

@[simp] theorem raised_takeUp (h : raised s) : raised (takeUp s) := by
  simp only [takeUp]
  split <;> simp [h, raised_takeRequests]

@[simp] theorem raised_requestPage (w : Requester) (r : PageRef) (h : raised s) : raised (requestPage w r s) := by
  simp only [requestPage]
  (repeat' split) <;> simp [h]

@[simp] theorem raised_withdrawRequest (w : Requester) (r : PageRef) :
    raised (withdrawRequest w r s) ↔ raised s := by simp [withdrawRequest]

/-! ### Page Stack -/

@[simp] theorem raised_pageNotice (kind : NoticeKind) (r : PageRef) (pos : Nat) (code : Half) :
    raised (pageNotice kind r pos code s) ↔ raised s := by simp [pageNotice]

@[simp] theorem raised_handOn : raised (handOn s) := by simp [handOn]

@[simp] theorem raised_insertEntry (i : Nat) (e : Entry) : raised (insertEntry i e s) := by simp [insertEntry]

@[simp] theorem raised_dropReturnSel (test : PageRef → Bool) :
    raised (dropReturnSel test s) ↔ raised s := by simp [dropReturnSel]

@[simp] theorem raised_removeEntry (r : PageRef) (code : Option Half) (h : raised s) :
    raised (removeEntry r code s) := by
  simp only [removeEntry]
  split <;> simp [h]

@[simp] theorem raised_changeEntry (r : PageRef) (f : Entry → Entry) :
    raised (changeEntry r f s) := by simp [changeEntry]

@[simp] theorem raised_turnShown (r : PageRef) (code : Half) : raised (turnShown r code s) := by simp [turnShown]

@[simp] theorem raised_addEntering (r : PageRef) (i : Nat) : raised (addEntering r i s) := by
  simp only [addEntering]
  (repeat' split) <;> simp

@[simp] theorem raised_restoreEntry (r : PageRef) (h : raised s) : raised (restoreEntry r s) := by
  simp only [restoreEntry]
  (repeat' split) <;> simp [h]

@[simp] theorem raised_startLeaving (r : PageRef) (h : raised s) : raised (startLeaving r s) := by
  simp only [startLeaving]
  (repeat' split) <;> simp [h]

@[simp] theorem raised_replaceBy (acting target : PageRef) (h : raised s) : raised (replaceBy acting target s) := by
  simp only [replaceBy]
  split
  · split <;> simp [h]
  · split <;> simp [h]

@[simp] theorem raised_gotoPage (acting : PageRef) (target : PageRef) (h : raised s) :
    raised (gotoPage acting target s) := by
  simp only [gotoPage]
  (repeat' split) <;> simp [h]

@[simp] theorem raised_setFrames (o : Owner) (fs : List Frame) : raised (setFrames o fs s) ↔ raised s := by
  cases o <;> exact Iff.rfl

@[simp] theorem raised_pushFrame (o : Owner) (f : Frame) (h : raised s) : raised (pushFrame o f s) := by
  simp only [pushFrame]
  (repeat' split) <;> simp [h]

theorem raised_callPage {acting target : PageRef} {t : State} (h : raised s) (ht : callPage acting target s = some t) :
    raised t := by
  simp only [callPage] at ht
  split at ht
  · cases ht; exact h
  · split at ht
    · obtain ⟨u, -, rfl⟩ := Option.map_eq_some_iff.1 ht
      simp
    · cases ht; split <;> simp [h]

@[simp] theorem raised_giveReturnSel (r : PageRef) (b : Byte) (h : raised s) : raised (giveReturnSel r b s) := by
  simp only [giveReturnSel]
  (repeat' split) <;> simp [h]

@[simp] theorem raised_returnFrom (acting : PageRef) (h : raised s) : raised (returnFrom acting s) := by
  simp only [returnFrom]
  (repeat' split) <;> simp [h]

@[simp] theorem raised_removeBeforeSlide (r : PageRef) (code : Half) (h : raised s) :
    raised (removeBeforeSlide r code s) := by
  simp only [removeBeforeSlide]
  split <;> simp [h]

@[simp] theorem raised_insertSlide (i : Nat) (e : Entry) : raised (insertSlide i e s) := by simp [insertSlide]

theorem raised_addSlide {r : PageRef} {t : State} (h : addSlide r s = some t) : raised t := by
  obtain ⟨u, -, rfl⟩ := Option.map_eq_some_iff.1 h
  simp

theorem raised_addIncoming {current r : PageRef} {t : State} (h : addIncoming current r s = some t) : raised t := by
  obtain ⟨u, -, rfl⟩ := Option.map_eq_some_iff.1 h
  simp

@[simp] theorem raised_endSlideTransition (outgoing incoming : PageRef) :
    raised (endSlideTransition outgoing incoming s) := by
  simp only [endSlideTransition]
  split <;> simp

@[simp] theorem raised_emptySlideBand (silent : Bool) (h : raised s) : raised (emptySlideBand silent s) :=
  raised_foldl _ (fun _ r => raised_removeEntry r _) _ h

/-! ### Slide Sequencer -/

@[simp] theorem raised_updateSeq (f : Sequencer → Sequencer) : raised (updateSeq f s) ↔ raised s := Iff.rfl

@[simp] theorem raised_seqNotice (kind : NoticeKind) (page : Option PageRef) (code : Half) :
    raised (seqNotice kind page code s) ↔ raised s := by simp [seqNotice]

@[simp] theorem raised_wantPage (r : PageRef) (h : raised s) : raised (wantPage r s) := by
  simp only [wantPage]
  (repeat' split) <;> simp [h]

@[simp] theorem raised_wantNone (h : raised s) : raised (wantNone s) := by
  simp only [wantNone]
  (repeat' split) <;> simp [h]

@[simp] theorem raised_prefetch (h : raised s) : raised (prefetch s) := by
  simp only [prefetch]
  (repeat' split) <;> simp [h]

@[simp] theorem raised_completeAdvance (code : Half) (h : raised s) : raised (completeAdvance code s) := by
  simp only [completeAdvance]
  (repeat' split) <;> simp [h]

@[simp] theorem raised_bringInFull (r : PageRef) (h : raised s) : raised (bringInFull r s) := by
  unfold bringInFull
  split
  · exact h
  · rename_i ht
    simp [raised_addSlide ht]

@[simp] theorem raised_cutTo (shown : PageRef) (r : PageRef) (h : raised s) :
    raised (cutTo shown r s) := by
  simp [cutTo, h]

@[simp] theorem raised_startTransition (shown r : PageRef) (e : SlideEntry) (h : raised s) :
    raised (startTransition shown r e s) := by
  unfold startTransition
  split
  · simp [h]
  · split
    · simp [h]
    · rename_i ht
      simp [raised_addIncoming ht]

@[simp] theorem raised_tryBringIn (h : raised s) : raised (tryBringIn s) := by
  simp only [tryBringIn]
  (repeat' split) <;> simp [h]

@[simp] theorem raised_moveTo (j : Nat) (back : Bool) (h : raised s) : raised (moveTo j back s) := by
  simp only [moveTo]
  (repeat' split) <;> simp [h]

@[simp] theorem raised_resetSeq : raised (resetSeq s) ↔ raised s := Iff.rfl

@[simp] theorem raised_stopShow (reason : Half) (h : raised s) : raised (stopShow reason s) := by simp [stopShow, h]

@[simp] theorem raised_searchMove (back : Bool) (h : raised s) : raised (searchMove back s) := by
  simp only [searchMove]
  (repeat' split) <;> simp [h]

@[simp] theorem raised_endTransition (h : raised s) : raised (endTransition s) := by
  simp only [endTransition]
  (repeat' split) <;> simp [h]

@[simp] theorem raised_stepSettled (back : Bool) (h : raised s) : raised (stepSettled back s) := by
  simp only [stepSettled]
  (repeat' split) <;> simp [h]

@[simp] theorem raised_stepShow (back : Bool) (h : raised s) : raised (stepShow back s) := by
  simp only [stepShow]
  (repeat' split) <;> simp [h]

@[simp] theorem raised_pauseShow (h : raised s) : raised (pauseShow s) := by
  simp only [pauseShow]
  (repeat' split) <;> simp [h]

@[simp] theorem raised_resumeShow (h : raised s) : raised (resumeShow s) := by
  simp only [resumeShow]
  (repeat' split) <;> simp [h]

@[simp] theorem raised_togglePause (h : raised s) : raised (togglePause s) := by
  simp only [togglePause]
  (repeat' split) <;> simp [h]

@[simp] theorem raised_slideOperation (op : Nat) (h : raised s) : raised (slideOperation op s) := by
  simp only [slideOperation]
  (repeat' split) <;> simp [h]

/-! ### Outcomes and activations -/

@[simp] theorem raised_pageFaultNotice (a : Acting) (code : Half) (detail : Word) :
    raised (pageFaultNotice a code detail s) ↔ raised s := by simp [pageFaultNotice]

@[simp] theorem raised_setVariable (v : Fin 16) (w : Word) :
    raised (setVariable v w s) ↔ raised s := by simp [setVariable]

@[simp] theorem raised_runOutcome (a : Acting) (x : Action) (h : raised s) : raised (runOutcome a x s) := by
  have hcall (r : PageRef) (t : State) (ht : raised t) : raised ((callPage a.page r s).getD t) := by
    cases hc : callPage a.page r s with
    | none => exact ht
    | some u => exact raised_callPage h hc
  simp only [runOutcome]
  (repeat' split) <;> simp [h, hcall]

@[simp] theorem raised_reportOutcome (a : Acting) (x : Action) (branch : Bool) (detail : Word) (h : raised s) :
    raised (reportOutcome a x branch detail s) := by
  simp only [reportOutcome]
  (repeat' split) <;> simp [h]

@[simp] theorem raised_finishActivation (k : Fin 6) (i : Nat) (h : raised s) : raised (finishActivation k i s) := by
  simp only [finishActivation]
  (repeat' split) <;> simp [h]

@[simp] theorem raised_completeActivation (k : Fin 6) (h : raised s) : raised (completeActivation k s) := by
  simp only [completeActivation]
  (repeat' split) <;> simp [h]

@[simp] theorem raised_beginActivation (k : Fin 6) (i : Nat) (h : raised s) : raised (beginActivation k i s) := by
  simp only [beginActivation]
  (repeat' split) <;> simp [h]

@[simp] theorem raised_setTimer (k : Fin 6) (timer : Half) (mark : Bool) :
    raised (setTimer k timer mark s) ↔ raised s := by simp [setTimer]

@[simp] theorem raised_reloadTimeout (k : Fin 6) : raised (reloadTimeout k s) ↔ raised s := by simp [reloadTimeout]

/-! ### Keys -/

@[simp] theorem raised_keyUnused (focus : Option PageRef) (k : Key) (reason : Word) :
    raised (keyUnused focus k reason s) ↔ raised s := by simp [keyUnused]

theorem raised_slideKey (focus : Option PageRef) (allowed : Bool) (k : Key) {act : State → State}
    (hact : raised (act s)) (h : raised s) : raised (slideKey focus allowed k act s) := by
  unfold slideKey
  split <;> simp [h, hact]

@[simp] theorem raised_keyNoFocus (k : Key) (h : raised s) : raised (keyNoFocus k s) := by
  simp only [keyNoFocus]
  split <;> simp [h, raised_slideKey]

@[simp] theorem raised_moveSelection (k : Fin 6) (d : PageDef) (dir : Direction) (h : raised s) :
    raised (moveSelection k d dir s) := by
  simp only [moveSelection]
  (repeat' split) <;> simp [h]

@[simp] theorem raised_enterKey (r : PageRef) (k : Fin 6) (h : raised s) : raised (enterKey r k s) := by
  simp only [enterKey]
  (repeat' split) <;> simp [h]

@[simp] theorem raised_backKey (r : PageRef) (d : PageDef) (h : raised s) : raised (backKey r d s) := by
  simp only [backKey]
  (repeat' split) <;> simp [h]

@[simp] theorem raised_keyOnPage (r : PageRef) (k : Fin 6) (d : PageDef) (key : Key) (h : raised s) :
    raised (keyOnPage r k d key s) := by
  simp only [keyOnPage]
  split <;> simp [h, raised_slideKey]

@[simp] theorem raised_deliverKey (key : Key) (h : raised s) : raised (deliverKey key s) := by
  simp only [deliverKey]
  (repeat' split) <;> simp [h]

theorem raised_deliverUpTo (n : Nat) : ∀ {s : State}, raised s → raised (deliverUpTo n s) := by
  induction n with
  | zero => exact id
  | succ n ih =>
    intro s h
    simp only [deliverUpTo]
    (repeat' split) <;> simp [h, ih]

/-- Key delivery never takes a recompose request back (R145). -/
theorem raised_deliverKeys (h : raised s) : raised (deliverKeys s) := raised_deliverUpTo _ h

end Raised

end Sys2Proof.Machine

namespace Sys2Proof.Machine

open Sys2Proof

/-! ## Owner erase (R21, R26, R42, R113, R135, R173, R186) -/

/-- The objects of an owner are erased: their regions are released, their entries reset (R21, log 14). -/
def objectsErased (o : Owner) (s : State) : ObjectStore :=
  { released s ((ownerEntries o s).flatMap entryRegions) with
    dir := mapWhere (ownsEntry o) (fun _ => objEntryReset) s.objs.dir }

theorem eraseObjects_eq (o : Owner) (s : State) : ∃ b,
    eraseObjects o s = (s.setObjs (objectsErased o s)).setComp { s.comp with recompose := b } := by
  unfold eraseObjects
  dsimp only
  rw [releaseRegions_eq]
  split
  · exact ⟨true, rfl⟩
  · exact ⟨s.comp.recompose, rfl⟩

/-- Objects and palettes of an owner are gone, and what is drawn before a live palette changes is drawn. -/
def storesErased (o : Owner) (s : State) : State := erasePalettes o (eraseObjects o s)

theorem storesErased_eq (o : Owner) (s : State) : ∃ m c n, storesErased o s =
      ((((s.setObjs (objectsErased o s)).setPals (mapWhere (ownsPalette o) (fun _ => paletteReset) s.pals)).setMem
        m).setComp c).setFresh n ∧ c.recompose = true ∧
      (∀ a, offPlane (otherPlane s.comp.front) a → m.read a = s.mem.read a) ∧ (s.comp.pass ≠ .drawing → m = s.mem) := by
  obtain ⟨b, hobjs⟩ := eraseObjects_eq o s
  unfold storesErased erasePalettes
  dsimp only
  rw [hobjs]
  generalize hv : (s.setObjs (objectsErased o s)).setComp { s.comp with recompose := b } = v
  have hmem : v.mem = s.mem := by rw [← hv]; rfl
  have hfront : v.comp.front = s.comp.front := by rw [← hv]; rfl
  have hpass : v.comp.pass = s.comp.pass := by rw [← hv]; rfl
  refine ⟨(beforeLiveChange v).mem, { v.comp with progress := (beforeLiveChange v).comp.progress, recompose := true },
    (beforeLiveChange v).fresh, ?_, rfl, fun a ha => ?_, fun hp => ?_⟩
  · rw [beforeLiveChange_eq]
    generalize beforeLiveChange v = w
    rw [← hv]
    rfl
  · rw [read_beforeLiveChange_offPlane v (by rwa [hfront]), hmem]
  · rw [beforeLiveChange_of_not (by rwa [hpass]), hmem]

/-- What the erase of the pages leaves: memory, objects, palettes, cues. -/
def stores (s : State) : Memory × ObjectStore × Vector Palette 16 × CueUnit := (s.mem, s.objs, s.pals, s.cues)

theorem stores_erasePages (o : Owner) (s : State) : stores (erasePages o s) = stores s := by
  have hdirectory (d : State) : stores (directoryGone o d) = stores d := by cases o <;> rfl
  rw [view_of_offExchange (offExchange_erasePages o s) stores fun _ => rfl,
    view_eraseSlides o _ stores (fun _ => rfl) (fun _ _ _ => rfl),
    view_of_beyond (beyond_stackGone o s) stores fun _ => rfl,
    hdirectory, view_of_offExchange (offExchange_exchangeDrop ..) stores fun _ => rfl]
  rfl

/-- What the directory says of a page (R36). -/
def factsOf (r : PageRef) (s : State) : PageEntry := pageFacts (pageEntry r s)

theorem factsOf_offExchange (r : PageRef) (u : State) : factsOf r (offExchange u) = factsOf r u := by
  simp [factsOf, offExchange, pageEntry, pageFacts]

theorem factsOf_directoryGone (o : Owner) (r : PageRef) (d : State) :
    factsOf r (directoryGone o d) = if r.owner = o then pageEntryReset else factsOf r d := by
  have hframes (u : State) : factsOf r (setFrames o [] u) = factsOf r u := by cases o <;> rfl
  rw [directoryGone, hframes, factsOf, pageEntry_erasePageEntries]
  split <;> rfl

theorem factsOf_erasePages (o : Owner) (r : PageRef) (s : State) :
    factsOf r (erasePages o s) = if r.owner = o then pageEntryReset else factsOf r s := by
  have hbeyond : ∀ u, factsOf r (beyond u) = factsOf r u := factsOf_offExchange r
  rw [view_of_offExchange (offExchange_erasePages o s) (factsOf r) (factsOf_offExchange r),
    view_eraseSlides o _ (factsOf r) hbeyond (fun _ _ _ => rfl),
    view_of_beyond (beyond_stackGone o s) (factsOf r) hbeyond,
    factsOf_directoryGone, view_of_offExchange (offExchange_exchangeDrop ..) (factsOf r) (factsOf_offExchange r)]
  rfl

theorem slideList_listsErased (o w : Owner) (i : Fin 2) (s : State) :
    (listsErased o s)[listIndex w i] = if w = o then none else slideList w i s := by
  have hi : i = 0 ∨ i = 1 := by omega
  rcases hi with rfl | rfl <;> cases o <;> cases w <;> simp [listsErased, slideList, listIndex]

theorem ownsEntry_iff (o : Owner) (i : Fin 512) : ownsEntry o i.val = true ↔ entryOwner i = o := by
  cases o <;> simp [ownsEntry, entryOwner]

theorem ownsPalette_iff (o w : Owner) (p : Fin 8) : ownsPalette o (paletteIndex w p).val = true ↔ w = o := by
  have hp := p.isLt
  cases o <;> cases w <;> simp [ownsPalette, paletteIndex]
  exact decide_eq_false (by omega)

theorem ownsCue_iff (o w : Owner) (i : Fin 8) : ownsCue o (cueIndex w i).val = true ↔ w = o := by
  have hi := i.isLt
  cases o <;> cases w <;> simp [ownsCue, cueIndex]
  exact decide_eq_false (by omega)

/-- The state of an owner erase before the keys that wait are delivered. -/
def ownerErased (o : Owner) (s : State) : State := eraseCues o (erasePages o (storesErased o s))

theorem eraseOwner_eq (o : Owner) (s : State) : eraseOwner o s = deliverKeys (ownerErased o s) := rfl

theorem erasedPagesFor_eraseCues {o : Owner} {s v : State} (h : ErasedPagesFor o s v) :
    ErasedPagesFor o s (eraseCues o v) :=
  { h with
    frames := fun w => by
      rw [← h.frames w]
      cases w <;> rfl }

theorem erasedShowNotice_link {o : Owner} {s v : State} (h : outside v = outside s) :
    (erasedShowNotice o v).link = (erasedShowNotice o s).link := by
  simp only [outside, Prod.mk.injEq] at h
  obtain ⟨hseqr, hlink, hdisp, hcues⟩ := h
  have hruns : slidesRunFor o v = slidesRunFor o s := by rw [slidesRunFor, hseqr]; rfl
  unfold erasedShowNotice
  rw [hruns, hseqr]
  split
  · exact post_link_congr _ _ _ _ _ _ _ _ hlink hdisp hcues
  · exact hlink

/-- Pages and show before the keys that wait are delivered. -/
theorem ownerErased_pages (o : Owner) (s : State) :
    ErasedPagesFor o s (ownerErased o s) ∧ (ownerErased o s).link = (erasedShowNotice o s).link := by
  obtain ⟨m, c, n, hs, -⟩ := storesErased_eq o s
  have hout : outside (storesErased o s) = outside s := by rw [hs]; rfl
  have hpages := erasedPagesFor_eraseCues (erasedPages_erasePages o (storesErased o s))
  have hlink := (seqr_link_erasePages o (storesErased o s)).2
  rw [erasedShowNotice_link hout] at hlink
  unfold ownerErased
  generalize erasePages o (storesErased o s) = v at hpages hlink
  rw [hs] at hpages
  exact ⟨{ hpages with }, hlink⟩

theorem stores_of_still {s t : State} (h : still t = still s) : stores t = stores s :=
  (show stores (still t) = stores (still s) from congrArg stores h)

theorem lists_of_still {s t : State} (h : still t = still s) : t.seqr.lists = s.seqr.lists := by
  have h' : (still t).seqr.lists = (still s).seqr.lists := congrArg (fun u : State => u.seqr.lists) h
  exact h'

theorem raised_erasePages (o : Owner) (s : State) : raised (erasePages o s) := by
  rw [erasePages_eq]
  exact raised_handOn

theorem raised_eraseCues (o : Owner) (v : State) : raised (eraseCues o v) ↔ raised v := Iff.rfl

theorem lists_eraseCues (o : Owner) (v : State) : (eraseCues o v).seqr.lists = v.seqr.lists := rfl

theorem factsOf_eraseCues (o : Owner) (r : PageRef) (v : State) : factsOf r (eraseCues o v) = factsOf r v := rfl

/-- What an owner erase leaves of everything but the pages, the keys that wait not yet delivered. -/
theorem erasedFor_ownerErased (o : Owner) (s : State) : ErasedFor o s (ownerErased o s) := by
  obtain ⟨m, c, n, hs, -, hmem, hwhole⟩ := storesErased_eq o s
  have hraised := raised_erasePages o (storesErased o s)
  have hstores := stores_erasePages o (storesErased o s)
  have hfacts (r : PageRef) := factsOf_erasePages o r (storesErased o s)
  have hseqr := (seqr_link_erasePages o (storesErased o s)).1
  unfold ownerErased
  generalize erasePages o (storesErased o s) = v at hraised hstores hfacts hseqr
  rw [hs] at hstores hfacts hseqr
  simp only [stores, Prod.mk.injEq] at hstores
  obtain ⟨hm, hobjs, hpals, hcues⟩ := hstores
  have hm : (eraseCues o v).mem = m := hm
  have hobjs : (eraseCues o v).objs = objectsErased o s := hobjs
  have hpals : (eraseCues o v).pals = mapWhere (ownsPalette o) (fun _ => paletteReset) s.pals := hpals
  have hcues : (eraseCues o v).cues =
      { s.cues with slots := mapWhere (ownsCue o) (fun _ => ⟨.idle, none⟩) s.cues.slots } := by
    rw [eraseCues, State.setCues_cues, hcues]
    rfl
  have hlists : (eraseCues o v).seqr.lists = listsErased o s := by
    rw [lists_eraseCues, hseqr]
    split <;> rfl
  refine ⟨fun a ha => by rw [hm]; exact hmem a ha, fun hp => by rw [hm]; exact hwhole hp,
    (raised_eraseCues o v).2 hraised, fun i => ?_, by rw [hobjs]; rfl, by rw [hobjs]; rfl, fun w p => ?_,
    fun r => (factsOf_eraseCues o r v).trans (hfacts r), fun w i => ?_, fun w i => ?_,
    by rw [hcues]; exact ⟨rfl, rfl, rfl⟩⟩
  · rw [hobjs, objectsErased, getElem_mapWhere]
    exact if_congr (ownsEntry_iff o i) rfl rfl
  · rw [hpals, getElem_mapWhere]
    exact if_congr (ownsPalette_iff o w p) rfl rfl
  · rw [slideList, hlists]
    exact slideList_listsErased o w i s
  · rw [cueSlot, hcues, getElem_mapWhere]
    exact if_congr (ownsCue_iff o w i) rfl rfl

/-- What an owner erase leaves of everything but the pages stays so as long as memory, stores, lists, directory facts
and the recompose request do. -/
theorem ErasedFor.of_kept {o : Owner} {s u t : State} (h : ErasedFor o s u) (hstores : stores t = stores u)
    (hraised : raised t) (hlists : t.seqr.lists = u.seqr.lists) (hpages : ∀ r, factsOf r t = factsOf r u) :
    ErasedFor o s t := by
  simp only [stores, Prod.mk.injEq] at hstores
  obtain ⟨hmem, hobjs, hpals, hcues⟩ := hstores
  exact ⟨fun a ha => by rw [hmem]; exact h.memory a ha, fun hp => hmem.trans (h.memoryWhole hp), hraised,
    fun i => by rw [hobjs]; exact h.objects i, by rw [hobjs]; exact h.free, by rw [hobjs]; exact h.deferred,
    fun w p => by rw [hpals]; exact h.palettes w p, fun r => (hpages r).trans (h.pages r),
    fun w i => by rw [slideList, hlists]; exact h.lists w i, fun w i => by rw [cueSlot, hcues]; exact h.cueSlots w i,
    by rw [hcues]; exact h.time⟩

/-- Of everything but the pages all of the owner is gone, and all of the other owner is as it was. -/
theorem erasedFor_eraseOwner (o : Owner) (s : State) : ErasedFor o s (eraseOwner o s) := by
  have hrest := erasedFor_ownerErased o s
  rw [eraseOwner_eq]
  generalize ownerErased o s = u at hrest
  have hstill := still_deliverKeys u
  exact hrest.of_kept (stores_of_still hstill) (raised_deliverKeys hrest.recompose) (lists_of_still hstill)
    (pageFacts_of_still hstill)

/-! ### The segment EDITION and the command ERASE_PLAYER (R173, R186) -/

theorem wholeSegment_edition (p : List Byte) (s : State) :
    wholeSegment .disc kindEdition p s = takeEdition .disc p s := by
  have hjudged : headerFault .disc kindEdition p.length = none := by
    simp [headerFault, isKind, kindEdition, kindTime, kindPage, kindMinimum, kindObject, kindPalette, kindSlideList]
  simp only [wholeSegment, hjudged]
  simp [handSegment]

theorem exec_edition {s : State} (h : laneOpen s = true) (p : List Byte) :
    exec (.edition .disc p) s = .next (takeEdition .disc p s) := by
  simp only [exec, execEdition, awake_arriveSegment h, wholeSegment_edition]

/-- A command that is judged is carried out behind its frame and answered in the same step (R176, R177). -/
theorem command_linkOpen {s : State} (h : linkOpen s = true) {cmd : Byte} (payload : List Byte) (act : State → Answer)
    (hcmd : isReadCode cmd = false) : command cmd payload act s =
      placeReply cmd (act (crossed payload.length s)).code (act (crossed payload.length s)).data
        (act (crossed payload.length s)).state := by
  simp only [linkOpen, linkFree, Bool.and_eq_true, Bool.not_eq_true', Option.isNone_iff_eq_none] at h
  obtain ⟨⟨hreset, hfree⟩, hconf⟩ := h
  have hfree : (crossed payload.length s).link.processing.isSome = false := by
    rw [show (crossed payload.length s).link.processing = none from hfree]
    rfl
  have hconf : (!(crossed payload.length s).link.configured && !runsUnconfigured cmd) = false := by
    rw [show (crossed payload.length s).link.configured = true from hconf]
    rfl
  have hcrossed := frameCrosses_command cmd (BitVec.ofNat 8 payload.length) payload s hcmd
  rw [command, commandFrame, if_neg (by simp [hreset]), hcrossed]
  dsimp only
  rw [if_neg (by simp [hfree]), if_neg (by simp [hconf])]

/-- ERASE_PLAYER crosses the link, discards the relay buffer, erases the player's items and is answered (R186). -/
theorem exec_erasePlayer {s : State} (h : linkOpen s = true) :
    exec .erasePlayer s = .next (placeReply 0x42 .ok [] (eraseOwner .player ((crossed 0 s).setRelay relayReset))) := by
  have hcommand := command_linkOpen h (cmd := 0x42) [] doErasePlayer rfl
  simp only [doErasePlayer, done] at hcommand
  rw [exec, execErasePlayer, runErasePlayer, hcommand]
  rfl

/-- The command frame of ERASE_PLAYER and its relay reset are outside what an erase looks at (R178, R186). -/
theorem erasedFor_playerErased (s t : State) (h : ErasedFor .player ((crossed 0 s).setRelay relayReset) t) :
    ErasedFor .player s (placeReply 0x42 .ok [] t) := { h with }

theorem erasedPagesFor_playerErased (s u : State) (h : ErasedPagesFor .player ((crossed 0 s).setRelay relayReset) u) :
    ErasedPagesFor .player s u := { h with }

theorem ports_placeReply (cmd : Byte) (code : ReplyCode) (data : List Byte) (t : State) :
    ports (placeReply cmd code data t) = ports t := rfl

/-- Settles O22: the erase of one owner (pages first, then the rest), as the segment and as the command. -/
theorem ownerErasesClearOneOwner : Obligations.OwnerErasesClearOneOwner := by
  refine ⟨fun p s h hp => ?_, fun p s h hp => ?_, fun s h => ?_⟩
  · have hexec : exec (.edition .disc p) s =
        .next (eraseOwner .disc (s.setRecv { s.recv with edition := halfAt p 0 })) := by
      rw [exec_edition h, takeEdition, if_neg (by simp [hp])]
    obtain ⟨hpages, hlink⟩ := ownerErased_pages .disc (s.setRecv { s.recv with edition := halfAt p 0 })
    have hrest := erasedFor_eraseOwner .disc (s.setRecv { s.recv with edition := halfAt p 0 })
    have hports := ports_eraseOwner .disc (s.setRecv { s.recv with edition := halfAt p 0 })
    simp only [ports, Prod.mk.injEq] at hports
    obtain ⟨hrecv, hrelay, hstream, hdisp⟩ := hports
    exact ⟨_, _, hexec, eraseOwner_eq .., { hpages with }, hlink.trans (erasedShowNotice_link rfl),
      { hrest with }, hrecv, hrelay, hdisp, hstream⟩
  · rw [exec_edition h, takeEdition, if_pos hp]
    rfl
  · obtain ⟨hpages, hlink⟩ := ownerErased_pages .player ((crossed 0 s).setRelay relayReset)
    have hrest := erasedFor_eraseOwner .player ((crossed 0 s).setRelay relayReset)
    have hports := (ports_placeReply 0x42 .ok [] _).trans
      (ports_eraseOwner .player ((crossed 0 s).setRelay relayReset))
    rw [eraseOwner_eq] at hrest hports
    have hexec := exec_erasePlayer h
    rw [eraseOwner_eq] at hexec
    generalize ownerErased .player ((crossed 0 s).setRelay relayReset) = u at hpages hlink hrest hports hexec
    have hrest := erasedFor_playerErased s _ hrest
    generalize ht : placeReply 0x42 .ok [] (deliverKeys u) = t at hrest hports hexec
    simp only [ports, Prod.mk.injEq] at hports
    obtain ⟨hrecv, hrelay, hstream, hdisp⟩ := hports
    exact ⟨u, t, hexec, ht.symm, erasedPagesFor_playerErased s u hpages, hlink.trans (erasedShowNotice_link rfl), hrest,
      hrecv, hrelay, hdisp, hstream⟩

end Sys2Proof.Machine

namespace Sys2Proof.Machine

open Sys2Proof

/-! ## PALETTE segments (R24) -/

theorem wholeSegment_palette (lane : Owner) {p : List Byte} (s : State) (h : 3 ≤ p.length) :
    wholeSegment lane kindPalette p s = takePalette lane p s := by
  have hjudged : headerFault lane kindPalette p.length = none := by
    simp [headerFault, isKind, kindPalette, kindEdition, kindTime, kindPage, kindMinimum, h]
  simp only [wholeSegment, hjudged]
  simp [handSegment, kindPalette, kindEdition, kindTime]

theorem exec_palette {s : State} (h : laneOpen s = true) (lane : Owner) {p : List Byte} (hp : 3 ≤ p.length) :
    exec (.palette lane p) s = .next (takePalette lane p s) := by
  simp only [exec, execPalette, awake_arriveSegment h, wholeSegment_palette lane s hp]

/-- A refused PALETTE payload posts its SEGMENT_FAULT and changes nothing else (R24). -/
theorem takePalette_refused {lane : Owner} {p : List Byte} {code : Byte} {detail : Nat}
    (h : paletteFault p = some (code, detail)) (s : State) : takePalette lane p s =
      segmentFaultNotice lane 0x10 code ((byteAt p 0).setWidth 16) detail s := by
  simp only [takePalette, h]
  rfl

theorem takePalette_accepted {lane : Owner} {p : List Byte} {j : Fin 8} (h : paletteFault p = none)
    (hid : (byteAt p 0).toNat = j.val) (s : State) : takePalette lane p s =
      raiseRecompose (s.setPals (s.pals.set (paletteIndex lane j)
        (acceptedPalette (paletteRecords p) s.pals[paletteIndex lane j]))) := by
  have hj : Fin.ofNat 8 (byteAt p 0).toNat = j := by simp [hid]
  simp only [takePalette, h, hj]

/-- Of the records that name an index the last one decides (R24). -/
theorem writeRecords_getElem (rs : List (Byte × Colour)) (e : Fin 256) : ∀ copy : Vector Colour 256,
    (writeRecords copy rs)[e] =
      ((rs.reverse.find? (fun r => r.1.toNat == e.val)).map Prod.snd).getD copy[e] := by
  induction rs with
  | nil => exact fun _ => rfl
  | cons r rs ih =>
    intro copy
    have hset : (copy.set r.1.toNat r.2 r.1.isLt)[e] = if r.1.toNat = e.val then r.2 else copy[e] :=
      Vector.getElem_set r.1.isLt e.isLt
    change (writeRecords (copy.set r.1.toNat r.2 r.1.isLt) rs)[e] = _
    rw [ih, hset, List.reverse_cons, List.find?_append]
    cases rs.reverse.find? (fun r => r.1.toNat == e.val) with
    | some x => rfl
    | none => by_cases hr : r.1.toNat = e.val <;> simp [hr]

/-- The record count is checked first, then the length, then the palette id (R24). -/
theorem paletteFault_order (p : List Byte) :
    (paletteCount p = 0 ∨ 256 < paletteCount p → paletteFault p = some (0x03, 1)) ∧
    (1 ≤ paletteCount p → paletteCount p ≤ 256 → p.length ≠ 3 + 5 * paletteCount p →
      paletteFault p = some (0x02, 0)) ∧
    (1 ≤ paletteCount p → paletteCount p ≤ 256 → p.length = 3 + 5 * paletteCount p →
      paletteFault p = if 8 ≤ (byteAt p 0).toNat then some (0x03, 0) else none) := by
  have hcount (h1 : 1 ≤ paletteCount p) (h256 : paletteCount p ≤ 256) :
      ¬ (paletteCount p = 0 ∨ 256 < paletteCount p) := by omega
  exact ⟨fun h => if_pos h, fun h1 h256 hl => (if_neg (hcount h1 h256)).trans (if_pos hl),
    fun h1 h256 hl => (if_neg (hcount h1 h256)).trans (if_neg (not_not.2 hl))⟩

/-- Settles O16: the three checks in their order, then the written copy. -/
theorem paletteSegmentWritesPending : Obligations.PaletteSegmentWritesPending := by
  intro lane p s hs hlen n id
  obtain ⟨hcount, hlength, hid⟩ := paletteFault_order p
  rw [exec_palette hs lane hlen]
  refine ⟨fun hn => ?_, fun h1 h256 hl => ?_, fun h1 h256 hl h8 => ?_, fun j h1 h256 hl hj => ?_⟩
  · rw [takePalette_refused (hcount hn)]
  · rw [takePalette_refused (hlength h1 h256 hl)]
  · rw [takePalette_refused ((hid h1 h256 hl).trans (if_pos h8))]
  · have hnone : paletteFault p = none := (hid h1 h256 hl).trans (if_neg (by omega))
    rw [takePalette_accepted hnone hj]
    refine ⟨_, rfl, rfl, rfl, fun e => (writeRecords_getElem (paletteRecords p) e _).trans ?_⟩
    cases (paletteRecords p).reverse.find? (fun r => r.1.toNat == e.val) <;> rfl

end Sys2Proof.Machine

namespace Sys2Proof.Machine

open Sys2Proof

/-! ## Payload checks: the first failing one is that of the lowest bad offset (R34, R113, R134) -/

/-- The checks stand at rising offsets from one bound up to below another. -/
def risingChecks (lo hi : Nat) : List (Bool × Nat) → Prop
  | [] => lo ≤ hi
  | c :: cs => lo ≤ c.2 ∧ risingChecks (c.2 + 1) hi cs

theorem risingChecks_mono {lo lo' hi : Nat} (h : lo ≤ lo') : ∀ {cs : List (Bool × Nat)},
    risingChecks lo' hi cs → risingChecks lo hi cs
  | [], hcs => h.trans hcs
  | _ :: _, ⟨hc, hcs⟩ => ⟨h.trans hc, hcs⟩

theorem risingChecks_append {mid hi : Nat} {ds : List (Bool × Nat)} (hd : risingChecks mid hi ds) :
    ∀ {lo : Nat} {cs : List (Bool × Nat)}, risingChecks lo mid cs → risingChecks lo hi (cs ++ ds)
  | _, [], hcs => risingChecks_mono hcs hd
  | _, _ :: _, ⟨hc, hcs⟩ => ⟨hc, risingChecks_append hd hcs⟩

/-- Records of one width behind one another, each with its checks inside it. -/
theorem risingChecks_flatMap {base width : Nat} {f : Nat → List (Bool × Nat)} :
    ∀ n, (∀ i, i < n → risingChecks (base + width * i) (base + width * (i + 1)) (f i)) →
      risingChecks base (base + width * n) ((List.range n).flatMap f)
  | 0, _ => Nat.le_refl base
  | n + 1, h => by
    rw [List.range_succ, List.flatMap_append]
    refine risingChecks_append ?_ (risingChecks_flatMap n fun i hi => h i (by omega))
    simpa using h n (by omega)

theorem risingChecks_le_of_mem {hi : Nat} {c : Bool × Nat} : ∀ {lo : Nat} {cs : List (Bool × Nat)},
    risingChecks lo hi cs → c ∈ cs → lo ≤ c.2
  | lo, d :: cs, ⟨hd, hcs⟩, hc => by
    rcases List.mem_cons.1 hc with rfl | hc
    · exact hd
    · have := risingChecks_le_of_mem hcs hc
      omega

theorem firstFault_eq_none_iff : ∀ cs : List (Bool × Nat), firstFault cs = none ↔ ∀ o, (true, o) ∉ cs
  | [] => by simp [firstFault]
  | (false, _) :: cs => by simp [firstFault, firstFault_eq_none_iff cs]
  | (true, a) :: cs => iff_of_false (by simp [firstFault]) fun h => h a List.mem_cons_self

/-- Of checks at rising offsets the first that fails is that of the lowest offset at which one fails. -/
theorem firstFault_eq_some_iff {hi o : Nat} : ∀ {lo : Nat} {cs : List (Bool × Nat)}, risingChecks lo hi cs →
    (firstFault cs = some o ↔ (true, o) ∈ cs ∧ ∀ x, x < o → (true, x) ∉ cs)
  | _, [], _ => by simp [firstFault]
  | _, (false, _) :: cs, ⟨_, hcs⟩ => by simp [firstFault, firstFault_eq_some_iff hcs]
  | _, (true, a) :: cs, ⟨_, hcs⟩ => by
    have hbehind {x : Nat} (hx : (true, x) ∈ cs) : a < x := risingChecks_le_of_mem hcs hx
    simp only [firstFault, if_true, Option.some.injEq, List.mem_cons, Prod.mk.injEq, true_and, not_or]
    refine ⟨fun e => ?_, fun ⟨hmem, hleast⟩ => ?_⟩
    · subst e
      exact ⟨.inl rfl, fun x hx => ⟨by omega, fun hm => by have := hbehind hm; omega⟩⟩
    · rcases hmem with e | hmem
      · exact e.symm
      · exact absurd rfl (hleast a (hbehind hmem)).1

/-- Checks at rising offsets that fail where a field is bad refuse a payload at its first bad field. -/
theorem refusedAtFirst_firstFault {lo hi : Nat} {cs : List (Bool × Nat)} {bad : Nat → Prop}
    (h : risingChecks lo hi cs) (hbad : ∀ o, (true, o) ∈ cs ↔ bad o) :
    refusedAtFirst bad ((firstFault cs).map (fun o => (faultBadField, o))) := by
  simp only [refusedAtFirst, ← hbad]
  refine ⟨by rw [Option.map_eq_none_iff, firstFault_eq_none_iff], fun o => ?_⟩
  rw [← firstFault_eq_some_iff h]
  simp [faultBadField]

/-! ### The checks of a PAGE payload (R31, R32, R34) -/

/-- The codes of the kinds whose target has a limit (R188). -/
theorem pageAction_kind_iff (p : List Byte) (a : Nat) :
    ((parseAction p a).kind = .select ↔ (byteAt p a).toNat = 5) ∧
    ((parseAction p a).kind = .setvar ↔ (byteAt p a).toNat = 6) ∧
    ((parseAction p a).kind = .slide ↔ (byteAt p a).toNat = 7) := by
  simp only [parseAction, actionKind?]
  split <;> simp_all

/-- Only a SELECT, a SETVAR and a SLIDE have a target with a limit (R32). -/
theorem pageActionTargetOk_eq_false_iff (x : Action) : pageActionTargetOk x = false ↔
    (x.kind = .select ∧ 64 ≤ x.target.toNat) ∨ (x.kind = .setvar ∧ 16 ≤ x.target.toNat) ∨
    (x.kind = .slide ∧ 4 ≤ x.target.toNat) := by
  unfold pageActionTargetOk
  split <;> simp_all

/-- A check at a known offset that fails. -/
theorem failing_iff {bad : Bool} {a o : Nat} : (true, o) = (bad, a) ↔ o = a ∧ bad = true := by
  rw [Prod.mk.injEq, and_comm, eq_comm (a := true)]

theorem mem_pageActionChecks (p : List Byte) (a o : Nat) :
    (true, o) ∈ pageActionChecks p a ↔ outcomeBad p a o := by
  obtain ⟨hselect, hsetvar, hslide⟩ := pageAction_kind_iff p a
  simp only [pageActionChecks, List.mem_cons, List.not_mem_nil, or_false, failing_iff, Bool.not_eq_true',
    pageActionTargetOk_eq_false_iff, hselect, hsetvar, hslide, pageActionKindOk, decide_eq_false_iff_not, Nat.not_le,
    outcomeBad]
  rfl

/-- The bad fields of a visual that is present (R34). -/
def visualBad (owner : Owner) (p : List Byte) (v o : Nat) : Prop :=
  halfAt p v ≠ 0xFFFF ∧
    ((o = v ∧ objectIds owner ≤ (halfAt p v).toNat) ∨ (o = v + 2 ∧ (byteAt p o).toNat % 16 = 0))

theorem mem_visualChecks (owner : Owner) (p : List Byte) (v o : Nat) :
    (true, o) ∈ visualChecks owner p v ↔ visualBad owner p v o := by
  by_cases h : halfAt p v = 0xFFFF
  · simp [visualChecks, parseVisual, visualBad, h]
  · have hpresent : visualChecks owner p v = [(decide (objectIds owner ≤ (halfAt p v).toNat), v),
        ((byteAt p (v + 2)).toNat % 16 == 0, v + 2)] := by
      unfold visualChecks parseVisual
      rw [if_neg h]
    simp only [hpresent, List.mem_cons, List.not_mem_nil, or_false, failing_iff, decide_eq_true_eq, beq_iff_eq,
      visualBad, h, ne_eq, not_false_eq_true, true_and]
    exact or_congr Iff.rfl (and_congr_right fun e => by rw [e])

/-- The bad fields of a neighbour link (R34). -/
def linkBad (p : List Byte) (l o : Nat) : Prop :=
  (o = l ∧ 3 ≤ (byteAt p l).toNat) ∨ (o = l + 1 ∧ byteAt p l = 1 ∧ 64 ≤ (byteAt p o).toNat)

theorem mem_linkChecks (p : List Byte) (l o : Nat) : (true, o) ∈ linkChecks p l ↔ linkBad p l o := by
  simp only [linkChecks, List.mem_cons, List.not_mem_nil, or_false, failing_iff, Bool.and_eq_true,
    decide_eq_true_eq, beq_iff_eq, linkBad]
  exact or_congr Iff.rfl (and_congr_right fun e => by rw [e])

theorem mem_testChecks (p : List Byte) (a o : Nat) : (true, o) ∈ testChecks p a ↔
    (o = a ∧ 8 ≤ (byteAt p o).toNat) ∨ (o = a + 1 ∧ 16 ≤ (byteAt p o).toNat) ∨
      (o = a + 2 ∧ (byteAt p o).toNat ∉ [8, 16, 32]) := by
  simp only [testChecks, List.mem_cons, List.not_mem_nil, or_false, failing_iff, decide_eq_true_eq]
  refine or_congr (and_congr_right fun e => by rw [e]) (or_congr (and_congr_right fun e => by rw [e])
    (and_congr_right fun e => ?_))
  subst e
  simp [BitVec.toNat_eq, and_assoc]

theorem mem_placementChecks (owner : Owner) (p : List Byte) (i o : Nat) :
    (true, o) ∈ placementChecks owner p i ↔ placementBad owner p (placementAt i) o := by
  simp only [placementChecks, List.mem_cons, List.not_mem_nil, or_false, failing_iff, decide_eq_true_eq, placementBad]
  constructor
  · rintro (⟨rfl, h⟩ | ⟨rfl, h⟩ | ⟨rfl, h⟩)
    · exact .inl ⟨rfl, h⟩
    · exact .inr ⟨.inl rfl, h⟩
    · exact .inr ⟨.inr rfl, h⟩
  · rintro (⟨rfl, h⟩ | ⟨rfl | rfl, h⟩)
    · exact .inl ⟨rfl, h⟩
    · exact .inr (.inl ⟨rfl, h⟩)
    · exact .inr (.inr ⟨rfl, h⟩)

theorem idRepeats_iff (p : List Byte) (np i : Nat) :
    idRepeats p np i = true ↔ ∃ j, j < i ∧ byteAt p (buttonAt np j) = byteAt p (buttonAt np i) := by
  simp [idRepeats]

theorem exists_mem_four {P : Nat → Prop} {a b c d : Nat} :
    (∃ v, v ∈ [a, b, c, d] ∧ P v) ↔ P a ∨ P b ∨ P c ∨ P d := by simp

/-- The bad fields of a button, one visual and one link after another. -/
theorem buttonBad_iff (owner : Owner) (p : List Byte) (a o : Nat) : buttonBad owner p a o ↔
    ((o = a + 2 ∨ o = a + 4) ∧ 4096 ≤ (halfAt p o).toNat) ∨
    (visualBad owner p (a + 6) o ∨ visualBad owner p (a + 9) o ∨ visualBad owner p (a + 12) o ∨
      visualBad owner p (a + 15) o) ∨
    (linkBad p (a + 18) o ∨ linkBad p (a + 20) o ∨ linkBad p (a + 22) o ∨ linkBad p (a + 24) o) ∨
    (o = a + 26 ∧ 8 ≤ (byteAt p o).toNat) ∨ (o = a + 27 ∧ 16 ≤ (byteAt p o).toNat) ∨
    (o = a + 28 ∧ (byteAt p o).toNat ∉ [8, 16, 32]) ∨ outcomeBad p (a + 29) o ∨ outcomeBad p (a + 39) o :=
  or_congr Iff.rfl (or_congr exists_mem_four (or_congr exists_mem_four Iff.rfl))

/-- The checks of a button fail at its bad fields, an id out of range or met before among them (R34). -/
theorem mem_buttonChecks (owner : Owner) (p : List Byte) (np i o : Nat) :
    (true, o) ∈ buttonChecks owner p np i ↔ buttonBad owner p (buttonAt np i) o ∨
      (o = buttonAt np i ∧
        (64 ≤ (byteAt p o).toNat ∨ ∃ j, j < i ∧ byteAt p (buttonAt np j) = byteAt p o)) := by
  rw [or_comm, buttonBad_iff]
  simp only [buttonChecks, List.mem_append, mem_visualChecks, mem_linkChecks, mem_testChecks, mem_pageActionChecks,
    List.mem_cons, List.not_mem_nil, or_false, failing_iff, Bool.or_eq_true, decide_eq_true_eq, idRepeats_iff,
    or_and_right, or_assoc]
  exact or_congr (and_congr_right fun e => by rw [e]) (or_congr (and_congr_right fun e => by rw [e])
    (or_congr (and_congr_right fun e => by rw [e]) Iff.rfl))

/-- The four one-byte fields of the fixed part that have a limit and no other rule. -/
theorem overLimit_iff (p : List Byte) (o : Nat) :
    (∃ limit, (o, limit) ∈ [(0, 32), (1, 2), (2, 8), (7, 64)] ∧ limit ≤ (byteAt p o).toNat) ↔
      (o = 0 ∧ 32 ≤ (byteAt p 0).toNat) ∨ (o = 1 ∧ 2 ≤ (byteAt p 1).toNat) ∨
      (o = 2 ∧ 8 ≤ (byteAt p 2).toNat) ∨ (o = 7 ∧ 64 ≤ (byteAt p 7).toNat) := by
  simp only [List.mem_cons, List.not_mem_nil, or_false, Prod.mk.injEq, or_and_right, exists_or, and_assoc,
    exists_and_left, exists_eq_left]
  exact or_congr (and_congr_right fun e => by rw [e]) (or_congr (and_congr_right fun e => by rw [e])
    (or_congr (and_congr_right fun e => by rw [e]) (and_congr_right fun e => by rw [e])))

theorem mem_pageFixedChecks (p : List Byte) (o : Nat) : (true, o) ∈ pageFixedChecks p ↔
    (∃ limit, (o, limit) ∈ [(0, 32), (1, 2), (2, 8), (7, 64)] ∧ limit ≤ (byteAt p o).toNat) ∨
    (o = 3 ∧ 64 ≤ (byteAt p 3).toNat ∧ byteAt p 3 ≠ 0xFF) ∨ outcomeBad p 10 o ∨ outcomeBad p 20 o ∨
    (o = 31 ∧ byteAt p 1 = 1 ∧ (byteAt p 31).toNat ≠ 0) := by
  have hcount : byteAt p 31 ≠ 0 ↔ (byteAt p 31).toNat ≠ 0 := not_congr BitVec.toNat_eq
  rw [overLimit_iff, ← hcount]
  simp only [pageFixedChecks, List.mem_append, mem_pageActionChecks, List.mem_cons, List.not_mem_nil, or_false,
    failing_iff, Bool.and_eq_true, decide_eq_true_eq, beq_iff_eq, bne_iff_ne]
  refine iff_of_eq ?_
  ac_rfl

/-- The checks of an accepted length fail at the bad fields (R34). -/
theorem mem_pageChecks (owner : Owner) (p : List Byte) (np nb o : Nat) (hnb : (byteAt p 31).toNat = nb) :
    (true, o) ∈ pageFixedChecks p ++ (List.range np).flatMap (placementChecks owner p) ++
      (List.range nb).flatMap (buttonChecks owner p np) ↔ pageBad owner p np nb o := by
  simp only [List.mem_append, List.mem_flatMap, List.mem_range, mem_pageFixedChecks, mem_placementChecks,
    mem_buttonChecks, hnb, or_assoc]
  rfl

/-! ### The checks stand in payload order (R34) -/

theorem risingChecks_pageActionChecks (p : List Byte) (a : Nat) :
    risingChecks a (a + 10) (pageActionChecks p a) := by
  simp only [pageActionChecks, risingChecks]
  omega

theorem risingChecks_visualChecks (owner : Owner) (p : List Byte) (v : Nat) :
    risingChecks v (v + 3) (visualChecks owner p v) := by
  unfold visualChecks
  split <;> simp only [risingChecks] <;> omega

theorem risingChecks_linkChecks (p : List Byte) (l : Nat) : risingChecks l (l + 2) (linkChecks p l) := by
  simp only [linkChecks, risingChecks]
  omega

theorem risingChecks_testChecks (p : List Byte) (a : Nat) : risingChecks a (a + 3) (testChecks p a) := by
  simp only [testChecks, risingChecks]
  omega

theorem risingChecks_placementChecks (owner : Owner) (p : List Byte) (i : Nat) :
    risingChecks (32 + 15 * i) (32 + 15 * (i + 1)) (placementChecks owner p i) := by
  simp only [placementChecks, placementAt, risingChecks]
  omega

theorem risingChecks_buttonChecks (owner : Owner) (p : List Byte) (np i : Nat) :
    risingChecks (32 + 15 * np + 49 * i) (32 + 15 * np + 49 * (i + 1)) (buttonChecks owner p np i) := by
  refine risingChecks_append (risingChecks_pageActionChecks p (buttonAt np i + 39)) ?_
  refine risingChecks_append (risingChecks_pageActionChecks p (buttonAt np i + 29)) ?_
  refine risingChecks_append (risingChecks_testChecks p (buttonAt np i + 26)) ?_
  refine risingChecks_append (risingChecks_linkChecks p (buttonAt np i + 24)) ?_
  refine risingChecks_append (risingChecks_linkChecks p (buttonAt np i + 22)) ?_
  refine risingChecks_append (risingChecks_linkChecks p (buttonAt np i + 20)) ?_
  refine risingChecks_append (risingChecks_linkChecks p (buttonAt np i + 18)) ?_
  refine risingChecks_append (risingChecks_visualChecks owner p (buttonAt np i + 15)) ?_
  refine risingChecks_append (risingChecks_visualChecks owner p (buttonAt np i + 12)) ?_
  refine risingChecks_append (risingChecks_visualChecks owner p (buttonAt np i + 9)) ?_
  refine risingChecks_append (risingChecks_visualChecks owner p (buttonAt np i + 6)) ?_
  simp only [buttonAt, risingChecks]
  omega

theorem risingChecks_pageFixedChecks (p : List Byte) : risingChecks 0 32 (pageFixedChecks p) := by
  unfold pageFixedChecks
  refine risingChecks_append (mid := 30) (by simp [risingChecks]) ?_
  refine risingChecks_append (risingChecks_pageActionChecks p 20) ?_
  refine risingChecks_append (risingChecks_pageActionChecks p 10) ?_
  simp [risingChecks]

theorem risingChecks_pageChecks (owner : Owner) (p : List Byte) (np nb : Nat) :
    risingChecks 0 (32 + 15 * np + 49 * nb) (pageFixedChecks p ++
      (List.range np).flatMap (placementChecks owner p) ++
      (List.range nb).flatMap (buttonChecks owner p np)) :=
  risingChecks_append (risingChecks_flatMap nb fun i _ => risingChecks_buttonChecks owner p np i)
    (risingChecks_append (risingChecks_flatMap np fun i _ => risingChecks_placementChecks owner p i)
      (risingChecks_pageFixedChecks p))

/-- The count limits are checked first, then the length, then every field in payload order (R34). -/
theorem pageFault_order (lane : Owner) (p : List Byte) :
    let np := (byteAt p 30).toNat
    let nb := (byteAt p 31).toNat
    (33 ≤ np → pageFault lane p = some (0x03, 30)) ∧
    (np ≤ 32 → 25 ≤ nb → pageFault lane p = some (0x03, 31)) ∧
    (np ≤ 32 → nb ≤ 24 → p.length ≠ 32 + 15 * np + 49 * nb → pageFault lane p = some (0x02, 0)) ∧
    (np ≤ 32 → nb ≤ 24 → p.length = 32 + 15 * np + 49 * nb →
      refusedAtFirst (pageBad lane p np nb) (pageFault lane p)) := by
  intro np nb
  have hnp (h : np ≤ 32) : ¬ 33 ≤ np := by omega
  have hnb (h : nb ≤ 24) : ¬ 25 ≤ nb := by omega
  refine ⟨fun h => if_pos h, fun h1 h2 => (if_neg (hnp h1)).trans (if_pos h2),
    fun h1 h2 hl => (if_neg (hnp h1)).trans ((if_neg (hnb h2)).trans (if_pos hl)), fun h1 h2 hl => ?_⟩
  rw [show pageFault lane p = _ from
    (if_neg (hnp h1)).trans ((if_neg (hnb h2)).trans (if_neg (not_not.2 hl)))]
  exact refusedAtFirst_firstFault (risingChecks_pageChecks lane p np nb) fun o => mem_pageChecks lane p np nb o rfl

end Sys2Proof.Machine

namespace Sys2Proof.Machine

open Sys2Proof

/-! ## The page image (R1, R37) -/

/-- Bytes read back as they were written, as long as their addresses do not wrap. -/
theorem Memory.readBytes_writeBytes (bs : List Byte) : ∀ (m : Memory) (a : Nat), m.wf = true →
    a + bs.length ≤ 2 ^ 25 → (m.writeBytes a bs).readBytes a bs.length = bs := by
  induction bs with
  | nil => exact fun _ _ _ _ => rfl
  | cons b bs ih =>
    intro m a hm ha
    rw [List.length_cons] at ha
    have hhead : (Memory.writeBytes (m.write (BitVec.ofNat 25 a) b) (a + 1) bs).read (BitVec.ofNat 25 a) = b := by
      rw [Memory.read_writeBytes_outside, Memory.read_write_same hm]
      intro i hi h
      have h := congrArg BitVec.toNat h
      simp only [BitVec.toNat_ofNat] at h
      omega
    change _ :: _ = _
    rw [Memory.writeBytes, hhead, ih _ (a + 1) (Memory.wf_write hm _ _) (by omega)]

/-- A page image ends inside the memory (R1). -/
theorem imageAddr_le (r : PageRef) : imageAddr r + 4096 ≤ 2 ^ 25 := by
  have := (pageIndex r).isLt
  simp only [imageAddr, imageBase]
  omega

/-! ## PAGE segments (R33 to R40) -/

theorem wholeSegment_page (lane : Owner) {p : List Byte} (s : State) (h32 : 32 ≤ p.length)
    (h4080 : p.length ≤ 4080) : wholeSegment lane kindPage p s = takePage lane p s := by
  have hjudged : headerFault lane kindPage p.length = none := by
    simp [headerFault, isKind, kindPalette, kindEdition, kindTime, kindPage, kindObject, kindMinimum,
      Nat.not_lt.2 h32, Nat.not_lt.2 h4080]
  simp only [wholeSegment, hjudged]
  simp [handSegment, kindPage, kindPalette, kindEdition, kindTime, kindObject]

theorem exec_page {s : State} (h : laneOpen s = true) (lane : Owner) {p : List Byte} (h32 : 32 ≤ p.length)
    (h4080 : p.length ≤ 4080) : exec (.page lane p) s = .next (takePage lane p s) := by
  simp only [exec, execPage, awake_arriveSegment h, wholeSegment_page lane s h32 h4080]

theorem takePage_refused {lane : Owner} {p : List Byte} {code : Byte} {detail : Nat}
    (h : pageFault lane p = some (code, detail)) (s : State) : takePage lane p s =
      segmentFaultNotice lane 0x12 code ((byteAt p 0).setWidth 16) detail s := by
  simp only [takePage, h]
  rfl

theorem takePage_accepted {lane : Owner} {p : List Byte} {id : Fin 32} (h : pageFault lane p = none)
    (hid : (byteAt p 0).toNat = id.val) (s : State) : takePage lane p s =
      deliverKeys (if (pageEntry ⟨lane, id⟩ s).defined then redefinePage ⟨lane, id⟩ p s
        else definePage ⟨lane, id⟩ p s) := by
  have hr : Fin.ofNat 32 (byteAt p 0).toNat = id := by simp [hid]
  simp only [takePage, h, hr]

/-- The payload stands in the page image and its kind and length in the directory (R37, R39, R40). -/
def pageStored (r : PageRef) (p : List Byte) (slot : Option (Fin 6)) (s : State) : State :=
  setPageEntry r ⟨true, (parsePage p).kind, p.length, false, slot⟩ (writeImage r p s)

theorem still_pageStored (r : PageRef) (p : List Byte) (slot : Option (Fin 6)) (s : State) :
    still (pageStored r p slot s) = still (pageStored r p none s) := by
  have hset : pageStored r p slot s = setPageEntry r ⟨true, (parsePage p).kind, p.length, false, slot⟩
      (pageStored r p none s) := by simp [pageStored, setPageEntry, State.setPages]
  rw [hset]
  exact still_setPageEntry _ r _ (by simp [pageStored, pageFacts])

theorem definePage_eq (r : PageRef) (p : List Byte) (s : State) : definePage r p s =
    if (parsePage p).autoShow = true ∧ (parsePage p).kind = .menu then autoShowPage r (pageStored r p none s)
    else pageStored r p none s := rfl

/-- The stored page has reached the exchange, and its held return selection is gone (R40, R59, R105). -/
def pageTold (r : PageRef) (p : List Byte) (s : State) : State :=
  dropReturnSel (fun x => x == r) (exchangeRedefined r (pageStored r p (pageEntry r s).slot s))

theorem pageKind_pageTold (r : PageRef) (p : List Byte) (s : State) :
    (pageEntry r (pageTold r p s)).kind = (parsePage p).kind := by
  have hstill : still (pageTold r p s) = still (pageStored r p (pageEntry r s).slot s) := by simp [pageTold]
  have hkind := congrArg PageEntry.kind (pageFacts_of_still hstill r)
  simpa [pageStored, pageFacts] using hkind

/-- A redefined page reaches the exchange, the stack and the show in this order (R40). -/
theorem redefinePage_eq (r : PageRef) (p : List Byte) (s : State) : redefinePage r p s =
    let standing := if (pageEntry r s).kind = (parsePage p).kind then pageTold r p s
      else removeEntry r (some 3) (pageTold r p s)
    sequencerPageChanged r (if ((parsePage p).autoShow = true ∧ (parsePage p).kind = .menu) ∧
      entryOf r standing = none then autoShowPage r standing else standing) := by
  have hstanding : stackRedefined r (pageEntry r s).kind (pageTold r p s) =
      if (pageEntry r s).kind = (parsePage p).kind then pageTold r p s
      else removeEntry r (some 3) (pageTold r p s) := by
    unfold stackRedefined
    rw [pageKind_pageTold]
    exact if_congr eq_comm rfl rfl
  dsimp only
  rw [← hstanding]
  simp only [and_assoc]
  rfl

/-- Outside the exchange, the stack, the navigation and the show an accepted page is stored and nothing else happens
(R37, R39, R40). -/
theorem still_takePage {lane : Owner} {p : List Byte} {id : Fin 32} (h : pageFault lane p = none)
    (hid : (byteAt p 0).toNat = id.val) (s : State) :
    still (takePage lane p s) = still (pageStored ⟨lane, id⟩ p none s) := by
  rw [takePage_accepted h hid, still_deliverKeys]
  split
  · rw [redefinePage_eq, ← still_pageStored _ p (pageEntry ⟨lane, id⟩ s).slot]
    dsimp only
    (repeat' split) <;> simp [pageTold]
  · rw [definePage_eq]
    split <;> simp

theorem mem_of_still {s t : State} (h : still t = still s) : t.mem = s.mem := by
  have hmem : (still t).mem = (still s).mem := congrArg State.mem h
  exact hmem

/-! ### AUTO_SHOW (R39, R68, R70) -/

theorem autoShowPage_room {r : PageRef} {s : State} (h : entryOf r s = none) (hroom : s.stack.entries.length < 5) :
    autoShowPage r s = addEntering r (topOfBand (menuBand r.owner) s) s := by
  simp [autoShowPage, showEntry, h, makeRoom, roomBy, hroom]

/-- A full stack cuts its oldest LEAVING entry for the page that is shown (R68). -/
theorem autoShowPage_cut {r : PageRef} {s : State} {y : Entry} (h : entryOf r s = none)
    (hfull : 5 ≤ s.stack.entries.length) (hy : oldestLeaving s = some y) :
    let u := removeEntry y.page (some hiddenCut) s
    autoShowPage r s = addEntering r (topOfBand (menuBand r.owner) u) u := by
  simp [autoShowPage, showEntry, h, makeRoom, roomBy, Nat.not_lt.2 hfull, hy]

theorem oldestLeaving_none {s : State} (h : ∀ y ∈ s.stack.entries, y.st ≠ .leaving) : oldestLeaving s = none := by
  have hnone : s.stack.entries.filter isLeaving = [] := by
    rw [List.filter_eq_nil_iff]
    exact fun y hy => by simpa [isLeaving] using h y hy
  simp only [oldestLeaving, hnone, List.find?_nil]

theorem autoShowPage_refused {r : PageRef} {s : State} (h : entryOf r s = none)
    (hfull : 5 ≤ s.stack.entries.length) (hnone : ∀ y ∈ s.stack.entries, y.st ≠ .leaving) :
    autoShowPage r s = post .outcomeFault (some r.owner) (some r.id) 0xFFFF 1 0 false s := by
  simp [autoShowPage, showEntry, h, makeRoom, roomBy, Nat.not_lt.2 hfull, oldestLeaving_none hnone, noIndex,
    outcomeStackFull]

theorem autoShowPage_entry {r : PageRef} {s : State} {e : Entry} (h : entryOf r s = some e) :
    autoShowPage r s = if e.st = .leaving then restoreEntry r s else s := by
  simp [autoShowPage, showEntry, h, isLeaving]

/-! ### The redefinition reaches the exchange (R40, R52, R59) -/

/-- The save of a page is abandoned: its slot goes to the incoming page, or is free where that has been cancelled
(R55, R59). -/
theorem abandonSave_eq (r : PageRef) (s : State) : abandonSave (fun x => x == r) s =
    match s.exch.current with
    | none => s
    | some x =>
      if x.stage = .save ∧ (slotAt x.slot s).page = some r then s.setExch { s.exch with
        slots := s.exch.slots.set x.slot
          (if x.cancelled = true then slotReset else { slotReset with st := .loading, page := some x.page })
        current := if x.cancelled = true then none else some { x with stage := .load } }
      else s := by
  unfold abandonSave
  cases s.exch.current with
  | none => rfl
  | some x =>
    have hvictim : (slotAt x.slot s).page.any (fun y => y == r) = true ↔ (slotAt x.slot s).page = some r := by
      cases (slotAt x.slot s).page <;> simp
    simp only [hvictim, leaveSave]
    refine if_congr Iff.rfl ?_ rfl
    cases hc : x.cancelled with
    | true => rfl
    | false => simp [startLoad, setSlot, loadingSlot, State.setExch, hc]

/-- The controller request for the page is cleared with what is held for it (R51, R104). -/
theorem dropControllerRequest_page (r : PageRef) (s : State) : dropControllerRequest (fun x => x == r) s =
    if s.exch.ctrlReq = some r then
      (s.setExch { s.exch with ctrlReq := none }).setNav { s.nav with heldEnables := [], heldSelect := none }
    else s := by
  unfold dropControllerRequest
  cases s.exch.ctrlReq with
  | none => rfl
  | some x => simp [dropHeld]

/-- The exchange once it has let go of a redefined page and taken up its next work (R52, R59). -/
def redefinedLeft (r : PageRef) (s : State) : State :=
  takeUp (dropControllerRequest (fun x => x == r) (abandonSave (fun x => x == r) s))

theorem exchangeRedefined_absent {r : PageRef} {s : State} (h : readySlot r (redefinedLeft r s) = none) :
    exchangeRedefined r s = redefinedLeft r s := by
  unfold redefinedLeft at h
  simp only [exchangeRedefined, h]
  rfl

theorem exchangeRedefined_resident {r : PageRef} {s : State} {k : Fin 6}
    (h : readySlot r (redefinedLeft r s) = some k) : exchangeRedefined r s =
      setSlot k { slotAt k (cancelActivation k (redefinedLeft r s)) with st := .loading }
        (cancelActivation k (redefinedLeft r s)) := by
  unfold redefinedLeft at h
  simp only [exchangeRedefined, h]
  rfl

theorem slotAt_cancelActivation_ne {j k : Fin 6} (h : j ≠ k) (u : State) :
    slotAt j (cancelActivation k u) = slotAt j u := by
  unfold cancelActivation
  dsimp only
  split
  · rfl
  · exact slotAt_setSlot_ne h _ _

theorem readySlot_st {r : PageRef} {u : State} {k : Fin 6} (h : readySlot r u = some k) : (slotAt k u).st = .ready := by
  unfold readySlot at h
  split at h
  · contradiction
  · split at h
    case isTrue hready => exact Option.some.inj h ▸ hready
    case isFalse => contradiction

/-- Only the READY slot of a redefined page changes once the exchange has let go of it (R59). -/
theorem exchangeRedefined_keeps (r : PageRef) (s : State) :
    (exchangeRedefined r s).exch.queue = (redefinedLeft r s).exch.queue ∧
    (exchangeRedefined r s).exch.current = (redefinedLeft r s).exch.current ∧
    (exchangeRedefined r s).pages = (redefinedLeft r s).pages ∧
    ∀ j, readySlot r (redefinedLeft r s) ≠ some j →
      slotAt j (exchangeRedefined r s) = slotAt j (redefinedLeft r s) := by
  cases h : readySlot r (redefinedLeft r s) with
  | none =>
    rw [exchangeRedefined_absent h]
    exact ⟨rfl, rfl, rfl, fun _ _ => rfl⟩
  | some k =>
    obtain ⟨hqueue, hcurrent, -, hpages⟩ := cancelActivation_exch k (redefinedLeft r s)
    rw [exchangeRedefined_resident h]
    refine ⟨hqueue, hcurrent, hpages, fun j hj => ?_⟩
    have hne : j ≠ k := fun e => hj (congrArg some e.symm)
    rw [slotAt_setSlot_ne hne, slotAt_cancelActivation_ne hne]

/-- An exchange in progress that does not save the page goes on; the controller request for the page goes (R59). -/
theorem redefinedLeft_busy {r : PageRef} {s : State} {x : Transfer} (hx : s.exch.current = some x)
    (hsave : ¬ (x.stage = .save ∧ (slotAt x.slot s).page = some r)) : redefinedLeft r s =
      (s.setExch { s.exch with
        ctrlReq := if s.exch.ctrlReq.any (fun y => y == r) = true then none else s.exch.ctrlReq }).setNav
          (heldWithout (fun y => y == r) s) := by
  have hkept : abandonSave (fun y => y == r) s = s := by
    rw [abandonSave_eq, hx]
    exact if_neg hsave
  unfold redefinedLeft
  rw [hkept, dropControllerRequest_eq]
  exact takeUp_busy (x := x) hx

/-- A queued request, an incoming page and a slot that loads stay (R59). -/
theorem exchangeRedefined_busy {r : PageRef} {s : State} {x : Transfer} (hx : s.exch.current = some x)
    (hsave : ¬ (x.stage = .save ∧ (slotAt x.slot s).page = some r)) :
    (exchangeRedefined r s).exch.queue = s.exch.queue ∧ (exchangeRedefined r s).exch.current = some x ∧
    (exchangeRedefined r s).pages = s.pages ∧
    ∀ j, readySlot r s ≠ some j → slotAt j (exchangeRedefined r s) = slotAt j s := by
  obtain ⟨hqueue, hcurrent, hpages, hslot⟩ := exchangeRedefined_keeps r s
  rw [redefinedLeft_busy hx hsave] at hqueue hcurrent hpages hslot
  exact ⟨hqueue, hcurrent.trans hx, hpages, hslot⟩

/-- The save of the page abandoned, its controller request cleared, the next work taken up, over the state before (R52,
R59). -/
theorem redefinedLeft_eq (r : PageRef) (s : State) : redefinedLeft r s =
    let saveGone := match s.exch.current with
      | none => s
      | some x =>
        if x.stage = .save ∧ (slotAt x.slot s).page = some r then s.setExch { s.exch with
          slots := s.exch.slots.set x.slot
            (if x.cancelled = true then slotReset else { slotReset with st := .loading, page := some x.page })
          current := if x.cancelled = true then none else some { x with stage := .load } }
        else s
    takeUp (if s.exch.ctrlReq = some r then
        (saveGone.setExch { saveGone.exch with ctrlReq := none }).setNav
          { s.nav with heldEnables := [], heldSelect := none }
      else saveGone) := by
  have hrest : (abandonSave (fun x => x == r) s).exch.ctrlReq = s.exch.ctrlReq ∧
      (abandonSave (fun x => x == r) s).nav = s.nav := by
    rw [abandonSave_eq]
    (repeat' split) <;> exact ⟨rfl, rfl⟩
  unfold redefinedLeft
  rw [dropControllerRequest_page, hrest.1, hrest.2, abandonSave_eq]

/-- Settles O18: the checks, the definition or redefinition, AUTO_SHOW, and what reaches the exchange. -/
theorem pageSegmentDefinesAPage : Obligations.PageSegmentDefinesAPage := by
  refine ⟨pageFault_order, fun lane p s hs h32 h4080 => ⟨fun code detail hfault => ?_, fun id hfault hid => ?_⟩,
    fun s r => ⟨autoShowPage_room, fun y => autoShowPage_cut, autoShowPage_refused, fun e => autoShowPage_entry⟩,
    fun s r => ?_⟩
  · rw [exec_page hs lane h32 h4080, takePage_refused hfault]
  · rw [exec_page hs lane h32 h4080]
    have hstill := still_takePage hfault hid s
    refine ⟨⟨_, rfl, hstill, fun hm => ?_⟩, fun hnew => ?_, fun hdefined => ?_⟩
    · rw [mem_of_still hstill]
      exact Memory.readBytes_writeBytes p s.mem _ hm (by have := imageAddr_le ⟨lane, id⟩; omega)
    · rw [takePage_accepted hfault hid, hnew, definePage_eq]
      rfl
    · rw [takePage_accepted hfault hid, hdefined, redefinePage_eq]
      rfl
  · intro saveGone u
    have hu : redefinedLeft r s = u := redefinedLeft_eq r s
    rw [← hu]
    refine ⟨exchangeRedefined_absent, fun k => exchangeRedefined_resident, fun x hx hsave => ?_⟩
    obtain ⟨hqueue, hcurrent, hpages, hslot⟩ := exchangeRedefined_busy hx hsave
    refine ⟨hqueue, hcurrent, hpages, fun hother => hslot x.slot ?_, fun k hloading => hslot k fun hready => ?_⟩
    · exact (hother x.slot).resolve_right fun hne => hne rfl
    · rw [readySlot_st hready] at hloading
      contradiction

end Sys2Proof.Machine

namespace Sys2Proof.Machine

open Sys2Proof

/-! ## The exchange queue stays sound: what the exchange itself does (R48 to R54) -/

/-- The queue and the exchange in progress decide. -/
theorem queueSound_congr {s t : State} (hqueue : t.exch.queue = s.exch.queue)
    (hcurrent : t.exch.current = s.exch.current) :
    queueSound t ↔ queueSound s := by
  unfold queueSound
  rw [hqueue, hcurrent]

/-- Requests that leave, or change their requesters and keep one, and an exchange that ends or keeps its incoming page
leave the queue sound. -/
theorem queueSound.narrow {s t : State} (h : queueSound s)
    (hpages : (t.exch.queue.map Request.page).Sublist (s.exch.queue.map Request.page))
    (hasked : ∀ q ∈ t.exch.queue, (q.byStack || q.bySequencer) = true)
    (hcurrent : ∀ x, t.exch.current = some x → ∃ y, s.exch.current = some y ∧ y.page = x.page) : queueSound t := by
  obtain ⟨hnodup, -, hincoming⟩ := h
  refine ⟨hnodup.sublist hpages, hasked, fun x hx q hq => ?_⟩
  obtain ⟨y, hy, hyx⟩ := hcurrent x hx
  obtain ⟨q', hq', hpage⟩ := List.mem_map.1 (hpages.subset (List.mem_map_of_mem hq))
  rw [← hpage, ← hyx]
  exact hincoming y hy q' hq'

/-- The same where requests only leave. -/
theorem queueSound.sublist {s t : State} (h : queueSound s) (hqueue : t.exch.queue.Sublist s.exch.queue)
    (hcurrent : ∀ x, t.exch.current = some x → ∃ y, s.exch.current = some y ∧ y.page = x.page) : queueSound t :=
  h.narrow (hqueue.map _) (fun q hq => h.2.1 q (hqueue.subset hq)) hcurrent

/-- The exchange of a page that is not queued begins (R54). -/
theorem queueSound.start {s : State} (h : queueSound s) {p : PageRef}
    (hp : ∀ q ∈ s.exch.queue, q.page ≠ p) (k : Fin 6) : queueSound (startExchange p k s) := by
  have hstart := started_startExchange p k s
  obtain ⟨x, hx, hxp, -⟩ := hstart.current
  obtain ⟨hnodup, hasked, -⟩ := h
  refine ⟨hstart.queue ▸ hnodup, hstart.queue ▸ hasked, fun y hy => ?_⟩
  cases hx.symm.trans hy
  rw [hstart.queue, hxp]
  exact hp

theorem queueSound_takeControllerRequest {s : State} (h : queueSound s) (hempty : s.exch.queue = []) :
    queueSound (takeControllerRequest s) := by
  unfold takeControllerRequest
  (repeat' split)
  · exact h
  · exact h
  · exact h
  · exact h.start (by simp [hempty]) _

/-- Requests are taken from the head: what is left names neither what was served nor the page that begins (R52). -/
theorem queueSound_takeRequests (qs : List Request) : ∀ {s : State}, s.exch.queue = qs → s.exch.current = none →
    queueSound s → queueSound (takeRequests qs s) := by
  induction qs with
  | nil => exact fun hq _ h => queueSound_takeControllerRequest h hq
  | cons q qs ih =>
    intro s hq hidle h
    have htail : queueSound (s.setExch { s.exch with queue := qs }) :=
      h.sublist (hq ▸ List.sublist_cons_self q qs) fun x hx => by simp [hidle] at hx
    unfold takeRequests
    (repeat' split)
    · exact ih rfl hidle htail
    · exact h
    · refine htail.start (fun q' hq' e => ?_) _
      have hnodup := h.1
      rw [hq, List.map_cons, List.nodup_cons] at hnodup
      exact hnodup.1 (e ▸ List.mem_map_of_mem hq')

section QueueSound

variable {s : State}

@[simp] theorem queueSound_takeUp (h : queueSound s) : queueSound (takeUp s) := by
  unfold takeUp
  split
  · exact h
  · rename_i hidle
    exact queueSound_takeRequests _ rfl hidle h

theorem addRequester_page (w : Requester) (q : Request) : (addRequester w q).page = q.page := by cases w <;> rfl

theorem addRequester_asked (w : Requester) (q : Request) :
    ((addRequester w q).byStack || (addRequester w q).bySequencer) = true := by cases w <;> simp [addRequester]

/-- Requesters that join or leave bring no page into the queue. -/
theorem pages_sublist_map {f : Request → Request} (hf : ∀ q, (f q).page = q.page) (l : List Request) :
    ((l.map f).map Request.page).Sublist (l.map Request.page) := by
  have hsame : (l.map f).map Request.page = l.map Request.page := by
    rw [List.map_map]
    exact List.map_congr_left fun q _ => hf q
  rw [hsame]

@[simp] theorem queueSound_requestPage (w : Requester) (r : PageRef) (h : queueSound s) :
    queueSound (requestPage w r s) := by
  obtain ⟨hnodup, hasked, hincoming⟩ := h
  have h : queueSound s := ⟨hnodup, hasked, hincoming⟩
  unfold requestPage
  split
  · exact h
  split
  · refine h.narrow (pages_sublist_map (fun q => ?_) _) (fun q hq => ?_) fun x hx => ⟨x, hx, rfl⟩
    · split
      · exact addRequester_page w q
      · rfl
    · obtain ⟨q', hq', rfl⟩ := List.mem_map.1 hq
      split
      · exact addRequester_asked w q'
      · exact hasked q' hq'
  split
  · exact h
  · rename_i hnew hother
    have hnew : ∀ q ∈ s.exch.queue, q.page ≠ r := by simpa using hnew
    refine queueSound_takeUp ⟨?_, fun q hq => ?_, fun x hx q hq => ?_⟩
    · rw [State.setExch_exch, List.map_append, List.nodup_append]
      refine ⟨hnodup, by simp, fun p hp p' hp' => ?_⟩
      obtain ⟨q, hq, rfl⟩ := List.mem_map.1 hp
      rw [List.map_singleton, List.mem_singleton, addRequester_page] at hp'
      exact hp' ▸ hnew q hq
    · rcases List.mem_append.1 hq with hq | hq
      · exact hasked q hq
      · rw [List.mem_singleton.1 hq]
        exact addRequester_asked w _
    · rcases List.mem_append.1 hq with hq | hq
      · exact hincoming x hx q hq
      · rw [List.mem_singleton.1 hq, addRequester_page]
        have hx : s.exch.current = some x := hx
        have hne : x.page ≠ r := by simpa [isIncoming, hx] using hother
        exact hne.symm

@[simp] theorem queueSound_withdrawRequest (w : Requester) (r : PageRef) (h : queueSound s) :
    queueSound (withdrawRequest w r s) := by
  refine h.narrow (((List.filter_sublist).map _).trans (pages_sublist_map (fun q => ?_) _))
    (fun q hq => (List.mem_filter.1 hq).2) fun x hx => ⟨x, hx, rfl⟩
  split
  · exact dropRequester_page w q
  · rfl

end QueueSound

end Sys2Proof.Machine

namespace Sys2Proof.Machine

open Sys2Proof

/-! ## The exchange queue stays sound: the interactive blocks (R48)

Most of their operations reach the exchange through a changed stack or a changed wish of the show, so each says once
that it leaves the queue sound, in the order of the model: `↔` where it leaves queue and current exchange alone. -/

section QueueKept

variable {s : State}

/-! ### Single updates -/

@[simp] theorem queueSound_setStream (v : StreamPort) : queueSound (s.setStream v) ↔ queueSound s := Iff.rfl
@[simp] theorem queueSound_setRelay (v : Relay) : queueSound (s.setRelay v) ↔ queueSound s := Iff.rfl
@[simp] theorem queueSound_setPages (v : Vector PageEntry 64) : queueSound (s.setPages v) ↔ queueSound s := Iff.rfl
@[simp] theorem queueSound_setStack (v : PageStack) : queueSound (s.setStack v) ↔ queueSound s := Iff.rfl
@[simp] theorem queueSound_setNav (v : Navigation) : queueSound (s.setNav v) ↔ queueSound s := Iff.rfl
@[simp] theorem queueSound_setSeqr (v : Sequencer) : queueSound (s.setSeqr v) ↔ queueSound s := Iff.rfl
@[simp] theorem queueSound_setCues (v : CueUnit) : queueSound (s.setCues v) ↔ queueSound s := Iff.rfl
@[simp] theorem queueSound_setLink (v : Link) : queueSound (s.setLink v) ↔ queueSound s := Iff.rfl
@[simp] theorem queueSound_setPending (v : List Instr) : queueSound (s.setPending v) ↔ queueSound s := Iff.rfl
@[simp] theorem queueSound_setSlot (k : Fin 6) (v : Slot) : queueSound (setSlot k v s) ↔ queueSound s := Iff.rfl
@[simp] theorem queueSound_setPageEntry (r : PageRef) (e : PageEntry) :
    queueSound (setPageEntry r e s) ↔ queueSound s := Iff.rfl
@[simp] theorem queueSound_setEntries (es : List Entry) : queueSound (setEntries es s) ↔ queueSound s := Iff.rfl
@[simp] theorem queueSound_updateSeq (f : Sequencer → Sequencer) : queueSound (updateSeq f s) ↔ queueSound s := Iff.rfl
@[simp] theorem queueSound_withConditions (f : Conditions → Conditions) :
    queueSound (withConditions f s) ↔ queueSound s := Iff.rfl
@[simp] theorem queueSound_raiseRecompose : queueSound (raiseRecompose s) ↔ queueSound s := Iff.rfl

@[simp] theorem queueSound_post (kind : NoticeKind) (owner : Option Owner) (page : Option (Fin 32)) (index code : Half)
    (detail : Word) (flag : Bool) : queueSound (post kind owner page index code detail flag s) ↔ queueSound s := by
  rw [post_eq_setLink]
  exact Iff.rfl

theorem queueSound_foldl {α : Type} (f : State → α → State) (hf : ∀ t a, queueSound t → queueSound (f t a))
    (l : List α) (h : queueSound s) : queueSound (l.foldl f s) := by
  induction l generalizing s with
  | nil => exact h
  | cons a l ih => exact ih (hf s a h)

/-! ### Buttons -/

@[simp] theorem queueSound_markDirty (k : Fin 6) : queueSound (markDirty k s) ↔ queueSound s := by
  simp only [markDirty]
  (repeat' split) <;> simp

@[simp] theorem queueSound_commitButtons (k : Fin 6) (sl : Slot) :
    queueSound (commitButtons k sl s) ↔ queueSound s := by
  simp [commitButtons]

@[simp] theorem queueSound_becomeSelection (k : Fin 6) (c : Nat) :
    queueSound (becomeSelection k c s) ↔ queueSound s := by
  simp only [becomeSelection]
  (repeat' split) <;> simp

@[simp] theorem queueSound_applyDefault (k : Fin 6) : queueSound (applyDefault k s) ↔ queueSound s := by
  simp only [applyDefault]
  (repeat' split) <;> simp

@[simp] theorem queueSound_selectButton (k : Fin 6) (id : Byte) :
    queueSound (selectButton k id s) ↔ queueSound s := by
  simp only [selectButton]
  (repeat' split) <;> simp

@[simp] theorem queueSound_selectIfEnabled (k : Fin 6) (id : Byte) :
    queueSound (selectIfEnabled k id s) ↔ queueSound s := by
  simp only [selectIfEnabled]
  (repeat' split) <;> simp

@[simp] theorem queueSound_enableButton (k : Fin 6) (i : Nat) : queueSound (enableButton k i s) ↔ queueSound s := by
  simp only [enableButton]
  (repeat' split) <;> simp

@[simp] theorem queueSound_disableButton (k : Fin 6) (i : Nat) : queueSound (disableButton k i s) ↔ queueSound s := by
  simp only [disableButton]
  (repeat' split) <;> simp

@[simp] theorem queueSound_changeEnable (k : Fin 6) (i : Nat) (enable : Bool) :
    queueSound (changeEnable k i enable s) ↔ queueSound s := by
  simp only [changeEnable]
  (repeat' split) <;> simp

@[simp] theorem queueSound_cancelActivation (k : Fin 6) : queueSound (cancelActivation k s) ↔ queueSound s := by
  simp only [cancelActivation]
  (repeat' split) <;> simp

@[simp] theorem queueSound_activateButton (k : Fin 6) (i : Nat) :
    queueSound (activateButton k i s) ↔ queueSound s := by
  simp only [activateButton]
  (repeat' split) <;> simp

/-! ### Page Exchange -/

@[simp] theorem queueSound_dropHeld : queueSound (dropHeld s) ↔ queueSound s := by
  simp [dropHeld]

theorem queueSound_dropControllerRequest (test : PageRef → Bool) :
    queueSound (dropControllerRequest test s) ↔ queueSound s := by
  rw [dropControllerRequest_eq]
  exact Iff.rfl

/-- A save that ends leaves its incoming page to be loaded, or nothing (R55). -/
theorem queueSound_leaveSave {x y : Transfer} (hx : s.exch.current = some y) (hpage : y.page = x.page)
    (h : queueSound s) : queueSound (leaveSave x s) := by
  unfold leaveSave
  split
  · exact h.sublist (List.Sublist.refl _) fun _ hz => by cases hz
  · refine h.sublist (List.Sublist.refl _) fun z hz => ⟨y, hx, ?_⟩
    cases hz
    exact hpage

theorem queueSound_abandonSave (test : PageRef → Bool) (h : queueSound s) : queueSound (abandonSave test s) := by
  unfold abandonSave
  split
  · exact h
  · rename_i x hx
    split
    · exact queueSound_leaveSave hx rfl h
    · exact h

theorem queueSound_exchangeRedefined (r : PageRef) (h : queueSound s) : queueSound (exchangeRedefined r s) := by
  obtain ⟨hqueue, hcurrent, -⟩ := exchangeRedefined_keeps r s
  rw [queueSound_congr hqueue hcurrent]
  exact queueSound_takeUp ((queueSound_dropControllerRequest _).2 (queueSound_abandonSave _ h))

/-- The pages that go leave the queue, and no incoming page comes (R60, R61). -/
theorem queueSound_exchangeDrop (test : PageRef → Bool) (h : queueSound s) : queueSound (exchangeDrop test s) := by
  have hqueue := (exchangeDrop_requests test s).1
  refine h.sublist (by rw [hqueue]; exact List.filter_sublist) fun x hx => ?_
  rcases exchangeDrop_current_kinds test s with hnone | ⟨y, y', hy, hy', -, hpage, -⟩
  · cases hnone.symm.trans hx
  · cases hy'.symm.trans hx
    exact ⟨y, hy, hpage.symm⟩

/-! ### Page Stack -/

@[simp] theorem queueSound_pageNotice (kind : NoticeKind) (r : PageRef) (pos : Nat) (code : Half) :
    queueSound (pageNotice kind r pos code s) ↔ queueSound s := by
  simp [pageNotice]

@[simp] theorem queueSound_cancelUnlessFocus (k : Fin 6) (h : queueSound s) :
    queueSound (cancelUnlessFocus s k) := by
  simp only [cancelUnlessFocus]
  (repeat' split) <;> simp [h]

@[simp] theorem queueSound_handOn (h : queueSound s) : queueSound (handOn s) := by
  unfold handOn
  rw [queueSound_raiseRecompose]
  exact queueSound_foldl _ (fun _ k ht => queueSound_cancelUnlessFocus k ht) _ h

@[simp] theorem queueSound_insertEntry (i : Nat) (e : Entry) (h : queueSound s) : queueSound (insertEntry i e s) := by
  simp [insertEntry, h]

@[simp] theorem queueSound_dropReturnSel (test : PageRef → Bool) :
    queueSound (dropReturnSel test s) ↔ queueSound s := by
  simp [dropReturnSel]

@[simp] theorem queueSound_detachEntry (r : PageRef) (code : Option Half) (h : queueSound s) :
    queueSound (detachEntry r code s) := by
  simp only [detachEntry]
  (repeat' split) <;> simp [h]

@[simp] theorem queueSound_removeEntry (r : PageRef) (code : Option Half) (h : queueSound s) :
    queueSound (removeEntry r code s) := by
  have hdetached := queueSound_detachEntry r code h
  simp only [removeEntry]
  (repeat' split) <;> simp [h, hdetached]

@[simp] theorem queueSound_changeEntry (r : PageRef) (f : Entry → Entry) (h : queueSound s) :
    queueSound (changeEntry r f s) := by
  simp [changeEntry, h]

@[simp] theorem queueSound_turnShown (r : PageRef) (code : Half) (h : queueSound s) :
    queueSound (turnShown r code s) := by
  simp [turnShown, h]

@[simp] theorem queueSound_addEntering (r : PageRef) (i : Nat) (h : queueSound s) :
    queueSound (addEntering r i s) := by
  simp only [addEntering]
  (repeat' split) <;> simp [h]

theorem queueSound_roomBy {cut : PageRef → State → State} (hcut : ∀ r, queueSound (cut r s)) {t : State}
    (h : queueSound s) (ht : roomBy cut s = some t) : queueSound t := by
  unfold roomBy at ht
  split at ht
  · cases ht; exact h
  · obtain ⟨e, -, rfl⟩ := Option.map_eq_some_iff.1 ht
    exact hcut e.page

theorem queueSound_makeRoom {t : State} (h : queueSound s) (ht : makeRoom s = some t) : queueSound t :=
  queueSound_roomBy (fun r => queueSound_removeEntry r _ h) h ht

@[simp] theorem queueSound_restoreEntry (r : PageRef) (h : queueSound s) : queueSound (restoreEntry r s) := by
  simp only [restoreEntry]
  (repeat' split) <;> simp [h]

theorem queueSound_showEntry {r : PageRef} {t : State} (h : queueSound s) (ht : showEntry r s = some t) :
    queueSound t := by
  unfold showEntry at ht
  split at ht
  · obtain ⟨u, hu, rfl⟩ := Option.map_eq_some_iff.1 ht
    simp [queueSound_makeRoom h hu]
  · cases ht; split <;> simp [h]

@[simp] theorem queueSound_startLeaving (r : PageRef) (h : queueSound s) : queueSound (startLeaving r s) := by
  simp only [startLeaving]
  (repeat' split) <;> simp [h]

@[simp] theorem queueSound_hideBandEntries (o : Owner) (h : queueSound s) : queueSound (hideBandEntries o s) :=
  queueSound_foldl _ (fun _ r ht => queueSound_startLeaving r ht) _ h

@[simp] theorem queueSound_replaceBy (acting target : PageRef) (h : queueSound s) :
    queueSound (replaceBy acting target s) := by
  simp only [replaceBy]
  split
  · split
    · simp [h]
    · rename_i hroom
      simp [queueSound_makeRoom (queueSound_startLeaving acting h) hroom]
  · split <;> simp [h]

@[simp] theorem queueSound_gotoPage (acting target : PageRef) (h : queueSound s) :
    queueSound (gotoPage acting target s) := by
  simp only [gotoPage]
  (repeat' split) <;> simp [h]

@[simp] theorem queueSound_setFrames (o : Owner) (fs : List Frame) : queueSound (setFrames o fs s) ↔ queueSound s := by
  cases o <;> exact Iff.rfl

@[simp] theorem queueSound_pushFrame (o : Owner) (f : Frame) : queueSound (pushFrame o f s) ↔ queueSound s := by
  simp only [pushFrame]
  (repeat' split) <;> simp

theorem queueSound_callPage {acting target : PageRef} {t : State} (h : queueSound s)
    (ht : callPage acting target s = some t) : queueSound t := by
  simp only [callPage] at ht
  split at ht
  · cases ht; exact h
  · split at ht
    · obtain ⟨u, hu, rfl⟩ := Option.map_eq_some_iff.1 ht
      simp [queueSound_makeRoom h hu]
    · cases ht; split <;> simp [h]

theorem queueSound_showCalling {r : PageRef} {t : State} (h : queueSound s) (ht : showCalling r s = some t) :
    queueSound t := by
  simp only [showCalling] at ht
  split at ht
  · exact queueSound_showEntry h ht
  · obtain ⟨u, hu, rfl⟩ := Option.map_eq_some_iff.1 ht
    refine queueSound_addEntering _ _ ?_
    split <;> simp [queueSound_makeRoom h hu]

@[simp] theorem queueSound_giveReturnSel (r : PageRef) (b : Byte) :
    queueSound (giveReturnSel r b s) ↔ queueSound s := by
  simp only [giveReturnSel]
  (repeat' split) <;> simp

@[simp] theorem queueSound_returnFrom (acting : PageRef) (h : queueSound s) : queueSound (returnFrom acting s) := by
  simp only [returnFrom]
  (repeat' split) <;> simp [h]

@[simp] theorem queueSound_removeBeforeSlide (r : PageRef) (code : Half) (h : queueSound s) :
    queueSound (removeBeforeSlide r code s) := by
  simp only [removeBeforeSlide]
  (repeat' split) <;> simp [h]

theorem queueSound_slideRoom {t : State} (h : queueSound s) (ht : slideRoom s = some t) : queueSound t :=
  queueSound_roomBy (fun r => queueSound_removeBeforeSlide r _ h) h ht

@[simp] theorem queueSound_insertSlide (i : Nat) (e : Entry) (h : queueSound s) : queueSound (insertSlide i e s) := by
  simp [insertSlide, h]

theorem queueSound_addSlide {r : PageRef} {t : State} (h : queueSound s) (ht : addSlide r s = some t) :
    queueSound t := by
  obtain ⟨u, hu, rfl⟩ := Option.map_eq_some_iff.1 ht
  simp [queueSound_slideRoom h hu]

theorem queueSound_addIncoming {current r : PageRef} {t : State} (h : queueSound s)
    (ht : addIncoming current r s = some t) : queueSound t := by
  obtain ⟨u, hu, rfl⟩ := Option.map_eq_some_iff.1 ht
  simp [queueSound_slideRoom h hu]

@[simp] theorem queueSound_endSlideTransition (outgoing incoming : PageRef) (h : queueSound s) :
    queueSound (endSlideTransition outgoing incoming s) := by
  simp only [endSlideTransition]
  (repeat' split) <;> simp [h]

@[simp] theorem queueSound_renewSlide (r : PageRef) (h : queueSound s) : queueSound (renewSlide r s) := by
  simp [renewSlide, h]

@[simp] theorem queueSound_emptySlideBand (silent : Bool) (h : queueSound s) : queueSound (emptySlideBand silent s) :=
  queueSound_foldl _ (fun _ r ht => queueSound_removeEntry r _ ht) _ h

@[simp] theorem queueSound_examineEntry (r : PageRef) (h : queueSound s) : queueSound (examineEntry s r) := by
  simp only [examineEntry]
  (repeat' split) <;> simp [h]

@[simp] theorem queueSound_stackField (h : queueSound s) : queueSound (stackField s) :=
  queueSound_foldl _ (fun _ r ht => queueSound_examineEntry r ht) _ h

@[simp] theorem queueSound_stackLoaded (r : PageRef) (h : queueSound s) : queueSound (stackLoaded r s) := by
  simp only [stackLoaded]
  (repeat' split) <;> simp [h]

@[simp] theorem queueSound_eraseStack (o : Owner) (h : queueSound s) : queueSound (eraseStack o s) :=
  queueSound_foldl _ (fun _ r ht => queueSound_removeEntry r _ ht) _ ((queueSound_setFrames o []).2 h)

/-! ### Slide Sequencer -/

@[simp] theorem queueSound_seqNotice (kind : NoticeKind) (page : Option PageRef) (code : Half) :
    queueSound (seqNotice kind page code s) ↔ queueSound s := by
  simp [seqNotice]

@[simp] theorem queueSound_wantPage (r : PageRef) (h : queueSound s) : queueSound (wantPage r s) := by
  simp only [wantPage]
  (repeat' split) <;> simp [h]

@[simp] theorem queueSound_wantNone (h : queueSound s) : queueSound (wantNone s) := by
  simp only [wantNone]
  (repeat' split) <;> simp [h]

@[simp] theorem queueSound_prefetch (h : queueSound s) : queueSound (prefetch s) := by
  simp only [prefetch]
  (repeat' split) <;> simp [h]

@[simp] theorem queueSound_completeAdvance (code : Half) (h : queueSound s) :
    queueSound (completeAdvance code s) := by
  simp [completeAdvance, h]

@[simp] theorem queueSound_bringInFull (r : PageRef) (h : queueSound s) : queueSound (bringInFull r s) := by
  unfold bringInFull
  split
  · exact h
  · rename_i ht
    simp [queueSound_addSlide h ht]

@[simp] theorem queueSound_cutTo (shown r : PageRef) (h : queueSound s) : queueSound (cutTo shown r s) := by
  simp [cutTo, h]

@[simp] theorem queueSound_startTransition (shown r : PageRef) (e : SlideEntry) (h : queueSound s) :
    queueSound (startTransition shown r e s) := by
  unfold startTransition
  split
  · simp [h]
  · split
    · simp [h]
    · rename_i ht
      simp [queueSound_addIncoming h ht]

@[simp] theorem queueSound_tryBringIn (h : queueSound s) : queueSound (tryBringIn s) := by
  simp only [tryBringIn]
  (repeat' split) <;> simp [h]

@[simp] theorem queueSound_moveTo (j : Nat) (back : Bool) (h : queueSound s) : queueSound (moveTo j back s) := by
  simp only [moveTo]
  (repeat' split) <;> simp [h]

@[simp] theorem queueSound_resetSeq : queueSound (resetSeq s) ↔ queueSound s := Iff.rfl

@[simp] theorem queueSound_stopShow (reason : Half) (h : queueSound s) : queueSound (stopShow reason s) := by
  simp [stopShow, h]

@[simp] theorem queueSound_searchMove (back : Bool) (h : queueSound s) : queueSound (searchMove back s) := by
  simp only [searchMove]
  (repeat' split) <;> simp [h]

@[simp] theorem queueSound_endTransition (h : queueSound s) : queueSound (endTransition s) := by
  simp only [endTransition]
  (repeat' split) <;> simp [h]

@[simp] theorem queueSound_stepSettled (back : Bool) (h : queueSound s) : queueSound (stepSettled back s) := by
  simp only [stepSettled]
  (repeat' split) <;> simp [h]

@[simp] theorem queueSound_stepShow (back : Bool) (h : queueSound s) : queueSound (stepShow back s) := by
  simp only [stepShow]
  (repeat' split) <;> simp [h]

@[simp] theorem queueSound_pauseShow : queueSound (pauseShow s) ↔ queueSound s := by
  simp only [pauseShow]
  (repeat' split) <;> simp

@[simp] theorem queueSound_resumeShow : queueSound (resumeShow s) ↔ queueSound s := by
  simp only [resumeShow]
  (repeat' split) <;> simp

@[simp] theorem queueSound_togglePause : queueSound (togglePause s) ↔ queueSound s := by
  simp only [togglePause]
  (repeat' split) <;> simp

@[simp] theorem queueSound_slideOperation (op : Nat) (h : queueSound s) : queueSound (slideOperation op s) := by
  simp only [slideOperation]
  (repeat' split) <;> simp [h]

@[simp] theorem queueSound_countSlideHold (h : queueSound s) : queueSound (countSlideHold s) := by
  simp only [countSlideHold]
  (repeat' split) <;> simp [h]

@[simp] theorem queueSound_waitField (h : queueSound s) : queueSound (waitField s) := by
  simp only [waitField]
  (repeat' split) <;> simp [h]

@[simp] theorem queueSound_sequencerField (h : queueSound s) : queueSound (sequencerField s) := by
  simp only [sequencerField]
  (repeat' split) <;> simp [h]

@[simp] theorem queueSound_sequencerLoaded (r : PageRef) (h : queueSound s) : queueSound (sequencerLoaded r s) := by
  simp only [sequencerLoaded]
  (repeat' split) <;> simp [h]

@[simp] theorem queueSound_heldPageGone (p : PageRef) (h : queueSound s) : queueSound (heldPageGone p s) := by
  simp only [heldPageGone]
  (repeat' split) <;> simp [h]

@[simp] theorem queueSound_waitPageGone (p : PageRef) (h : queueSound s) : queueSound (waitPageGone p s) := by
  simp only [waitPageGone]
  (repeat' split) <;> simp [h]

@[simp] theorem queueSound_transPageGone (p : PageRef) (h : queueSound s) : queueSound (transPageGone p s) := by
  simp only [transPageGone]
  (repeat' split) <;> simp [h]

@[simp] theorem queueSound_slideGone (p : PageRef) (h : queueSound s) : queueSound (slideGone p s) := by
  simp only [slideGone]
  (repeat' split) <;> simp [h]

@[simp] theorem queueSound_sequencerPageChanged (p : PageRef) (h : queueSound s) :
    queueSound (sequencerPageChanged p s) := by
  simp only [sequencerPageChanged]
  (repeat' split) <;> simp [h]

@[simp] theorem queueSound_changeList (o : Owner) (i : Fin 2) (l : Option SlideList) (h : queueSound s) :
    queueSound (changeList o i l s) := by
  simp only [changeList]
  (repeat' split) <;> simp [h]

@[simp] theorem queueSound_eraseSlides (o : Owner) (h : queueSound s) : queueSound (eraseSlides o s) := by
  simp only [eraseSlides]
  (repeat' split) <;> simp [h]

@[simp] theorem queueSound_startShow (o : Owner) (list : Fin 2) (index : Nat) (h : queueSound s) :
    queueSound (startShow o list index s) := by
  simp only [startShow]
  (repeat' split) <;> simp [h]

/-! ### Outcomes, activations and keys -/

@[simp] theorem queueSound_pageFaultNotice (a : Acting) (code : Half) (detail : Word) :
    queueSound (pageFaultNotice a code detail s) ↔ queueSound s := by
  simp [pageFaultNotice]

@[simp] theorem queueSound_setVariable (v : Fin 16) (w : Word) : queueSound (setVariable v w s) ↔ queueSound s := by
  simp [setVariable]

@[simp] theorem queueSound_runOutcome (a : Acting) (x : Action) (h : queueSound s) : queueSound (runOutcome a x s) := by
  have hcall (r : PageRef) (t : State) (ht : queueSound t) : queueSound ((callPage a.page r s).getD t) := by
    cases hc : callPage a.page r s with
    | none => exact ht
    | some u => exact queueSound_callPage h hc
  simp only [runOutcome]
  (repeat' split) <;> simp [h, hcall]

@[simp] theorem queueSound_reportOutcome (a : Acting) (x : Action) (branch : Bool) (detail : Word) :
    queueSound (reportOutcome a x branch detail s) ↔ queueSound s := by
  simp only [reportOutcome]
  (repeat' split) <;> simp

@[simp] theorem queueSound_finishActivation (k : Fin 6) (i : Nat) (h : queueSound s) :
    queueSound (finishActivation k i s) := by
  simp only [finishActivation]
  (repeat' split) <;> simp [h]

@[simp] theorem queueSound_completeActivation (k : Fin 6) (h : queueSound s) :
    queueSound (completeActivation k s) := by
  simp only [completeActivation]
  (repeat' split) <;> simp [h]

@[simp] theorem queueSound_beginActivation (k : Fin 6) (i : Nat) (h : queueSound s) :
    queueSound (beginActivation k i s) := by
  simp only [beginActivation]
  (repeat' split) <;> simp [h]

@[simp] theorem queueSound_setTimer (k : Fin 6) (timer : Half) (mark : Bool) :
    queueSound (setTimer k timer mark s) ↔ queueSound s := by
  simp [setTimer]

@[simp] theorem queueSound_countHold (k : Fin 6) (h : queueSound s) : queueSound (countHold s k) := by
  simp only [countHold]
  (repeat' split) <;> simp [h]

@[simp] theorem queueSound_expireTimeout (k : Fin 6) (h : queueSound s) : queueSound (expireTimeout k s) := by
  simp only [expireTimeout]
  (repeat' split) <;> simp [h]

@[simp] theorem queueSound_countTimeout (k : Fin 6) (h : queueSound s) : queueSound (countTimeout s k) := by
  simp only [countTimeout]
  (repeat' split) <;> simp [h]

@[simp] theorem queueSound_timeoutsField (h : queueSound s) : queueSound (timeoutsField s) := by
  simp only [timeoutsField]
  (repeat' split) <;> simp [h]

@[simp] theorem queueSound_reloadTimeout (k : Fin 6) : queueSound (reloadTimeout k s) ↔ queueSound s := by
  simp [reloadTimeout]

@[simp] theorem queueSound_keyUnused (focus : Option PageRef) (k : Key) (reason : Word) :
    queueSound (keyUnused focus k reason s) ↔ queueSound s := by
  simp [keyUnused]

theorem queueSound_slideKey (focus : Option PageRef) (allowed : Bool) (k : Key) {act : State → State}
    (hact : queueSound (act s)) (h : queueSound s) : queueSound (slideKey focus allowed k act s) := by
  unfold slideKey
  split <;> simp [h, hact]

@[simp] theorem queueSound_keyNoFocus (k : Key) (h : queueSound s) : queueSound (keyNoFocus k s) := by
  simp only [keyNoFocus]
  (repeat' split) <;> simp [h, queueSound_slideKey]

@[simp] theorem queueSound_moveSelection (k : Fin 6) (d : PageDef) (dir : Direction) (h : queueSound s) :
    queueSound (moveSelection k d dir s) := by
  simp only [moveSelection]
  (repeat' split) <;> simp [h]

@[simp] theorem queueSound_enterKey (r : PageRef) (k : Fin 6) (h : queueSound s) : queueSound (enterKey r k s) := by
  simp only [enterKey]
  (repeat' split) <;> simp [h]

@[simp] theorem queueSound_backKey (r : PageRef) (d : PageDef) (h : queueSound s) : queueSound (backKey r d s) := by
  simp only [backKey]
  (repeat' split) <;> simp [h]

@[simp] theorem queueSound_keyOnPage (r : PageRef) (k : Fin 6) (d : PageDef) (key : Key) (h : queueSound s) :
    queueSound (keyOnPage r k d key s) := by
  simp only [keyOnPage]
  (repeat' split) <;> simp [h, queueSound_slideKey]

@[simp] theorem queueSound_deliverKey (key : Key) (h : queueSound s) : queueSound (deliverKey key s) := by
  simp only [deliverKey]
  (repeat' split) <;> simp [h]

theorem queueSound_deliverUpTo (n : Nat) : ∀ {s : State}, queueSound s → queueSound (deliverUpTo n s) := by
  induction n with
  | zero => exact id
  | succ n ih =>
    intro s h
    simp only [deliverUpTo]
    (repeat' split) <;> simp [h, ih]

@[simp] theorem queueSound_deliverKeys (h : queueSound s) : queueSound (deliverKeys s) := queueSound_deliverUpTo _ h

@[simp] theorem queueSound_navigationField (h : queueSound s) : queueSound (navigationField s) :=
  queueSound_deliverKeys (queueSound_timeoutsField (queueSound_foldl _ (fun _ k ht => queueSound_countHold k ht) _ h))

/-! ### Load done and save done -/

@[simp] theorem queueSound_makeHeldEnable (k : Fin 6) (held : List (Byte × Bool)) (i : Nat) (h : queueSound s) :
    queueSound (makeHeldEnable k held s i) := by
  simp only [makeHeldEnable]
  (repeat' split) <;> simp [h]

@[simp] theorem queueSound_makeHeldEnables (k : Fin 6) (held : List (Byte × Bool)) (h : queueSound s) :
    queueSound (makeHeldEnables k held s) :=
  queueSound_foldl _ (fun _ i ht => queueSound_makeHeldEnable k held i ht) _ h

@[simp] theorem queueSound_makeReturnSel (k : Fin 6) (r : PageRef) :
    queueSound (makeReturnSel k r s) ↔ queueSound s := by
  simp only [makeReturnSel]
  (repeat' split) <;> simp

@[simp] theorem queueSound_makeHeldSelect (k : Fin 6) (held : Option Byte) :
    queueSound (makeHeldSelect k held s) ↔ queueSound s := by
  simp only [makeHeldSelect]
  (repeat' split) <;> simp

@[simp] theorem queueSound_loadDoneChanges (k : Fin 6) (r : PageRef) (asked : Bool) (h : queueSound s) :
    queueSound (loadDoneChanges k r asked s) := by
  simp only [loadDoneChanges]
  (repeat' split) <;> simp [h]

/-- The load that is done is over, or the exchange goes on (R57). -/
theorem placeLoaded_current (k : Fin 6) (r : PageRef) (s : State) :
    (placeLoaded k r s).exch.current = none ∨ (placeLoaded k r s).exch.current = s.exch.current :=
  ite_eq_or_eq _ _ _

@[simp] theorem queueSound_placeLoaded (k : Fin 6) (r : PageRef) (h : queueSound s) :
    queueSound (placeLoaded k r s) := by
  refine h.sublist (List.Sublist.refl _) fun x hx => ?_
  rcases placeLoaded_current k r s with hnone | hsame
  · cases hnone.symm.trans hx
  · exact ⟨x, hsame.symm.trans hx, rfl⟩

theorem queueSound_finishLoad (k : Fin 6) (r : PageRef) (h : queueSound s) : queueSound (finishLoad k r s) := by
  have hchanged := queueSound_loadDoneChanges k r (s.exch.ctrlReq == some r) (queueSound_placeLoaded k r h)
  have hshown := queueSound_raiseRecompose.2 (queueSound_stackLoaded r hchanged)
  exact queueSound_deliverKeys (queueSound_takeUp (queueSound_sequencerLoaded r hshown))

theorem queueSound_completeLoad (k : Fin 6) (h : queueSound s) : queueSound (completeLoad k s) := by
  unfold completeLoad
  dsimp only
  (repeat' split) <;> simp [h, queueSound_finishLoad]

theorem queueSound_completeSave (h : queueSound s) : queueSound (completeSave s) := by
  unfold completeSave
  split
  · exact h
  rename_i x hx
  dsimp only
  (repeat' split)
  · exact queueSound_takeUp (queueSound_leaveSave hx rfl h)
  · exact queueSound_takeUp (queueSound_leaveSave (s := setPageEntry _ _ (s.setMem _)) hx rfl h)
  · exact h

end QueueKept

end Sys2Proof.Machine

namespace Sys2Proof.Machine

open Sys2Proof

/-! ## What objects, passes and palettes leave of the Page Exchange: all of it -/

section ExchKept

variable (s : State)

theorem exch_foldl {α : Type} (f : State → α → State) (hf : ∀ t a, (f t a).exch = t.exch) (l : List α) :
    (l.foldl f s).exch = s.exch := by
  induction l generalizing s with
  | nil => rfl
  | cons a l ih => exact (ih _).trans (hf s a)

@[simp] theorem exch_post (kind : NoticeKind) (owner : Option Owner) (page : Option (Fin 32)) (index code : Half)
    (detail : Word) (flag : Bool) : (post kind owner page index code detail flag s).exch = s.exch := by
  rw [post_eq_setLink, State.setLink_exch]

@[simp] theorem exch_withConditions (f : Conditions → Conditions) : (withConditions f s).exch = s.exch := rfl

@[simp] theorem exch_raiseRecompose : (raiseRecompose s).exch = s.exch := rfl

@[simp] theorem exch_objectFault (i : Fin 512) (code : Half) (detail : Nat) :
    (objectFault i code detail s).exch = s.exch := exch_post ..

@[simp] theorem exch_segmentFault (lane : Owner) (kind code : Byte) (id : Half) (detail : Nat) :
    (segmentFault lane kind code id detail s).exch = s.exch := exch_post ..

@[simp] theorem exch_setObjEntry (i : Fin 512) (e : ObjEntry) : (setObjEntry i e s).exch = s.exch := rfl

@[simp] theorem exch_setLane (l : LaneState) : (setLane l s).exch = s.exch := rfl

@[simp] theorem exch_releaseRegion (r : Region) : (releaseRegion r s).exch = s.exch := by
  unfold releaseRegion
  split <;> rfl

@[simp] theorem exch_releaseOpt (r : Option Region) : (releaseOpt r s).exch = s.exch := by
  cases r with
  | none => rfl
  | some r => exact exch_releaseRegion s r

@[simp] theorem exch_feedByte (i : Fin 512) (b : Byte) : (feedByte i b s).exch = s.exch := by
  unfold feedByte
  dsimp only
  (repeat' split) <;> rfl

@[simp] theorem exch_feedBytes (i : Fin 512) (bs : List Byte) : (feedBytes i bs s).exch = s.exch :=
  exch_foldl s _ (fun t b => exch_feedByte t i b) bs

@[simp] theorem exch_abandonDecode (i : Fin 512) : (abandonDecode i s).exch = s.exch := by
  unfold abandonDecode
  dsimp only
  split <;> simp

@[simp] theorem exch_completeObject (i : Fin 512) : (completeObject i s).exch = s.exch := by
  unfold completeObject
  dsimp only
  split
  · rfl
  · rw [exch_raiseRecompose]
    (repeat' split) <;> simp

@[simp] theorem exch_firstPart (i : Fin 512) (h : PartHead) : (firstPart i h s).1.exch = s.exch := by
  unfold firstPart
  extract_lets e0 s1
  have hs1 : s1.exch = s.exch := by
    unfold s1
    split <;> simp
  split <;> simp [setHeapFull, hs1]

@[simp] theorem exch_laterPart (i : Fin 512) (h : PartHead) : (laterPart i h s).1.exch = s.exch := by
  unfold laterPart
  dsimp only
  (repeat' split) <;> simp

@[simp] theorem exch_beginPart (lane : Owner) (h : PartHead) : (beginPart lane h s).1.exch = s.exch := by
  unfold beginPart
  dsimp only
  (repeat' split) <;> simp

@[simp] theorem exch_takePart (lane : Owner) (p : List Byte) : (takePart lane p s).exch = s.exch := by
  have hbegin := exch_beginPart s lane (parsePart p)
  unfold takePart
  dsimp only
  split
  · simp
  split
  case h_1 hs1 => rwa [hs1] at hbegin
  case h_2 hs1 =>
    have hbegin : _ = s.exch := (congrArg (fun x => x.1.exch) hs1).symm.trans hbegin
    split <;> simpa using hbegin

@[simp] theorem exch_overrunPart (i : Fin 512) : (overrunPart i s).exch = s.exch := by
  unfold overrunPart
  dsimp only
  split <;> simp

@[simp] theorem exch_deleteObject (i : Fin 512) : (deleteObject i s).exch = s.exch := by
  unfold deleteObject
  dsimp only
  split <;> simp

@[simp] theorem exch_eraseObjects (o : Owner) : (eraseObjects o s).exch = s.exch := by
  have hreleased := exch_foldl s (fun t r => releaseRegion r t) exch_releaseRegion
    ((ownerEntries o s).flatMap entryRegions)
  unfold eraseObjects
  dsimp only
  split <;> simp [hreleased]

@[simp] theorem exch_beforeLiveChange : (beforeLiveChange s).exch = s.exch := by
  unfold beforeLiveChange
  split
  · rw [drawAhead_eq]; rfl
  · rfl

@[simp] theorem exch_composerField : (composerField s).exch = s.exch := by
  have hstart (t : State) : (startPassIfNeeded t).exch = t.exch := by
    unfold startPassIfNeeded
    (repeat' split) <;> rfl
  unfold composerField
  split
  · exact hstart (swapPlanes s)
  · exact hstart s
  · rfl

@[simp] theorem exch_completePass : (completePass s).exch = s.exch := by
  unfold completePass
  split
  · rw [drawToEnd_eq]; rfl
  · rfl

@[simp] theorem exch_composerSetup (f : PlaneFormat) : (composerSetup f s).exch = s.exch := by
  unfold composerSetup
  dsimp only
  split <;> rfl

@[simp] theorem exch_takePalette (lane : Owner) (p : List Byte) : (takePalette lane p s).exch = s.exch := by
  unfold takePalette
  split <;> simp

@[simp] theorem exch_deletePalette (i : Fin 16) : (deletePalette i s).exch = s.exch := by
  simp [deletePalette]

@[simp] theorem exch_erasePalettes (o : Owner) : (erasePalettes o s).exch = s.exch := by
  simp [erasePalettes]

@[simp] theorem exch_takeTime (lane : Owner) (p : List Byte) : (takeTime lane p s).exch = s.exch := by
  unfold takeTime
  split <;> simp

@[simp] theorem exch_takeCue (lane : Owner) (p : List Byte) : (takeCue lane p s).exch = s.exch := by
  unfold takeCue
  split
  · simp
  · rfl

@[simp] theorem exch_receiverFault (lane : Owner) (kind code : Byte) (len : Nat) :
    (receiverFault lane kind code len s).exch = s.exch := exch_segmentFault ..

@[simp] theorem exch_inSkip (kind : Byte) (len left : Nat) (badKind : Bool) :
    (inSkip kind len left badKind s).exch = s.exch := by
  unfold inSkip endSkip
  (repeat' split) <;> simp

end ExchKept

/-- What leaves the Page Exchange alone leaves its queue sound. -/
theorem queueSound_of_exch {s t : State} (h : t.exch = s.exch) : queueSound t ↔ queueSound s :=
  queueSound_congr (by rw [h]) (by rw [h])

/-! ## The exchange queue stays sound: segments and the lanes (R48) -/

section LaneQueue

variable {s : State}

@[simp] theorem queueSound_autoShowPage (r : PageRef) (h : queueSound s) : queueSound (autoShowPage r s) := by
  unfold autoShowPage
  cases hshow : showEntry r s with
  | none => simp [h]
  | some t => exact queueSound_showEntry h hshow

theorem queueSound_definePage (r : PageRef) (p : List Byte) (h : queueSound s) : queueSound (definePage r p s) := by
  unfold definePage writeImage
  extract_lets d e s1
  have h1 : queueSound s1 := h
  split <;> simp [h1]

theorem queueSound_redefinePage (r : PageRef) (p : List Byte) (h : queueSound s) :
    queueSound (redefinePage r p s) := by
  unfold redefinePage
  extract_lets d former s1 s2 s3 s4
  have h1 : queueSound s1 := h
  have h2 : queueSound s2 := (queueSound_dropReturnSel _).2 (queueSound_exchangeRedefined r h1)
  have h3 : queueSound s3 := by
    unfold s3 stackRedefined
    split <;> simp [h2]
  refine queueSound_sequencerPageChanged r ?_
  unfold s4
  split <;> simp [h3]

theorem queueSound_takePage (lane : Owner) (p : List Byte) (h : queueSound s) : queueSound (takePage lane p s) := by
  unfold takePage
  split
  · exact (queueSound_of_exch (exch_segmentFault ..)).2 h
  · refine queueSound_deliverKeys ?_
    split
    · exact queueSound_redefinePage _ p h
    · exact queueSound_definePage _ p h

theorem queueSound_deletePage (r : PageRef) (h : queueSound s) : queueSound (deletePage r s) := by
  unfold deletePage
  split
  · have hdrop := queueSound_exchangeDrop (fun x => x == r)
      ((queueSound_setPageEntry r { pageEntry r s with defined := false, saved := false, len := 0 }).2 h)
    have hfree := queueSound_takeUp ((queueSound_dropReturnSel (fun x => x == r)).2 hdrop)
    exact queueSound_deliverKeys (queueSound_sequencerPageChanged r (queueSound_removeEntry r (some hiddenRemoved)
      ((queueSound_setPageEntry r _).2 hfree)))
  · exact h

theorem queueSound_takeDelete (lane : Owner) (p : List Byte) (h : queueSound s) :
    queueSound (takeDelete lane p s) := by
  unfold takeDelete
  split
  · exact (queueSound_of_exch (exch_segmentFault ..)).2 h
  unfold deleteItem
  split
  · split
    · exact h
    · exact (queueSound_of_exch (exch_deleteObject ..)).2 h
  split
  · exact (queueSound_of_exch (exch_deletePalette ..)).2 h
  split
  · exact queueSound_deletePage _ h
  split
  · unfold deleteList
    split <;> simp [h]
  split
  · unfold deleteCue
    split <;> exact h
  · exact h

theorem queueSound_erasePageEntries (o : Owner) : queueSound (erasePageEntries o s) ↔ queueSound s := Iff.rfl

theorem queueSound_eraseCues (o : Owner) : queueSound (eraseCues o s) ↔ queueSound s := Iff.rfl

theorem queueSound_eraseOwner (o : Owner) (h : queueSound s) : queueSound (eraseOwner o s) := by
  have hpals : queueSound (erasePalettes o (eraseObjects o s)) :=
    (queueSound_of_exch ((exch_erasePalettes ..).trans (exch_eraseObjects ..))).2 h
  have hdrop := (queueSound_dropReturnSel (fun r => r.owner == o)).2
    (queueSound_exchangeDrop (fun r => r.owner == o) hpals)
  have hstack := queueSound_eraseStack o ((queueSound_erasePageEntries o).2 hdrop)
  have hpages := queueSound_handOn (queueSound_takeUp (queueSound_eraseSlides o hstack))
  exact queueSound_deliverKeys ((queueSound_eraseCues o).2 hpages)

theorem queueSound_handSegment (lane : Owner) (kind : Byte) (p : List Byte) (h : queueSound s) :
    queueSound (handSegment lane kind p s) := by
  unfold handSegment
  split
  · unfold takeEdition
    split
    · exact (queueSound_of_exch (exch_segmentFault ..)).2 h
    · exact queueSound_eraseOwner .disc (s := s.setRecv _) h
  split
  · exact (queueSound_of_exch (exch_takeTime ..)).2 h
  split
  · exact (queueSound_of_exch (exch_takePalette ..)).2 h
  split
  · exact (queueSound_of_exch (exch_takePart ..)).2 h
  split
  · exact queueSound_takePage lane p h
  split
  · unfold takeSlideList
    split
    · exact (queueSound_of_exch (exch_segmentFault ..)).2 h
    · exact queueSound_changeList _ _ _ h
  split
  · exact (queueSound_of_exch (exch_takeCue ..)).2 h
  split
  · exact queueSound_takeDelete lane p h
  · exact h

theorem queueSound_wholeSegment (lane : Owner) (kind : Byte) (p : List Byte) (h : queueSound s) :
    queueSound (wholeSegment lane kind p s) := by
  unfold wholeSegment
  split
  · exact (queueSound_of_exch (exch_segmentFault ..)).2 h
  · exact queueSound_handSegment lane kind p h

theorem queueSound_inPayload (kind : Byte) (len left : Nat) (got : List Byte) (part : Option PartInFlight)
    (h : queueSound s) : queueSound (inPayload kind len left got part s) := by
  unfold inPayload
  split
  · refine (queueSound_of_exch (exch_setLane ..)).2 ?_
    (repeat' split)
    · exact (queueSound_of_exch (exch_completeObject ..)).2 h
    · exact h
    · exact h
    · exact queueSound_handSegment .disc kind got h
  · exact h

theorem queueSound_serveDisc (got : List Byte) (h : queueSound s) : queueSound (serveDisc got s) := by
  unfold serveDisc
  dsimp only
  split
  · exact queueSound_inPayload _ _ _ _ _ (s := s.setRecv _) h
  · refine (queueSound_of_exch (s := s) ?_).2 h
    split <;> simp

theorem queueSound_serveOne (h : queueSound s) : queueSound (serveOne s) := by
  unfold serveOne
  split
  · exact h
  split
  · exact queueSound_serveDisc _ h
  split
  · exact queueSound_wholeSegment _ _ _ (s := s.setRecv _) h
  · exact h

theorem queueSound_serve (h : queueSound s) : queueSound (serve s) := queueSound_serveOne (queueSound_serveOne h)

theorem queueSound_objectByte (len left : Nat) (got : List Byte) (part : Option PartInFlight) (b : Byte)
    (h : queueSound s) : queueSound (objectByte len left got part b s) := by
  unfold objectByte
  split
  · exact queueSound_inPayload _ _ _ _ _ ((queueSound_of_exch (exch_feedByte ..)).2 h)
  dsimp only
  split
  · refine (queueSound_of_exch (s := s) ?_).2 h
    simp
  split
  · have hbegin := (queueSound_of_exch (exch_beginPart s .disc (parsePart (got ++ [b])))).2 h
    split
    case h_1 hs1 => rw [hs1] at hbegin; exact (queueSound_of_exch (exch_inSkip ..)).2 hbegin
    case h_2 hs1 => rw [hs1] at hbegin; exact queueSound_inPayload _ _ _ _ _ hbegin
  · exact queueSound_inPayload _ _ _ _ _ h

theorem queueSound_laneByte (b : Byte) (h : queueSound s) : queueSound (laneByte b s) := by
  unfold laneByte
  split
  · exact h
  · exact h
  · unfold payloadByte
    split
    · exact queueSound_objectByte _ _ _ _ _ h
    · exact queueSound_inPayload _ _ _ _ _ h
  · exact (queueSound_of_exch (exch_inSkip ..)).2 h

theorem queueSound_takeLaneByte (h : queueSound s) : queueSound (takeLaneByte s) := by
  unfold takeLaneByte
  split
  · exact h
  split
  · exact h
  · exact queueSound_serve (queueSound_laneByte _ (s := s.setStream _) h)

theorem queueSound_abandonLane (h : queueSound s) : queueSound (abandonLane s) := by
  refine (queueSound_of_exch (s := s) ?_).2 h
  unfold abandonLane
  dsimp only
  rw [exch_setLane]
  split <;> simp

theorem queueSound_presentByte (b : Byte) (h : queueSound s) : queueSound (presentByte b s) := by
  unfold presentByte
  split
  · exact h
  split
  · exact h
  · exact queueSound_serve (queueSound_abandonLane (s := (setStreamOverrun s).setStream ⟨[], false⟩) h)

end LaneQueue

end Sys2Proof.Machine

namespace Sys2Proof.Machine

open Sys2Proof

/-! ## The exchange queue stays sound: commands, field starts, every row of the table (R48) -/

section CommandQueue

variable {s : State}

@[simp] theorem queueSound_receiveFrame (bytes : List Byte) : queueSound (receiveFrame bytes s) ↔ queueSound s := by
  rw [receiveFrame_eq, queueSound_setLink]

@[simp] theorem queueSound_frameCrosses (bytes : List Byte) : queueSound (frameCrosses bytes s) ↔ queueSound s :=
  queueSound_receiveFrame bytes

@[simp] theorem queueSound_placeReply (cmd : Byte) (code : ReplyCode) (data : List Byte) :
    queueSound (placeReply cmd code data s) ↔ queueSound s := Iff.rfl

theorem queueSound_commandFrame (cmd : Byte) (payload : List Byte) (body : State → State)
    (hbody : ∀ t, queueSound t → queueSound (body t)) (h : queueSound s) :
    queueSound (commandFrame cmd payload body s) := by
  unfold commandFrame
  split
  · exact h
  · have hcrossed := (queueSound_frameCrosses (cmd :: BitVec.ofNat 8 payload.length :: payload)).2 h
    dsimp only
    split
    · exact hcrossed
    split
    · exact hcrossed
    · exact hbody _ hcrossed

theorem queueSound_command (cmd : Byte) (payload : List Byte) (act : State → Answer)
    (hact : ∀ t, queueSound t → queueSound (act t).state) (h : queueSound s) :
    queueSound (command cmd payload act s) :=
  queueSound_commandFrame cmd payload _ hact h

theorem queueSound_onPage (owner page : Byte) (act : PageRef → State → Answer)
    (hact : ∀ r, queueSound (act r s).state) (h : queueSound s) : queueSound (onPage owner page act s).state := by
  unfold onPage
  split
  · exact h
  · exact hact _

theorem queueSound_onMenuPage (r : PageRef) (act : State → Answer) (hact : queueSound (act s).state)
    (h : queueSound s) : queueSound (onMenuPage r act s).state := by
  unfold onMenuPage
  split
  · exact h
  split
  · exact h
  · exact hact

theorem queueSound_holdChange (r : PageRef) (change : Navigation → Navigation) (h : queueSound s) :
    queueSound (holdChange r change s).state := by
  unfold holdChange
  split
  · split <;> exact h
  · exact queueSound_takeUp (s := (s.setNav _).setExch _) h

theorem queueSound_shownOr {t : Option State} (ht : ∀ u, t = some u → queueSound u) (h : queueSound s) :
    queueSound (shownOr t s).state := by
  cases t with
  | none => exact h
  | some u => exact queueSound_deliverKeys (ht u rfl)

theorem queueSound_doKey (kind : Byte) (h : queueSound s) : queueSound (doKey kind s).state := by
  unfold doKey
  split
  · exact h
  split
  · exact h
  · exact queueSound_deliverKeys ((queueSound_setNav _).2 h)

theorem queueSound_doShow (owner page mode : Byte) (h : queueSound s) :
    queueSound (doShow owner page mode s).state := by
  unfold doShow
  split
  · exact h
  · refine queueSound_onPage owner page _ (fun r => queueSound_onMenuPage r _
      (queueSound_shownOr (fun u hu => ?_) h) h) h
    split at hu
    · exact queueSound_showEntry h hu
    · exact queueSound_showCalling h hu

theorem queueSound_doHide (owner page : Byte) (h : queueSound s) : queueSound (doHide owner page s).state :=
  queueSound_onPage owner page _ (fun r => queueSound_onMenuPage r _
    (queueSound_deliverKeys (queueSound_startLeaving r h)) h) h

theorem queueSound_doHideBand (owner : Byte) (h : queueSound s) : queueSound (doHideBand owner s).state := by
  unfold doHideBand
  split
  · exact h
  · exact queueSound_deliverKeys (queueSound_hideBandEntries _ h)

theorem queueSound_doSelect (owner page button : Byte) (h : queueSound s) :
    queueSound (doSelect owner page button s).state := by
  refine queueSound_onPage owner page _ (fun r => queueSound_onMenuPage r _ ?_ h) h
  split
  · exact h
  split
  · exact queueSound_deliverKeys ((queueSound_selectButton ..).2 h)
  · exact queueSound_holdChange _ _ h

theorem queueSound_doSetButton (owner page button enable : Byte) (h : queueSound s) :
    queueSound (doSetButton owner page button enable s).state := by
  refine queueSound_onPage owner page _ (fun r => queueSound_onMenuPage r _ ?_ h) h
  split
  · exact h
  split
  · split
    · exact h
    · exact queueSound_deliverKeys ((queueSound_changeEnable ..).2 h)
  · exact queueSound_holdChange _ _ h

theorem queueSound_doSetTimeout (owner page : Byte) (value : Half) (restart : Byte) (h : queueSound s) :
    queueSound (doSetTimeout owner page value restart s).state := by
  refine queueSound_onPage owner page _ (fun r => queueSound_onMenuPage r _ ?_ h) h
  split <;> exact h

theorem queueSound_doReadPage (owner page : Byte) (h : queueSound s) : queueSound (doReadPage owner page s).state := by
  refine queueSound_onPage owner page _ (fun r => ?_) h
  split
  · exact h
  · split <;> exact h

theorem queueSound_doSetVar (num : Byte) (value : Word) (h : queueSound s) :
    queueSound (doSetVar num value s).state := by
  unfold doSetVar
  split
  · exact h
  · exact (queueSound_setVariable ..).2 h

theorem queueSound_doGetVar (num : Byte) (h : queueSound s) : queueSound (doGetVar num s).state := by
  unfold doGetVar
  split <;> exact h

theorem queueSound_doSlideStart (owner list index : Byte) (h : queueSound s) :
    queueSound (doSlideStart owner list index s).state := by
  unfold doSlideStart
  (repeat' split)
  case isFalse => exact queueSound_startShow _ _ _ h
  all_goals exact h

theorem queueSound_doSlideStop (h : queueSound s) : queueSound (doSlideStop s).state := by
  unfold doSlideStop done
  dsimp only
  split
  · exact h
  · exact queueSound_stopShow _ h

theorem queueSound_doSlidePause (h : queueSound s) : queueSound (doSlidePause s).state := by
  unfold doSlidePause
  split
  · exact queueSound_pauseShow.2 h
  · exact h

theorem queueSound_doSlideResume (h : queueSound s) : queueSound (doSlideResume s).state := by
  unfold doSlideResume
  split
  · exact queueSound_resumeShow.2 h
  · exact h

theorem queueSound_doSlideStep (step : Byte) (h : queueSound s) : queueSound (doSlideStep step s).state := by
  unfold doSlideStep
  split
  · exact h
  split
  · exact h
  · exact queueSound_stepShow _ h

theorem queueSound_doSetHold (value : Half) (restart : Byte) (h : queueSound s) :
    queueSound (doSetHold value restart s).state := by
  unfold doSetHold
  split <;> exact h

theorem queueSound_doOutput (value : Byte) (h : queueSound s) : queueSound (doOutput value s).state := by
  refine (queueSound_of_exch (s := s) ?_).2 h
  unfold doOutput done refusedWith
  (repeat' split) <;> simp

theorem queueSound_doSegOpen (kind : Byte) (length : Half) (h : queueSound s) :
    queueSound (doSegOpen kind length s).state := by
  unfold doSegOpen
  split
  · exact h
  split
  · exact h
  · exact queueSound_serve ((queueSound_setRelay _).2 h)

theorem queueSound_doSegData (bytes : List Byte) (h : queueSound s) : queueSound (doSegData bytes s).state := by
  unfold doSegData
  split
  · exact h
  · exact queueSound_serve ((queueSound_setRelay _).2 h)

theorem queueSound_doErasePlayer (h : queueSound s) : queueSound (doErasePlayer s).state := by
  simp only [doErasePlayer, done]
  exact queueSound_eraseOwner .player ((queueSound_setRelay _).2 h)

/-- A reset leaves no request and no exchange. -/
theorem queueSound_resetBlocks (s : State) : queueSound (resetBlocks s) :=
  ⟨List.nodup_nil, fun _ hq => absurd hq List.not_mem_nil, fun _ _ _ hq => absurd hq List.not_mem_nil⟩

theorem queueSound_setupBody (format : Byte) (ticks : Half) (h : queueSound s) :
    queueSound (setupBody format ticks s) := by
  unfold setupBody
  split
  · exact h
  split
  · exact h
  case h_2.isFalse f _ _ =>
    exact (queueSound_of_exch (exch_composerSetup _ f)).2 ((queueSound_setCues _).2 ((queueSound_setStream _).2 h))

/-- The command of a frame keeps the exchange queue sound. -/
theorem queueSound_runCommand (i : Instr) (h : queueSound s) : queueSound (runCommand i s) := by
  cases i
  case nop => exact queueSound_command _ _ _ (fun _ ht => ht) h
  case clearConditions => exact queueSound_command _ _ _ (fun _ ht => ht) h
  case reset =>
    exact queueSound_commandFrame _ _ _ (fun t _ => queueSound_placeReply .. |>.2 (queueSound_resetBlocks t)) h
  case setup => exact queueSound_commandFrame _ _ _ (fun _ ht => queueSound_setupBody _ _ ht) h
  case output => exact queueSound_command _ _ _ (fun _ ht => queueSound_doOutput _ ht) h
  case key => exact queueSound_command _ _ _ (fun _ ht => queueSound_doKey _ ht) h
  case showPage => exact queueSound_command _ _ _ (fun _ ht => queueSound_doShow _ _ _ ht) h
  case hidePage => exact queueSound_command _ _ _ (fun _ ht => queueSound_doHide _ _ ht) h
  case hideBand => exact queueSound_command _ _ _ (fun _ ht => queueSound_doHideBand _ ht) h
  case select => exact queueSound_command _ _ _ (fun _ ht => queueSound_doSelect _ _ _ ht) h
  case setButton => exact queueSound_command _ _ _ (fun _ ht => queueSound_doSetButton _ _ _ _ ht) h
  case setTimeout => exact queueSound_command _ _ _ (fun _ ht => queueSound_doSetTimeout _ _ _ _ ht) h
  case readPage => exact queueSound_command _ _ _ (fun _ ht => queueSound_doReadPage _ _ ht) h
  case setVar => exact queueSound_command _ _ _ (fun _ ht => queueSound_doSetVar _ _ ht) h
  case getVar => exact queueSound_command _ _ _ (fun _ ht => queueSound_doGetVar _ ht) h
  case timeRun => exact queueSound_command _ _ _ (fun _ ht => ht) h
  case timeHold => exact queueSound_command _ _ _ (fun _ ht => ht) h
  case slideStart => exact queueSound_command _ _ _ (fun _ ht => queueSound_doSlideStart _ _ _ ht) h
  case slideStop => exact queueSound_command _ _ _ (fun _ ht => queueSound_doSlideStop ht) h
  case slidePause => exact queueSound_command _ _ _ (fun _ ht => queueSound_doSlidePause ht) h
  case slideResume => exact queueSound_command _ _ _ (fun _ ht => queueSound_doSlideResume ht) h
  case slideStep => exact queueSound_command _ _ _ (fun _ ht => queueSound_doSlideStep _ ht) h
  case setHold => exact queueSound_command _ _ _ (fun _ ht => queueSound_doSetHold _ _ ht) h
  case segOpen => exact queueSound_command _ _ _ (fun _ ht => queueSound_doSegOpen _ _ ht) h
  case segData => exact queueSound_command _ _ _ (fun _ ht => queueSound_doSegData _ ht) h
  case erasePlayer => exact queueSound_command _ _ _ (fun _ ht => queueSound_doErasePlayer ht) h
  all_goals exact h

theorem queueSound_readFrame (cmd : Byte) (n : Nat) (h : queueSound s) : queueSound (readFrame cmd n s) := by
  unfold readFrame
  split
  · exact h
  · exact (queueSound_frameCrosses _).2 h

theorem queueSound_readNoticeFrame (n : Nat) (h : queueSound s) : queueSound (readNoticeFrame n s) := by
  have hread := queueSound_readFrame 0x03 n h
  unfold readNoticeFrame
  dsimp only
  split <;> exact hread

theorem queueSound_badFrame (frame : List Byte) (h : queueSound s) : queueSound (badFrame frame s) := by
  have hcrossed := (queueSound_frameCrosses frame).2 h
  unfold badFrame
  split
  · exact h
  · dsimp only
    split <;> exact hcrossed

theorem queueSound_completeFrame (frame : List Byte) (h : queueSound s) : queueSound (completeFrame frame s) := by
  unfold completeFrame
  split
  · exact h
  split
  · unfold runRead
    split
    · exact queueSound_readNoticeFrame _ h
    · exact queueSound_readFrame _ _ h
  split
  · exact queueSound_badFrame _ h
  split
  · exact queueSound_badFrame _ h
  · exact queueSound_runCommand _ h

/-! ### Cues -/

theorem queueSound_runCueAction {i : Fin 16} {a : Action} {t : State} (h : queueSound s)
    (ht : runCueAction i a s = .done t) : queueSound t := by
  unfold runCueAction at ht
  dsimp only at ht
  split at ht
  case h_1 =>
    unfold cueShow at ht
    (repeat' split at ht) <;> cases ht
    case refl hshow => exact queueSound_showEntry h hshow
  case h_2 =>
    unfold cueHide at ht
    split at ht <;> cases ht
    exact queueSound_startLeaving _ h
  case h_3 =>
    unfold cueSelect at ht
    (repeat' split at ht) <;> cases ht
    exact (queueSound_selectButton ..).2 h
  case h_4 =>
    split at ht <;> cases ht
    exact (queueSound_setVariable ..).2 h
  case h_5 =>
    split at ht <;> cases ht
    exact queueSound_slideOperation _ h
  all_goals cases ht; exact h

theorem queueSound_reportCue (i : Fin 16) (a : Action) (detail : Word) :
    queueSound (reportCue i a detail s) ↔ queueSound s := by
  unfold reportCue cueNotice
  split <;> simp

theorem queueSound_fireCue (i : Fin 16) (c : CueRecord) (h : queueSound s) : queueSound (fireCue i c s) := by
  unfold fireCue
  refine (queueSound_setCues _).2 ?_
  split
  case h_1 hdone => exact (queueSound_reportCue ..).2 (queueSound_runCueAction h hdone)
  case h_2 => exact (queueSound_reportCue ..).2 ((queueSound_post ..).2 h)

theorem queueSound_evaluateCue (i : Fin 16) (h : queueSound s) : queueSound (evaluateCue s i) := by
  have hset (v : CueSlot) : queueSound (setCueSlot i v s) := h
  unfold evaluateCue
  dsimp only
  (repeat' split) <;> simp [h, hset, queueSound_fireCue]

theorem queueSound_cueField (h : queueSound s) : queueSound (cueField s) := by
  have htime : queueSound (advanceTime s) := by
    unfold advanceTime
    split <;> exact h
  unfold cueField
  dsimp only
  split
  · exact queueSound_deliverKeys (queueSound_foldl _ (fun _ i ht => queueSound_evaluateCue i ht) _ htime)
  · exact htime

/-! ### Field starts -/

theorem queueSound_actBlock (b : FieldBlock) (h : queueSound s) : queueSound (actBlock s b) := by
  have hdue (v : List FieldBlock) : queueSound (s.setDue v) := h
  unfold actBlock
  split
  · cases b with
    | pageStack => exact queueSound_deliverKeys (queueSound_stackField (hdue _))
    | navigation => exact queueSound_navigationField (hdue _)
    | sequencer => exact queueSound_sequencerField (hdue _)
    | cues => exact queueSound_cueField (hdue _)
    | composer => exact (queueSound_of_exch (exch_composerField _)).2 (hdue _)
  · exact h

theorem queueSound_settleField (h : queueSound s) : queueSound (settleField s) := by
  unfold settleField
  split
  · exact h
  · exact queueSound_foldl _ (fun _ b ht => queueSound_actBlock b ht) _ h

theorem queueSound_fieldStart (order : List FieldBlock) (h : queueSound s) : queueSound (fieldStart order s) := by
  have hact (l : List FieldBlock) {t : State} (ht : queueSound t) : queueSound (l.foldl actBlock t) :=
    queueSound_foldl _ (fun _ b ht => queueSound_actBlock b ht) l ht
  have hcounted : queueSound (countField (s.due.foldl actBlock s)) := hact _ h
  exact queueSound_settleField (s := decideScan _) (hact _ hcounted)

theorem queueSound_fadeEvent (test : State → Entry → Bool) (h : queueSound s) : queueSound (fadeEvent test s) := by
  have hexamined : queueSound (examineNext test s) := by
    unfold examineNext
    (repeat' split) <;> simp [h]
  refine queueSound_settleField ?_
  dsimp only
  split
  · split
    · exact hexamined
    · exact queueSound_actBlock _ hexamined
  · exact h

/-- An event that lets a block act where it is due. -/
theorem queueSound_eventOf (b : FieldBlock) (p : Prop) [Decidable p] (h : queueSound s) :
    queueSound (settleField (if p then actBlock s b else s)) := by
  refine queueSound_settleField ?_
  split
  · exact queueSound_actBlock b h
  · exact h

theorem queueSound_activationEvent (h : queueSound s) : queueSound (activationEvent s) := by
  refine queueSound_settleField ?_
  split
  · exact queueSound_actBlock _ h
  split
  · exact h
  · exact queueSound_deliverKeys (queueSound_completeActivation _ h)

/-! ### The rows of the table -/

theorem queueSound_arriveSegment (lane : Owner) (kind : Byte) (p : List Byte) (h : queueSound s) :
    queueSound (arriveSegment lane kind p s) := by
  unfold arriveSegment
  split
  · exact queueSound_wholeSegment lane kind p h
  · exact h

theorem queueSound_finishSetup (h : queueSound s) : queueSound (finishSetup s) := by
  unfold finishSetup
  split
  · dsimp only
    split <;> exact h
  · exact h

theorem queueSound_timeOutFrame (bytes : List Byte) (h : queueSound s) : queueSound (timeOutFrame bytes s) := by
  unfold timeOutFrame
  split
  · exact h
  · exact (queueSound_receiveFrame bytes).2 h

theorem queueSound_awake {f : State → State} (hf : queueSound (f s)) (h : queueSound s) : queueSound (awake f s) := by
  unfold awake
  split
  · exact h
  · exact hf

theorem queueSound_releaseReset (h : queueSound s) : queueSound (releaseReset s) := by
  unfold releaseReset
  split <;> exact h

/-- Every row of the table keeps the exchange queue sound. -/
theorem queueSound_exec (i : Instr) (h : queueSound s) : ∃ t, exec i s = .next t ∧ queueSound t := by
  have hsegment (lane : Owner) (kind : Byte) (p : List Byte) : queueSound (awake (arriveSegment lane kind p) s) :=
    queueSound_awake (queueSound_arriveSegment lane kind p h) h
  have hevent (b : FieldBlock) (p : Prop) [Decidable p] :
      queueSound (awake (fun _ => settleField (if p then actBlock s b else s)) s) :=
    queueSound_awake (queueSound_eventOf b p h) h
  by_cases hcommand : (encodeFrame i).isSome = true
  · exact ⟨_, exec_of_encodeFrame i s hcommand, queueSound_runCommand i h⟩
  cases i
  case powerOn => exact ⟨_, rfl, queueSound_resetBlocks s⟩
  case resetN => exact ⟨_, rfl, queueSound_resetBlocks s⟩
  case fieldStart order => exact ⟨_, rfl, queueSound_awake (queueSound_fieldStart order h) h⟩
  case passComplete => exact ⟨_, rfl, queueSound_awake ((queueSound_of_exch (exch_completePass s)).2 h) h⟩
  case fadeInEnd => exact ⟨_, rfl, queueSound_awake (queueSound_fadeEvent _ h) h⟩
  case fadeOutEnd => exact ⟨_, rfl, queueSound_awake (queueSound_fadeEvent _ h) h⟩
  case activationComplete => exact ⟨_, rfl, queueSound_awake (queueSound_activationEvent h) h⟩
  case pageTimeoutExpiry => exact ⟨_, rfl, hevent _ _⟩
  case holdRunOut => exact ⟨_, rfl, hevent _ _⟩
  case transitionEnd => exact ⟨_, rfl, hevent _ _⟩
  case keyDelivery => exact ⟨_, rfl, queueSound_awake (queueSound_deliverKeys h) h⟩
  case saveDone => exact ⟨_, rfl, queueSound_awake (queueSound_completeSave h) h⟩
  case loadDone k => exact ⟨_, rfl, queueSound_awake (queueSound_completeLoad k h) h⟩
  case streamByte b => exact ⟨_, rfl, queueSound_awake (queueSound_presentByte b h) h⟩
  case discLaneByte => exact ⟨_, rfl, queueSound_awake (queueSound_takeLaneByte h) h⟩
  case segmentServe => exact ⟨_, rfl, queueSound_awake (queueSound_serve h) h⟩
  case edition => exact ⟨_, rfl, hsegment _ _ _⟩
  case time => exact ⟨_, rfl, hsegment _ _ _⟩
  case palette => exact ⟨_, rfl, hsegment _ _ _⟩
  case objectFirstPart => exact ⟨_, rfl, hsegment _ _ _⟩
  case objectPart => exact ⟨_, rfl, hsegment _ _ _⟩
  case page => exact ⟨_, rfl, hsegment _ _ _⟩
  case slidelist => exact ⟨_, rfl, hsegment _ _ _⟩
  case cue => exact ⟨_, rfl, hsegment _ _ _⟩
  case delete => exact ⟨_, rfl, hsegment _ _ _⟩
  case linkTimeout => exact ⟨_, rfl, queueSound_timeOutFrame _ h⟩
  case unknownCommand => exact ⟨_, rfl, queueSound_completeFrame _ h⟩
  case readReply => exact ⟨_, rfl, queueSound_readFrame _ _ h⟩
  case readStatus => exact ⟨_, rfl, queueSound_readFrame _ _ h⟩
  case readNotice => exact ⟨_, rfl, queueSound_readNoticeFrame _ h⟩
  case setupClearDone => exact ⟨_, rfl, queueSound_awake (queueSound_finishSetup h) h⟩
  case resetNRelease => exact ⟨_, rfl, queueSound_releaseReset h⟩
  all_goals exact absurd rfl hcommand

end CommandQueue

/-- Settles O58: the queue changes only where requests join, leave or are served, and an exchange starts only for a page
that has just left the queue. -/
theorem everyStepKeepsTheExchangeQueue : Obligations.EveryStepKeepsTheExchangeQueue := by
  intro s t hs hstep
  unfold step at hstep
  split at hstep
  · injection hstep with hstep
    exact hstep ▸ hs
  · obtain ⟨u, hu, hsound⟩ := queueSound_exec _ ((queueSound_setPending _).2 hs)
    cases hu.symm.trans hstep
    exact hsound

end Sys2Proof.Machine

namespace Sys2Proof.Machine

open Sys2Proof

/-! ## SAVE_DONE (R54, R55) -/

/-- Outside RESET_N low an event does what it does. -/
theorem awake_of_high {s : State} (h : s.resetLow = false) (f : State → State) : awake f s = f s := if_neg (by simp [h])

/-- Writing a slot twice is writing it once. -/
theorem setSlot_setSlot (k : Fin 6) (v w : Slot) (s : State) : setSlot k w (setSlot k v s) = setSlot k w s := by
  simp only [setSlot, State.setExch_exch, Vector.set_set]
  rfl

/-- A save whose load was cancelled leaves the slot EMPTY and no exchange (R55). -/
theorem leaveSave_cancelled (x : Transfer) (s : State) (h : x.cancelled = true) :
    leaveSave x s = s.setExch { s.exch with slots := s.exch.slots.set x.slot slotReset, current := none } := by
  simp only [leaveSave, h, if_true]
  rfl

/-- Any other save turns to the load of the incoming page in the same slot (R55). -/
theorem leaveSave_load (x : Transfer) (s : State) (h : x.cancelled = false) :
    leaveSave x s = s.setExch { s.exch with
      slots := s.exch.slots.set x.slot { slotReset with st := .loading, page := some x.page }
      current := some { x with stage := .load } } := by
  unfold leaveSave startLoad
  rw [if_neg (by simp [h])]
  dsimp only
  rw [setSlot_setSlot]
  rfl

/-- A save that is done writes its record, flags the victim, leaves the save and takes up work (R52, R54). -/
theorem completeSave_eq {s : State} {x : Transfer} {v : PageRef} (hcurrent : s.exch.current = some x)
    (hstage : x.stage = .save) (hpage : (slotAt x.slot s).page = some v) :
    completeSave s = takeUp (leaveSave x ((s.setMem
      (s.mem.writeBytes (saveAddr v) (saveRecord (slotAt x.slot s)))).setPages
        (s.pages.set (pageIndex v) { pageEntry v s with saved := true }))) := by
  simp only [completeSave, hcurrent, hstage, if_true, hpage]
  rfl

/-- Settles O23: the record is written and the flag set before the save is left, in one of its two ways. -/
theorem saveDoneRecordsTheVictim : Obligations.SaveDoneRecordsTheVictim := by
  intro s x v hawake hcurrent hstage hpage saved
  have hexec : exec .saveDone s = .next (takeUp (leaveSave x saved)) := by
    rw [← completeSave_eq hcurrent hstage hpage]
    exact congrArg Host.Outcome.next (awake_of_high hawake completeSave)
  constructor
  · intro hgoes
    rw [hexec, leaveSave_load x saved hgoes, takeUp_busy rfl]
    rfl
  · intro hcancelled
    rw [hexec, leaveSave_cancelled x saved hcancelled]
    rfl

end Sys2Proof.Machine

namespace Sys2Proof.Machine

open Sys2Proof

/-! ## What the interactive commands and events leave (R65, R84, R94, R107, R116, R121) -/

/-! ### Command frames -/

theorem stillOffLink_of_still {s t : State} (h : still t = still s) : stillOffLink t = stillOffLink s := by
  unfold stillOffLink
  rw [h]

theorem stillOffLink_frameCrosses (bytes : List Byte) (s : State) :
    stillOffLink (frameCrosses bytes s) = stillOffLink s := by
  unfold frameCrosses
  rw [receiveFrame_eq]
  rfl

theorem stillOffLink_placeReply (cmd : Byte) (code : ReplyCode) (data : List Byte) (s : State) :
    stillOffLink (placeReply cmd code data s) = stillOffLink s := rfl

theorem stillOffLink_setLinkOverrun (s : State) : stillOffLink (setLinkOverrun s) = stillOffLink s := rfl

/-- A command whose body leaves `still` leaves the machine apart from what its frame leaves on the link. -/
theorem stillOffLink_command (cmd : Byte) (payload : List Byte) (act : State → Answer)
    (h : ∀ s, still (act s).state = still s) (s : State) :
    stillOffLink (command cmd payload act s) = stillOffLink s := by
  unfold command commandFrame
  split
  · rfl
  · have hcrossed := stillOffLink_frameCrosses (cmd :: BitVec.ofNat 8 payload.length :: payload) s
    dsimp only
    split
    · rwa [stillOffLink_setLinkOverrun]
    split
    · rwa [stillOffLink_placeReply]
    · rw [stillOffLink_placeReply, stillOffLink_of_still (h _), hcrossed]

theorem still_awake {f : State → State} (hf : ∀ s, still (f s) = still s) (s : State) :
    still (awake f s) = still s := by
  unfold awake
  split
  · rfl
  · exact hf s

theorem stillOffLink_interactive {i : Instr} {s t : State} (hi : isInteractive i = true) (h : exec i s = .next t) :
    stillOffLink t = stillOffLink s := by
  have hnext {u : State} (hu : exec i s = .next u) (hsame : stillOffLink u = stillOffLink s) :
      stillOffLink t = stillOffLink s := by
    cases hu.symm.trans h
    exact hsame
  cases i
  case key => exact hnext rfl (stillOffLink_command _ _ _ (fun s => still_doKey _ s) s)
  case showPage => exact hnext rfl (stillOffLink_command _ _ _ (fun s => still_doShow _ _ _ s) s)
  case hidePage => exact hnext rfl (stillOffLink_command _ _ _ (fun s => still_doHide _ _ s) s)
  case hideBand => exact hnext rfl (stillOffLink_command _ _ _ (fun s => still_doHideBand _ s) s)
  case select => exact hnext rfl (stillOffLink_command _ _ _ (fun s => still_doSelect _ _ _ s) s)
  case setButton => exact hnext rfl (stillOffLink_command _ _ _ (fun s => still_doSetButton _ _ _ _ s) s)
  case setTimeout => exact hnext rfl (stillOffLink_command _ _ _ (fun s => still_doSetTimeout _ _ _ _ s) s)
  case readPage => exact hnext rfl (stillOffLink_command _ _ _ (fun s => still_doReadPage _ _ s) s)
  case setVar => exact hnext rfl (stillOffLink_command _ _ _ (fun s => still_doSetVar _ _ s) s)
  case getVar => exact hnext rfl (stillOffLink_command _ _ _ (fun s => still_doGetVar _ s) s)
  case slideStart => exact hnext rfl (stillOffLink_command _ _ _ (fun s => still_doSlideStart _ _ _ s) s)
  case slideStop => exact hnext rfl (stillOffLink_command _ _ _ (fun s => still_doSlideStop s) s)
  case slidePause => exact hnext rfl (stillOffLink_command _ _ _ (fun s => still_doSlidePause s) s)
  case slideResume => exact hnext rfl (stillOffLink_command _ _ _ (fun s => still_doSlideResume s) s)
  case slideStep => exact hnext rfl (stillOffLink_command _ _ _ (fun s => still_doSlideStep _ s) s)
  case setHold => exact hnext rfl (stillOffLink_command _ _ _ (fun s => still_doSetHold _ _ s) s)
  case keyDelivery => exact hnext rfl (stillOffLink_of_still (still_awake (fun s => still_deliverKeys s) s))
  case loadDone k => exact hnext rfl (stillOffLink_of_still (still_awake (fun s => still_completeLoad s k) s))
  all_goals cases hi

/-! ### Events of a field start -/

/-- Besides the interactive blocks only the record of the blocks that have still to act changes (log 1). -/
def OnlyDue (s t : State) : Prop := still t = (still s).setDue t.due

theorem OnlyDue.of_still {s t : State} (h : still t = still s) : OnlyDue s t := by
  have hdue : (still t).due = (still s).due := by rw [h]
  have hdue : t.due = s.due := hdue
  unfold OnlyDue
  rw [h, hdue]
  rfl

theorem OnlyDue.trans {s t u : State} (h : OnlyDue s t) (k : OnlyDue t u) : OnlyDue s u := by
  unfold OnlyDue at *
  rw [k, h]
  rfl

/-- The blocks that act within a field start, or for an event of it, are interactive. -/
theorem onlyDue_actBlock {b : FieldBlock} (hb : b ∈ eventBlocks) (s : State) : OnlyDue s (actBlock s b) := by
  unfold actBlock
  split
  · refine OnlyDue.trans (t := s.setDue (s.due.erase b)) rfl (OnlyDue.of_still ?_)
    cases b with
    | pageStack => exact (still_deliverKeys _).trans (still_stackField _)
    | navigation => exact still_navigationField _
    | sequencer => exact still_sequencerField _
    | cues => exact absurd hb (by decide)
    | composer => exact absurd hb (by decide)
  · exact .of_still rfl

theorem onlyDue_settleField (s : State) : OnlyDue s (settleField s) := by
  unfold settleField
  split
  · exact .of_still rfl
  · have hstack := onlyDue_actBlock (b := .pageStack) (by decide) s
    have hnav := onlyDue_actBlock (b := .navigation) (by decide) (actBlock s .pageStack)
    exact (hstack.trans hnav).trans (onlyDue_actBlock (b := .sequencer) (by decide) _)

theorem onlyDue_fadeEvent (test : State → Entry → Bool) (s : State) : OnlyDue s (fadeEvent test s) := by
  have hexamined : OnlyDue s (examineNext test s) := by
    refine .of_still ?_
    unfold examineNext
    (repeat' split)
    · rfl
    · exact still_examineEntry ..
    · rfl
  refine OnlyDue.trans ?_ (onlyDue_settleField _)
  dsimp only
  split
  · split
    · exact hexamined
    · exact hexamined.trans (onlyDue_actBlock (by decide) _)
  · exact .of_still rfl

theorem onlyDue_eventOf {b : FieldBlock} (hb : b ∈ eventBlocks) (p : Prop) [Decidable p] (s : State) :
    OnlyDue s (settleField (if p then actBlock s b else s)) := by
  refine OnlyDue.trans ?_ (onlyDue_settleField _)
  split
  · exact onlyDue_actBlock hb s
  · exact .of_still rfl

theorem onlyDue_activationEvent (s : State) : OnlyDue s (activationEvent s) := by
  refine OnlyDue.trans ?_ (onlyDue_settleField _)
  split
  · exact onlyDue_actBlock (by decide) s
  split
  · exact .of_still rfl
  · exact .of_still ((still_deliverKeys _).trans (still_completeActivation ..))

theorem onlyDue_awake {f : State → State} (hf : ∀ s, OnlyDue s (f s)) (s : State) : OnlyDue s (awake f s) := by
  unfold awake
  split
  · exact .of_still rfl
  · exact hf s

theorem onlyDue_fieldEvent {i : Instr} {s t : State}
    (hi : i ∈ [Instr.fadeInEnd, .fadeOutEnd, .activationComplete, .pageTimeoutExpiry, .holdRunOut, .transitionEnd])
    (h : exec i s = .next t) : OnlyDue s t := by
  simp only [List.mem_cons, List.not_mem_nil, or_false] at hi
  rcases hi with rfl | rfl | rfl | rfl | rfl | rfl <;> cases h
  · exact onlyDue_awake (onlyDue_fadeEvent _) s
  · exact onlyDue_awake (onlyDue_fadeEvent _) s
  · exact onlyDue_awake onlyDue_activationEvent s
  · exact onlyDue_awake (onlyDue_eventOf (by decide) _) s
  · exact onlyDue_awake (onlyDue_eventOf (by decide) _) s
  · exact onlyDue_awake (onlyDue_eventOf (by decide) _) s

/-! ### SAVE_DONE -/

theorem length_packBits (bits : List Bool) : (packBits bits).length = (bits.length + 7) / 8 := by simp [packBits]

theorem length_presenceMask (d : PageDef) (sl : Slot) : (presenceMask d sl).length = 24 := by simp [presenceMask]

theorem length_markedStates_le (d : PageDef) (sl : Slot) : (markedStates d sl).length ≤ 24 := by
  rw [markedStates, List.length_map]
  exact (List.length_filter_le _ _).trans (List.length_range).le

/-- A save record fits into the save area (R37, R54). -/
theorem length_saveRecord_le (sl : Slot) : (saveRecord sl).length ≤ 16 := by
  unfold saveRecord
  split
  · simp
  · rename_i d _
    have hmarked := length_markedStates_le d sl
    simp only [List.length_append, List.length_singleton, length_packBits, length_presenceMask]
    omega

/-- Bytes written inside the 16 of a save area leave every other byte (R37). -/
theorem read_writeSaved {bs : List Byte} (hbs : bs.length ≤ 16) (m : Memory) (v : PageRef) {a : Addr}
    (ha : a.toNat < saveAddr v ∨ saveAddr v + 16 ≤ a.toNat) : (m.writeBytes (saveAddr v) bs).read a = m.read a := by
  refine Memory.read_writeBytes_outside _ _ _ _ fun i hi h => ?_
  have hend := imageAddr_le v
  have hat : a.toNat = saveAddr v + i := by
    rw [h, BitVec.toNat_ofNat]
    unfold saveAddr
    omega
  omega

/-- Turning from the save to the load, with the victim flagged, leaves `still`. -/
theorem still_saveLeft (x : Transfer) (v : PageRef) (s : State) :
    still (takeUp (leaveSave x (setPageEntry v { pageEntry v s with saved := true } s))) = still s := by
  rw [still_takeUp, still_leaveSave, still_saved]

/-- A save that is done leaves `still` but for the record it writes (R54). -/
theorem still_completeSave (s : State) : still (completeSave s) = still s ∨ ∃ x v, s.exch.current = some x ∧
    (slotAt x.slot s).page = some v ∧
    still (completeSave s) = still (s.setMem (s.mem.writeBytes (saveAddr v) (saveRecord (slotAt x.slot s)))) := by
  unfold completeSave
  split
  · exact .inl rfl
  rename_i x hx
  dsimp only
  split
  · split
    · exact .inl ((still_takeUp _).trans (still_leaveSave ..))
    · rename_i v hv
      exact .inr ⟨x, v, hx, hv, still_saveLeft x v _⟩
  · exact .inl rfl

/-- Settles O52: every operation of the interactive blocks leaves `still`; a frame, the record of the blocks still to
act and a save record are all that is written besides. -/
theorem interactiveCommandsKeepTheRest : Obligations.InteractiveCommandsKeepTheRest := by
  refine ⟨fun i s t hi h => stillOffLink_interactive hi h, fun i s t hi h => onlyDue_fieldEvent hi h, fun s t h => ?_⟩
  cases h
  unfold awake
  split
  · exact ⟨rfl, fun _ _ => rfl⟩
  · rcases still_completeSave s with hsame | ⟨x, v, hx, hv, hwritten⟩
    · rw [mem_of_still hsame, hsame]
      exact ⟨rfl, fun _ _ => rfl⟩
    · rw [mem_of_still hwritten, hwritten]
      exact ⟨rfl, fun a ha => read_writeSaved (length_saveRecord_le _) _ _ (ha x v hx hv)⟩

end Sys2Proof.Machine

namespace Sys2Proof.Machine

open Sys2Proof

/-! ## SELECT and SET_BUTTON (R51, R101, R103, R104, R106) -/

theorem onPage_of_argument {owner page : Byte} {r : PageRef} (h : pageArgument owner page = some r)
    (act : PageRef → State → Answer) (s : State) : onPage owner page act s = act r s := by
  simp only [onPage, h]

theorem onMenuPage_of_menu {r : PageRef} {s : State} (h : isMenuPage r s = true) (act : State → Answer) :
    onMenuPage r act s = act s := by
  simp only [isMenuPage, Bool.and_eq_true, beq_iff_eq] at h
  obtain ⟨hdefined, hkind⟩ := h
  simp [onMenuPage, hdefined, hkind]

section Change

variable {owner page : Byte} {r : PageRef} {s : State} (harg : pageArgument owner page = some r)
  (hmenu : isMenuPage r s = true) {b : Byte}

include harg hmenu

theorem doSelect_badButton (hb : 64 ≤ b.toNat) : doSelect owner page b s = refusedWith .badArgument s := by
  unfold doSelect
  rw [onPage_of_argument harg, onMenuPage_of_menu hmenu, if_pos hb]

theorem doSelect_ready (hb : b.toNat < 64) {k : Fin 6} (hk : readySlot r s = some k) :
    doSelect owner page b s = done (deliverKeys (selectButton k b s)) := by
  unfold doSelect
  rw [onPage_of_argument harg, onMenuPage_of_menu hmenu, if_neg (Nat.not_le.2 hb)]
  simp only [hk]

theorem doSelect_notReady (hb : b.toNat < 64) (hk : readySlot r s = none) :
    doSelect owner page b s = holdChange r (holdSelect b) s := by
  unfold doSelect
  rw [onPage_of_argument harg, onMenuPage_of_menu hmenu, if_neg (Nat.not_le.2 hb)]
  simp only [hk]

variable (enable : Byte)

theorem doSetButton_badButton (hb : 64 ≤ b.toNat) :
    doSetButton owner page b enable s = refusedWith .badArgument s := by
  unfold doSetButton
  rw [onPage_of_argument harg, onMenuPage_of_menu hmenu, if_pos hb]

theorem doSetButton_unheld (hb : b.toNat < 64) {k : Fin 6} (hk : readySlot r s = some k)
    (hi : slotButton (slotAt k s) b = none) : doSetButton owner page b enable s = refusedWith .badArgument s := by
  unfold doSetButton
  rw [onPage_of_argument harg, onMenuPage_of_menu hmenu, if_neg (Nat.not_le.2 hb)]
  simp only [hk, hi]

theorem doSetButton_ready (hb : b.toNat < 64) {k : Fin 6} (hk : readySlot r s = some k) {i : Nat}
    (hi : slotButton (slotAt k s) b = some i) :
    doSetButton owner page b enable s = done (deliverKeys (changeEnable k i (enable != 0) s)) := by
  unfold doSetButton
  rw [onPage_of_argument harg, onMenuPage_of_menu hmenu, if_neg (Nat.not_le.2 hb)]
  simp only [hk, hi]

theorem doSetButton_notReady (hb : b.toNat < 64) (hk : readySlot r s = none) :
    doSetButton owner page b enable s = holdChange r (holdEnable b (enable != 0)) s := by
  unfold doSetButton
  rw [onPage_of_argument harg, onMenuPage_of_menu hmenu, if_neg (Nat.not_le.2 hb)]
  simp only [hk]

end Change

/-! ### A change that waits for the controller request (R51): refused while the request is another page's, added to its
own, or the first of a new one -/

section HoldChange

variable {r : PageRef} {s : State} (change : Navigation → Navigation)

theorem holdChange_busy {x : PageRef} (hx : s.exch.ctrlReq = some x) (hne : x ≠ r) :
    holdChange r change s = refusedWith .busy s := by
  simp only [holdChange, hx, if_neg hne]

theorem holdChange_same (hr : s.exch.ctrlReq = some r) :
    holdChange r change s = done (s.setNav (change s.nav)) := by
  simp only [holdChange, hr, if_true]

theorem holdChange_new (hnone : s.exch.ctrlReq = none) :
    holdChange r change s = done (takeUp (
      (s.setNav (change { s.nav with heldEnables := [], heldSelect := none })).setExch
        { s.exch with ctrlReq := some r })) := by
  simp only [holdChange, hnone]

end HoldChange

section Rows

variable {s : State} (hopen : linkOpen s = true)

include hopen

/-- SELECT answers what its body answers. -/
theorem exec_select {owner page b : Byte} {a : Answer} (ha : doSelect owner page b (crossed 3 s) = a) :
    exec (.select owner page b) s = .next (placeReply 0x14 a.code a.data a.state) := by
  rw [exec_of_encodeFrame _ _ rfl, runCommand, runSelect, command_linkOpen hopen _ _ rfl]
  subst ha
  rfl

/-- SET_BUTTON answers what its body answers. -/
theorem exec_setButton {owner page b enable : Byte} {a : Answer}
    (ha : doSetButton owner page b enable (crossed 4 s) = a) :
    exec (.setButton owner page b enable) s = .next (placeReply 0x15 a.code a.data a.state) := by
  rw [exec_of_encodeFrame _ _ rfl, runCommand, runSetButton, command_linkOpen hopen _ _ rfl]
  subst ha
  rfl

end Rows

/-! ### Selecting a button (R88, R89, R101) -/

theorem selectIn_page (now : Word) (c : Nat) (sl : Slot) : (selectIn now c sl).page = sl.page := by
  unfold selectIn
  split <;> rfl

/-- New button states make the slot dirty, clear the page's saved flag and ask for a recomposition (R43, R46). -/
theorem commitButtons_eq (k : Fin 6) {v : Slot} {r : PageRef} (hpage : v.page = some r) (s : State) :
    commitButtons k v s = raiseRecompose ((setSlot k { v with dirty := true } s).setPages
      (s.pages.set (pageIndex r) { pageEntry r s with saved := false })) := by
  unfold commitButtons markDirty
  rw [slotAt_setSlot_same]
  dsimp only
  rw [setSlot_setSlot]
  simp only [hpage]
  rfl

theorem becomeSelection_same {k : Fin 6} {c : Nat} {s : State} (h : selectionIndex (slotAt k s) = some c) :
    becomeSelection k c s = s := if_pos h

theorem becomeSelection_moves {k : Fin 6} {c : Nat} {s : State} (h : selectionIndex (slotAt k s) ≠ some c) :
    becomeSelection k c s = commitButtons k (selectIn s.disp.counter c (slotAt k s)) s := if_neg h

theorem selectButton_held {k : Fin 6} {id : Byte} {c : Nat} {s : State} (hc : slotButton (slotAt k s) id = some c)
    (hon : enabledAt (slotAt k s) c = true) : selectButton k id s = becomeSelection k c s := by
  simp only [selectButton, hc, hon, if_true]

/-- In place of a button that is not held or not enabled the default rule chooses (R101). -/
theorem selectButton_default {k : Fin 6} {id : Byte} {s : State}
    (h : ¬ ∃ c, slotButton (slotAt k s) id = some c ∧ enabledAt (slotAt k s) c = true) :
    selectButton k id s = applyDefault k s := by
  unfold selectButton
  split
  · rename_i c hc
    exact if_neg fun hon => h ⟨c, hc, hon⟩
  · rfl

theorem applyDefault_some {k : Fin 6} {s : State} {d : PageDef} {c : Nat} (hd : (slotAt k s).defn = some d)
    (hc : defaultChoice d (slotAt k s).buttons = some c) : applyDefault k s = becomeSelection k c s := by
  simp only [applyDefault, hd, hc]

theorem applyDefault_none {k : Fin 6} {s : State} {d : PageDef} (hd : (slotAt k s).defn = some d)
    (hc : defaultChoice d (slotAt k s).buttons = none) : applyDefault k s =
      if (slotAt k s).selection = none then s else commitButtons k { slotAt k s with selection := none } s := by
  simp only [applyDefault, hd, hc]

/-- Settles O36: the cases of the two bodies under their frame, then the choice that selecting a button makes. -/
theorem selectAndSetButton : Obligations.SelectAndSetButton := by
  refine ⟨fun s owner page r b enable hopen harg hmenu => ⟨fun hb => ⟨?_, ?_⟩, fun hb =>
    ⟨fun k hk => ⟨?_, fun hi => ?_, fun i hi => ?_⟩, fun hk =>
      ⟨fun x hx hne => ⟨?_, ?_⟩, fun hr => ⟨?_, ?_⟩, fun hnone => ⟨?_, ?_⟩⟩⟩⟩,
    fun s k b d r hd hpage => ?_⟩
  · exact exec_select hopen (doSelect_badButton (s := crossed 3 s) harg hmenu hb)
  · exact exec_setButton hopen (doSetButton_badButton (s := crossed 4 s) harg hmenu enable hb)
  · exact exec_select hopen (doSelect_ready (s := crossed 3 s) harg hmenu hb hk)
  · exact exec_setButton hopen (doSetButton_unheld (s := crossed 4 s) harg hmenu enable hb hk hi)
  · exact exec_setButton hopen (doSetButton_ready (s := crossed 4 s) harg hmenu enable hb hk hi)
  · exact exec_select hopen ((doSelect_notReady (s := crossed 3 s) harg hmenu hb hk).trans (holdChange_busy _ hx hne))
  · exact exec_setButton hopen (
      (doSetButton_notReady (s := crossed 4 s) harg hmenu enable hb hk).trans (holdChange_busy _ hx hne))
  · exact exec_select hopen ((doSelect_notReady (s := crossed 3 s) harg hmenu hb hk).trans (holdChange_same _ hr))
  · exact exec_setButton hopen (
      (doSetButton_notReady (s := crossed 4 s) harg hmenu enable hb hk).trans (holdChange_same _ hr))
  · exact exec_select hopen ((doSelect_notReady (s := crossed 3 s) harg hmenu hb hk).trans (holdChange_new _ hnone))
  · exact exec_setButton hopen (
      (doSetButton_notReady (s := crossed 4 s) harg hmenu enable hb hk).trans (holdChange_new _ hnone))
  · intro sl held changed
    have hbecomes {c : Nat} (h : selectButton k b s = becomeSelection k c s) :
        (selectionIndex sl = some c → selectButton k b s = s) ∧
        (selectionIndex sl ≠ some c → selectButton k b s = changed (selectIn s.disp.counter c sl)) := by
      refine ⟨fun hsame => h.trans (becomeSelection_same hsame), fun hmoves => ?_⟩
      rw [h, becomeSelection_moves hmoves]
      exact commitButtons_eq k ((selectIn_page ..).trans hpage) s
    refine ⟨fun c hc => hbecomes ?_, fun hother hnone => ?_⟩
    · rcases hc with ⟨hb, hon⟩ | ⟨hother, hdefault⟩
      · exact selectButton_held hb hon
      · exact (selectButton_default hother).trans (applyDefault_some hd hdefault)
    · rw [selectButton_default hother, applyDefault_none hd hnone]
      refine if_congr Iff.rfl rfl ?_
      exact commitButtons_eq k (v := { sl with selection := none }) hpage s

end Sys2Proof.Machine

namespace Sys2Proof.Machine

open Sys2Proof

/-! ## The exchange (R47 to R54) -/

/-! ### The choice of a slot (R53) -/

/-- The place of a slot in the cyclic order that begins after the cursor. -/
def cyclicPlace (c k : Fin 6) : Nat := (k.val + 5 - c.val) % 6

theorem mem_cyclicSlots (c k : Fin 6) : k ∈ cyclicSlots c := by
  revert c k
  decide

theorem cyclicSlots_ordered (c : Fin 6) :
    (cyclicSlots c).Pairwise (fun a b => cyclicPlace c a ≤ cyclicPlace c b) := by
  revert c
  decide

/-- What a search finds in an ordered list comes before everything else that meets the test. -/
theorem find?_first {α : Type} {R : α → α → Prop} (hrefl : ∀ a, R a a) {p : α → Bool} {l : List α}
    (hl : l.Pairwise R) {k : α} (h : l.find? p = some k) : ∀ j ∈ l, p j = true → R k j := by
  obtain ⟨-, before, after, rfl, hbefore⟩ := List.find?_eq_some_iff_append.1 h
  intro j hj hpj
  rcases List.mem_append.1 hj with hj | hj
  · have hno := hbefore j hj
    simp [hpj] at hno
  · rcases List.mem_cons.1 hj with rfl | hj
    · exact hrefl _
    · exact (List.pairwise_cons.1 (List.pairwise_append.1 hl).2.1).1 j hj

/-- A pass takes the first slot in cyclic order that meets its test. -/
theorem find?_cyclicSlots_some {c : Fin 6} {test : Fin 6 → Bool} {k : Fin 6}
    (h : (cyclicSlots c).find? test = some k) :
    test k = true ∧ ∀ j, test j = true → cyclicPlace c k ≤ cyclicPlace c j :=
  ⟨List.find?_some h, fun j hj =>
    find?_first (R := fun a b => cyclicPlace c a ≤ cyclicPlace c b) (fun _ => Nat.le_refl _)
      (cyclicSlots_ordered c) h j (mem_cyclicSlots c j) hj⟩

theorem find?_cyclicSlots_none {c : Fin 6} {test : Fin 6 → Bool} :
    (cyclicSlots c).find? test = none ↔ ∀ j, test j = false := by
  rw [List.find?_eq_none]
  exact ⟨fun h j => by simpa using h j (mem_cyclicSlots c j), fun h j _ => by simp [h j]⟩

theorem emptyTest_iff (s : State) (k : Fin 6) : emptyTest s k = true ↔ (slotAt k s).st = .empty := by
  simp [emptyTest]

theorem victimTest_iff (s : State) (k : Fin 6) :
    victimTest s k = true ↔ (slotAt k s).st = .ready ∧ pinned k s = false := by
  simp [victimTest]

theorem cleanTest_iff (s : State) (k : Fin 6) :
    cleanTest s k = true ↔ ((slotAt k s).st = .ready ∧ pinned k s = false) ∧ (slotAt k s).dirty = false := by
  simp [cleanTest, victimTest]

theorem chooseSlot_none_iff (s : State) :
    chooseSlot s = none ↔ ∀ k, emptyTest s k = false ∧ victimTest s k = false := by
  simp only [chooseSlot, Option.or_eq_none_iff, find?_cyclicSlots_none]
  constructor
  · rintro ⟨⟨hempty, -⟩, hvictim⟩ k
    exact ⟨hempty k, hvictim k⟩
  · intro h
    exact ⟨⟨fun k => (h k).1, fun k => by simp [cleanTest, (h k).2]⟩, fun k => (h k).2⟩

/-- The first pass that any slot meets decides. -/
theorem chooseSlot_some {s : State} {k : Fin 6} (h : chooseSlot s = some k) :
    (cyclicSlots s.exch.cursor).find? (emptyTest s) = some k ∨
    ((∀ j, emptyTest s j = false) ∧ (cyclicSlots s.exch.cursor).find? (cleanTest s) = some k) ∨
    ((∀ j, emptyTest s j = false) ∧ (∀ j, cleanTest s j = false) ∧
      (cyclicSlots s.exch.cursor).find? (victimTest s) = some k) := by
  unfold chooseSlot at h
  cases hempty : (cyclicSlots s.exch.cursor).find? (emptyTest s) with
  | some j => exact .inl (by simpa [hempty] using h)
  | none =>
    have hnone := find?_cyclicSlots_none.1 hempty
    cases hclean : (cyclicSlots s.exch.cursor).find? (cleanTest s) with
    | some j => exact .inr (.inl ⟨hnone, by simpa [hempty, hclean] using h⟩)
    | none =>
      exact .inr (.inr ⟨hnone, find?_cyclicSlots_none.1 hclean, by simpa [hempty, hclean] using h⟩)

/-! ### Pins (R47) -/

theorem hasEntry_iff_mem (r : PageRef) (s : State) : hasEntry r s = true ↔ ∃ e ∈ s.stack.entries, e.page = r := by
  simp [hasEntry]

theorem pinned_iff (s : State) (k : Fin 6) : pinned k s = true ↔
    (∃ e ∈ s.stack.entries, (slotAt k s).page = some e.page ∧ (pageEntry e.page s).slot = some k) ∨
    ∃ x, s.exch.current = some x ∧ x.slot = k ∧ ∃ e ∈ s.stack.entries, e.page = x.page := by
  unfold pinned
  rw [Bool.or_eq_true]
  refine or_congr ?_ ?_
  · cases hpage : (slotAt k s).page with
    | none => simp
    | some r =>
      simp only [Bool.and_eq_true, beq_iff_eq, hasEntry_iff_mem, residentSlot, Option.some.injEq]
      constructor
      · rintro ⟨hslot, e, he, rfl⟩
        exact ⟨e, he, rfl, hslot⟩
      · rintro ⟨e, he, rfl, hslot⟩
        exact ⟨hslot, e, he, rfl⟩
  · cases hcurrent : s.exch.current with
    | none => simp
    | some x => simp [hasEntry_iff_mem]

/-! ### The taking up of work (R52) -/

theorem isResident_iff (r : PageRef) (s : State) : isResident r s = true ↔ (pageEntry r s).slot ≠ none := by
  simp [isResident, residentSlot, Option.isSome_iff_ne_none]

section TakeUp

variable {s : State} (hidle : s.exch.current = none)

include hidle

theorem takeUp_resident {q : Request} {qs : List Request} (hqueue : s.exch.queue = q :: qs)
    (hslot : (pageEntry q.page s).slot ≠ none) :
    takeUp s = takeUp (s.setExch { s.exch with queue := qs }) := by
  simp only [takeUp, hidle, hqueue, takeRequests, (isResident_iff q.page s).2 hslot, if_true, State.setExch_exch]

theorem takeUp_head {q : Request} {qs : List Request} (hqueue : s.exch.queue = q :: qs)
    (hslot : (pageEntry q.page s).slot = none) :
    takeUp s = match chooseSlot s with
      | none => s
      | some k => startExchange q.page k (s.setExch { s.exch with queue := qs }) := by
  have hresident : isResident q.page s = false := by simp [isResident, residentSlot, hslot]
  simp only [takeUp, hidle, hqueue, takeRequests, hresident]
  rfl

variable (hqueue : s.exch.queue = [])

include hqueue

theorem takeUp_noRequest (hreq : s.exch.ctrlReq = none) : takeUp s = s := by
  simp only [takeUp, hidle, hqueue, takeRequests, takeControllerRequest, hreq]

theorem takeUp_requestResident {r : PageRef} (hreq : s.exch.ctrlReq = some r) (hslot : (pageEntry r s).slot ≠ none) :
    takeUp s = s := by
  simp only [takeUp, hidle, hqueue, takeRequests, takeControllerRequest, hreq, (isResident_iff r s).2 hslot, if_true]

theorem takeUp_controllerRequest {r : PageRef} (hreq : s.exch.ctrlReq = some r) (hslot : (pageEntry r s).slot = none) :
    takeUp s = match chooseSlot s with
      | none => s
      | some k => startExchange r k s := by
  have hresident : isResident r s = false := by simp [isResident, residentSlot, hslot]
  simp only [takeUp, hidle, hqueue, takeRequests, takeControllerRequest, hreq, hresident]
  rfl

end TakeUp

/-! ### The start of an exchange (R54) -/

theorem startExchange_empty {k : Fin 6} {s : State} (r : PageRef) (h : (slotAt k s).st = .empty) :
    startExchange r k s = s.setExch { s.exch with
      slots := s.exch.slots.set k { slotReset with st := .loading, page := some r }
      cursor := k, current := some ⟨r, k, .load, false⟩ } := by
  have h : (slotAt k (s.setExch { s.exch with cursor := k })).st = .empty := h
  unfold startExchange
  simp only [h, if_true]
  rfl

theorem startExchange_victim {k : Fin 6} {s : State} {v : PageRef} (r : PageRef) (hready : (slotAt k s).st = .ready)
    (hpage : (slotAt k s).page = some v) :
    startExchange r k s = (s.setPages (s.pages.set (pageIndex v) { pageEntry v s with slot := none })).setExch
      (if (slotAt k s).dirty = true then { s.exch with
        slots := s.exch.slots.set k { slotAt k s with st := .saving }
        cursor := k, current := some ⟨r, k, .save, false⟩ }
      else { s.exch with
        slots := s.exch.slots.set k { slotReset with st := .loading, page := some r }
        cursor := k, current := some ⟨r, k, .load, false⟩ }) := by
  have hsame : slotAt k (s.setExch { s.exch with cursor := k }) = slotAt k s := rfl
  unfold startExchange dropResidency
  cases hdirty : (slotAt k s).dirty with
  | true =>
    simp only [hsame, hready, hpage, hdirty, reduceCtorEq, if_false, if_true]
    rfl
  | false =>
    simp only [hsame, hready, hpage, hdirty, reduceCtorEq, if_false, Bool.false_eq_true]
    rfl

/-! ### Requests (R49, R50) -/

section Request

variable {w : Requester} {r : PageRef} {s : State}

theorem requestPage_resident (hslot : (pageEntry r s).slot ≠ none) : requestPage w r s = s :=
  if_pos ((isResident_iff r s).2 hslot)

variable (hslot : (pageEntry r s).slot = none)

include hslot

theorem requestPage_joins (hqueued : ∃ q ∈ s.exch.queue, q.page = r) : requestPage w r s = s.setExch { s.exch with
    queue := s.exch.queue.map (fun q => if q.page = r then addRequester w q else q) } := by
  unfold requestPage
  rw [if_neg fun h => (isResident_iff r s).1 h hslot, if_pos (by simpa using hqueued)]

variable (hnew : ¬ ∃ q ∈ s.exch.queue, q.page = r)

include hnew

theorem requestPage_incoming {x : Transfer} (hx : s.exch.current = some x) (hpage : x.page = r) :
    requestPage w r s = s := by
  unfold requestPage
  rw [if_neg fun h => (isResident_iff r s).1 h hslot, if_neg (by simpa using hnew),
    if_pos (by simpa [isIncoming, hx] using hpage)]

theorem requestPage_new (hother : ∀ x, s.exch.current = some x → x.page ≠ r) : requestPage w r s =
    takeUp (s.setExch { s.exch with queue := s.exch.queue ++ [addRequester w ⟨r, false, false⟩] }) := by
  have hincoming : isIncoming r s = false := by
    unfold isIncoming
    split
    · rfl
    · rename_i x hx
      simpa using hother x hx
  unfold requestPage
  rw [if_neg fun h => (isResident_iff r s).1 h hslot, if_neg (by simpa using hnew), if_neg (by simp [hincoming])]

end Request

/-- A requester leaves: the request stays while it has the other one. -/
theorem withdrawRequest_eq (w : Requester) (r : PageRef) {s : State}
    (hasked : ∀ q ∈ s.exch.queue, (q.byStack || q.bySequencer) = true) :
    withdrawRequest w r s = s.setExch { s.exch with
      queue := s.exch.queue.filterMap (fun q =>
        if q.page = r then
          (if ((dropRequester w q).byStack || (dropRequester w q).bySequencer) = true then some (dropRequester w q)
            else none)
        else some q) } := by
  unfold withdrawRequest
  rw [← List.filterMap_eq_filter, List.filterMap_map]
  refine congrArg (fun v => s.setExch { s.exch with queue := v }) (List.filterMap_congr fun q hq => ?_)
  rw [Function.comp_apply]
  by_cases hr : q.page = r
  · simp only [hr, if_true]
    rfl
  · simp only [hr, if_false, Option.guard, hasked q hq, if_true]

/-- Settles O25: one lemma for each pass, each case of the taking up, each kind of start and each kind of request. -/
theorem slotChoiceFollowsThePasses : Obligations.SlotChoiceFollowsThePasses := by
  refine ⟨fun s => ?_, pinned_iff, fun s => ?_, fun s r k => ?_, fun s r w => ?_⟩
  · intro place isEmpty victim clean
    have hempty (j : Fin 6) : emptyTest s j = false ↔ ¬ isEmpty j := Bool.eq_false_iff.trans (emptyTest_iff s j).not
    have hvictim (j : Fin 6) : victimTest s j = false ↔ ¬ victim j := Bool.eq_false_iff.trans (victimTest_iff s j).not
    have hclean (j : Fin 6) : cleanTest s j = false ↔ ¬ clean j := Bool.eq_false_iff.trans (cleanTest_iff s j).not
    refine ⟨?_, fun k hk => ?_⟩
    · simp only [chooseSlot_none_iff, hempty, hvictim]
    · rcases chooseSlot_some hk with hfirst | ⟨hnoEmpty, hfirst⟩ | ⟨hnoEmpty, hnoClean, hfirst⟩
      · obtain ⟨hmeets, hleast⟩ := find?_cyclicSlots_some hfirst
        exact .inl ⟨(emptyTest_iff s k).1 hmeets, fun j hj => hleast j ((emptyTest_iff s j).2 hj)⟩
      · obtain ⟨hmeets, hleast⟩ := find?_cyclicSlots_some hfirst
        exact .inr (.inl ⟨fun j => (hempty j).1 (hnoEmpty j), (cleanTest_iff s k).1 hmeets,
          fun j hj => hleast j ((cleanTest_iff s j).2 hj)⟩)
      · obtain ⟨hmeets, hleast⟩ := find?_cyclicSlots_some hfirst
        exact .inr (.inr ⟨fun j => (hempty j).1 (hnoEmpty j), fun j => (hclean j).1 (hnoClean j),
          (victimTest_iff s k).1 hmeets, fun j hj => hleast j ((victimTest_iff s j).2 hj)⟩)
  · intro rest
    exact ⟨fun x hx => takeUp_busy hx, fun hidle =>
      ⟨fun q qs hqueue => ⟨takeUp_resident hidle hqueue, takeUp_head hidle hqueue⟩, fun hqueue =>
        ⟨takeUp_noRequest hidle hqueue, fun r hreq =>
          ⟨takeUp_requestResident hidle hqueue hreq, takeUp_controllerRequest hidle hqueue hreq⟩⟩⟩⟩
  · intro begun loads
    exact ⟨startExchange_empty r, fun v => startExchange_victim r⟩
  · intro joined left queued
    have hjoined : joined = addRequester w := by cases w <;> rfl
    have hleft : left = dropRequester w := by cases w <;> rfl
    rw [hjoined, hleft]
    exact ⟨requestPage_resident, requestPage_joins, fun hslot hnew =>
      ⟨fun ⟨x, hx, hpage⟩ => requestPage_incoming hslot hnew hx hpage, requestPage_new hslot hnew⟩,
      withdrawRequest_eq w r⟩

end Sys2Proof.Machine

namespace Sys2Proof.Machine

open Sys2Proof

/-! ## The save record and what it brings back (R54, R56) -/

/-! ### Packed bits -/

/-- A number made of n bits is below 2 ^ n, and its bits are those. -/
theorem sum_bits (f : Nat → Bool) (n : Nat) :
    ((List.range n).map (fun j => if f j then 2 ^ j else 0)).sum < 2 ^ n ∧
    ∀ j, j < n → ((List.range n).map (fun j => if f j then 2 ^ j else 0)).sum.testBit j = f j := by
  induction n with
  | zero => exact ⟨Nat.one_pos, fun _ hj => absurd hj (Nat.not_lt_zero _)⟩
  | succ n ih =>
    obtain ⟨hlt, hbit⟩ := ih
    rw [List.range_succ, List.map_append, List.sum_append, List.map_singleton, List.sum_singleton, Nat.add_comm]
    cases hf : f n with
    | false =>
      simp only [Bool.false_eq_true, if_false, Nat.zero_add]
      refine ⟨hlt.trans (Nat.pow_lt_pow_right (by decide) (Nat.lt_succ_self n)), fun j hj => ?_⟩
      rcases Nat.lt_succ_iff_lt_or_eq.1 hj with hj | rfl
      · exact hbit j hj
      · rw [hf, Nat.testBit_lt_two_pow hlt]
    | true =>
      simp only [if_true]
      refine ⟨by rw [Nat.pow_succ]; omega, fun j hj => ?_⟩
      rcases Nat.lt_succ_iff_lt_or_eq.1 hj with hj | rfl
      · rw [Nat.testBit_two_pow_add_gt hj, hbit j hj]
      · rw [hf, Nat.testBit_two_pow_add_eq, Nat.testBit_lt_two_pow hlt]
        rfl

theorem getLsbD_packByte (bits : List Bool) (i : Nat) {j : Nat} (hj : j < 8) :
    (packByte bits i).getLsbD j = bits.getD (8 * i + j) false := by
  unfold packByte
  rw [BitVec.getLsbD_ofNat, (sum_bits (fun j => bits.getD (8 * i + j) false) 8).2 j hj]
  simp [hj]

/-- The packed bits stand in their order, whatever bytes follow. -/
theorem bitOf_packBits (bits : List Bool) (rest : List Byte) {n : Nat} (hn : n < bits.length) :
    bitOf (packBits bits ++ rest) n = bits.getD n false := by
  have hbyte : n / 8 < (packBits bits).length := by
    rw [length_packBits]
    omega
  have hat : byteAt (packBits bits ++ rest) (n / 8) = packByte bits (n / 8) := by
    rw [length_packBits] at hbyte
    rw [byteAt, List.getD_append _ _ _ _ (by rwa [length_packBits])]
    simp [packBits, hbyte]
  unfold bitOf
  rw [hat, getLsbD_packByte bits _ (Nat.mod_lt _ (by decide)), Nat.div_add_mod]

/-! ### Filtered ranges -/

/-- In a filtered range a member stands after the members below it. -/
theorem getElem?_filter_range (p : Nat → Bool) {j n : Nat} (hj : j < n) (hp : p j = true) :
    ((List.range n).filter p)[((List.range j).filter p).length]? = some j := by
  obtain ⟨k, rfl⟩ := Nat.exists_eq_add_of_lt hj
  rw [Nat.add_assoc, List.range_add, List.filter_append, List.getElem?_append_right (Nat.le_refl _), Nat.sub_self,
    List.range_succ_eq_map, List.map_cons, Nat.add_zero, List.filter_cons_of_pos hp]
  rfl

/-! ### The record of a slot -/

section Record

variable {sl : Slot} {d : PageDef} (hd : sl.defn = some d)

include hd

theorem saveRecord_eq : saveRecord sl =
    (sl.selection.getD 0xFF) :: (packBits (presenceMask d sl) ++ packBits (markedStates d sl)) := by
  simp [saveRecord, hd]

theorem length_saveRecord : 4 ≤ (saveRecord sl).length ∧ (saveRecord sl).length ≤ 7 := by
  have hmarked := length_markedStates_le d sl
  rw [saveRecord_eq hd, List.length_cons, List.length_append, length_packBits, length_packBits,
    length_presenceMask d sl]
  omega

theorem byteAt_saveRecord_zero (rest : List Byte) : byteAt (saveRecord sl ++ rest) 0 = sl.selection.getD 0xFF := by
  rw [saveRecord_eq hd]
  rfl

theorem drop_one_saveRecord (rest : List Byte) : (saveRecord sl ++ rest).drop 1 =
    packBits (presenceMask d sl) ++ (packBits (markedStates d sl) ++ rest) := by
  rw [saveRecord_eq hd, List.cons_append, List.drop_one, List.tail_cons, List.append_assoc]

theorem drop_four_saveRecord (rest : List Byte) : (saveRecord sl ++ rest).drop 4 =
    packBits (markedStates d sl) ++ rest := by
  have hmask : (packBits (presenceMask d sl)).length = 3 := by rw [length_packBits, length_presenceMask d sl]
  rw [← List.drop_drop (i := 3) (j := 1), drop_one_saveRecord hd, ← hmask, List.drop_left]

/-- A button is marked in the record where its enable state is not the initial one. -/
theorem mark_saveRecord (rest : List Byte) {j : Nat} (hj : j < 24) :
    bitOf ((saveRecord sl ++ rest).drop 1) j = (presenceMask d sl).getD j false := by
  rw [drop_one_saveRecord hd, bitOf_packBits _ _ (by rwa [length_presenceMask d sl])]

theorem marksBelow_saveRecord (rest : List Byte) {j : Nat} (hj : j < 24) : marksBelow (saveRecord sl ++ rest) j =
    ((List.range j).filter (fun i => (presenceMask d sl).getD i false)).length := by
  unfold marksBelow
  rw [List.filter_congr fun i hi => mark_saveRecord hd rest ((List.mem_range.1 hi).trans hj)]

/-- The record gives a marked button its enable state back. -/
theorem recordedEnable_marked (rest : List Byte) {j : Nat} (hj : j < 24)
    (hmark : (presenceMask d sl).getD j false = true) :
    recordedEnable (saveRecord sl ++ rest) j = some (enabledAt sl j) := by
  have hstate : (markedStates d sl)[marksBelow (saveRecord sl ++ rest) j]? = some (enabledAt sl j) := by
    rw [marksBelow_saveRecord hd rest hj, markedStates, List.getElem?_map,
      getElem?_filter_range (fun i => (presenceMask d sl).getD i false) hj hmark]
    rfl
  have hlt := (List.getElem?_eq_some_iff.1 hstate).1
  rw [recordedEnable, if_pos ((mark_saveRecord hd rest hj).trans hmark), drop_four_saveRecord hd,
    bitOf_packBits _ _ hlt, List.getD_eq_getElem?_getD, hstate]
  rfl

/-- A record gives every button its enable state back (R54, R56). -/
theorem recordedEnable_saveRecord (rest : List Byte) {j : Nat} {b : Button} (hb : d.buttons[j]? = some b)
    (hj : j < 24) : (recordedEnable (saveRecord sl ++ rest) j).getD (!b.initDisabled) = enabledAt sl j := by
  have hmask : (presenceMask d sl).getD j false = (enabledAt sl j != initiallyEnabled b) := by
    simp [presenceMask, hj, hb]
  cases hmark : (presenceMask d sl).getD j false with
  | true =>
    rw [recordedEnable_marked hd rest hj hmark]
    rfl
  | false =>
    rw [recordedEnable, if_neg (by rw [mark_saveRecord hd rest hj, hmark]; decide)]
    rw [hmask, bne_eq_false_iff_eq] at hmark
    exact hmark.symm

end Record

/-! ### Reading back from the save area -/

theorem Memory.readBytes_add (m : Memory) (n k : Nat) : ∀ a,
    m.readBytes a (n + k) = m.readBytes a n ++ m.readBytes (a + n) k := by
  induction n with
  | zero => exact fun a => by rw [Nat.zero_add]; rfl
  | succ n ih =>
    intro a
    rw [Nat.succ_add, Memory.readBytes, Memory.readBytes, ih, Nat.add_assoc, Nat.add_comm 1 n, List.cons_append]

/-- Bytes that agree one by one are read alike. -/
theorem Memory.readBytes_congr {m m' : Memory} (n : Nat) : ∀ a,
    (∀ i, i < n → m.read (BitVec.ofNat 25 (a + i)) = m'.read (BitVec.ofNat 25 (a + i))) →
    m.readBytes a n = m'.readBytes a n := by
  induction n with
  | zero => exact fun _ _ => rfl
  | succ n ih =>
    intro a h
    have hhead := h 0 (Nat.succ_pos n)
    have htail := ih (a + 1) fun i hi => by
      have := h (i + 1) (Nat.succ_lt_succ hi)
      rwa [Nat.add_comm i 1, ← Nat.add_assoc] at this
    rw [Memory.readBytes, Memory.readBytes, htail]
    exact congrArg (· :: _) hhead

/-- What is read from where bytes were written: the bytes, and behind them what stood there. -/
theorem Memory.readBytes_writeBytes_behind {m : Memory} (bs : List Byte) (a n : Nat) (hm : m.wf = true)
    (hn : bs.length ≤ n) (ha : a + n ≤ 2 ^ 25) :
    (m.writeBytes a bs).readBytes a n = bs ++ m.readBytes (a + bs.length) (n - bs.length) := by
  obtain ⟨k, rfl⟩ := Nat.exists_eq_add_of_le hn
  rw [Memory.readBytes_add, Memory.readBytes_writeBytes bs m a hm (by omega), Nat.add_sub_cancel_left]
  refine congrArg (bs ++ ·) (Memory.readBytes_congr k _ fun i hi => ?_)
  refine Memory.read_writeBytes_outside _ _ _ _ fun j hj h => ?_
  have h := congrArg BitVec.toNat h
  simp only [BitVec.toNat_ofNat] at h
  omega

end Sys2Proof.Machine

namespace Sys2Proof.Machine

open Sys2Proof

/-! ## LOAD_DONE (R56, R57) -/

/-- The enable state of a button at its load: the record's, where it is marked, or the initial one (R54, R56). -/
def enabledAtLoad (record : Option (List Byte)) (j : Nat) (b : Button) : Bool :=
  (record.bind (fun p => recordedEnable p j)).getD (!b.initDisabled)

/-- The button that the record names as the selection, where the page holds it (R56). -/
def namedAtLoad (d : PageDef) (record : Option (List Byte)) : Option Nat :=
  (record.bind (fun p => optByte (byteAt p 0))).bind (buttonIndexOf d)

theorem loadedButton_eq (record : Option (List Byte)) (now : Word) (j : Nat) (b : Button) :
    loadedButton record now j b = ⟨if enabledAtLoad record j b = true then .normal else .disabled, now⟩ := rfl

theorem loadedButton_disabled (record : Option (List Byte)) (now : Word) (j : Nat) (b : Button) :
    (loadedButton record now j b).st = .disabled ↔ enabledAtLoad record j b = false := by
  rw [loadedButton_eq]
  cases enabledAtLoad record j b <;> simp

/-- The recorded selection is chosen where its button is enabled, and the default rule's otherwise (R56). -/
theorem loadedSelection_eq (d : PageDef) (record : Option (List Byte)) (now : Word) :
    loadedSelection d record (d.buttons.mapIdx (loadedButton record now)) =
      if ((namedAtLoad d record).bind (fun j => d.buttons[j]?.map (enabledAtLoad record j))) = some true then
        namedAtLoad d record
      else defaultChoice d (d.buttons.mapIdx (loadedButton record now)) := by
  unfold loadedSelection namedAtLoad
  dsimp only
  cases hnamed : (record.bind fun p => optByte (byteAt p 0)).bind (buttonIndexOf d) with
  | none => rfl
  | some j =>
    rw [Option.bind_some]
    simp only [List.getElem?_mapIdx]
    cases d.buttons[j]? with
    | none => rfl
    | some b =>
      simp only [Option.map_some, loadedButton_disabled]
      by_cases hon : enabledAtLoad record j b = true <;> simp [hon]

/-- The buttons with the chosen one SELECTED. -/
def withChosen (now : Word) (sel : Option Nat) (bs : List ButtonLive) : List ButtonLive :=
  match sel with
  | none => bs
  | some j => bs.set j ⟨.selected, now⟩

theorem loadedSlot_of_selection (r : PageRef) {d : PageDef} {record : Option (List Byte)} {now : Word}
    {sel : Option Nat}
    (h : loadedSelection d record (d.buttons.mapIdx (loadedButton record now)) = sel) :
    loadedSlot r d record now = ⟨.ready, some r, false, some d,
      withChosen now sel (d.buttons.mapIdx (loadedButton record now)),
      sel.bind (fun j => d.buttons[j]?.map Button.id), 0, d.timeout, d.timeout, false⟩ := by
  subst h
  rfl

/-- The page is resident in its slot, its request and its exchange are over (R45, R57). -/
theorem placeLoaded_eq (k : Fin 6) (r : PageRef) (s : State) :
    placeLoaded k r s =
      ((setSlot k (loadedSlot r (pageDefinition r s) (pageRecord r s) s.disp.counter) s).setPages
        (s.pages.set (pageIndex r) { pageEntry r s with slot := some k })).setExch
      { (setSlot k (loadedSlot r (pageDefinition r s) (pageRecord r s) s.disp.counter) s).exch with
        ctrlReq := if s.exch.ctrlReq = some r then none else s.exch.ctrlReq
        current := match s.exch.current with
          | none => none
          | some x => if x.slot = k ∧ x.stage = .load then none else some x } := by
  have hcurrent : (placeLoaded k r s).exch.current = match s.exch.current with
      | none => none
      | some x => if x.slot = k ∧ x.stage = .load then none else some x := by
    have hsame (e : PageEntry) (v : Slot) : (setPageEntry r e (setSlot k v s)).exch.current = s.exch.current := rfl
    cases hx : s.exch.current <;> simp [placeLoaded, hsame, hx]
  rw [← hcurrent]
  rfl

/-! ### What is chosen is enabled -/

/-- The default rule chooses an enabled button (R88). -/
theorem defaultChoice_enabled {d : PageDef} {bs : List ButtonLive} {i : Nat} (h : defaultChoice d bs = some i) :
    ∃ b, bs[i]? = some b ∧ b.st ≠ .disabled := by
  unfold defaultChoice at h
  extract_lets enabled at h
  have hon : enabled i = true := by
    split at h
    · split at h
      · cases h
        assumption
      · exact List.find?_some h
    · exact List.find?_some h
  unfold enabled at hon
  cases hb : bs[i]? with
  | none => simp [hb] at hon
  | some b => exact ⟨b, rfl, by simpa [hb] using hon⟩

theorem loadedSelection_enabled {d : PageDef} {record : Option (List Byte)} {bs : List ButtonLive} {i : Nat}
    (h : loadedSelection d record bs = some i) : ∃ b, bs[i]? = some b ∧ b.st ≠ .disabled := by
  unfold loadedSelection at h
  dsimp only at h
  split at h
  · exact defaultChoice_enabled h
  split at h
  · exact defaultChoice_enabled h
  · rename_i b hb
    split at h
    · exact defaultChoice_enabled h
    · rename_i hon
      cases h
      exact ⟨b, hb, hon⟩

/-- A button of a loaded page is enabled where its load says so. -/
theorem enabledAt_loadedSlot (r : PageRef) (d : PageDef) (record : Option (List Byte)) (now : Word) {j : Nat}
    {b : Button} (hb : d.buttons[j]? = some b) :
    enabledAt (loadedSlot r d record now) j = enabledAtLoad record j b := by
  have hlive : (d.buttons.mapIdx (loadedButton record now))[j]? = some (loadedButton record now j b) := by
    rw [List.getElem?_mapIdx, hb, Option.map_some]
  have hstate : ((loadedButton record now j b).st != .disabled) = enabledAtLoad record j b := by
    rw [loadedButton_eq]
    cases enabledAtLoad record j b <;> rfl
  unfold enabledAt loadedSlot
  dsimp only
  cases hsel : loadedSelection d record (d.buttons.mapIdx (loadedButton record now)) with
  | none => simp only [hlive, hstate]
  | some i =>
    obtain ⟨b', hb', hon⟩ := loadedSelection_enabled hsel
    dsimp only
    by_cases hij : i = j
    · subst hij
      cases hlive.symm.trans hb'
      rw [List.getElem?_set_self (List.getElem?_eq_some_iff.1 hlive).1, ← hstate, bne_iff_ne.2 hon]
      rfl
    · simp only [List.getElem?_set_ne hij, hlive, hstate]

/-- The record of a page whose flag is set (R37, R56). -/
theorem pageRecord_saved {r : PageRef} {s : State} (h : (pageEntry r s).saved = true) :
    pageRecord r s = some (s.mem.readBytes (saveAddr r) 16) := if_pos h

theorem slotAt_placeLoaded (k : Fin 6) (r : PageRef) (s : State) :
    slotAt k (placeLoaded k r s) = loadedSlot r (pageDefinition r s) (pageRecord r s) s.disp.counter :=
  slotAt_setSlot_same ..

/-- The button of an id has that id. -/
theorem id_of_buttonIndexOf {d : PageDef} {id : Byte} {i : Nat} (h : buttonIndexOf d id = some i) :
    ∃ b, d.buttons[i]? = some b ∧ b.id = id := by
  obtain ⟨hi, hid, -⟩ := List.findIdx?_eq_some_iff_getElem.1 h
  exact ⟨d.buttons[i], List.getElem?_eq_getElem hi, by simpa using hid⟩

/-- A recorded selection whose button is enabled is chosen again. -/
theorem loadedSelection_named {d : PageDef} {record : Option (List Byte)} {now : Word} {i : Nat} {b : Button}
    (hnamed : namedAtLoad d record = some i) (hb : d.buttons[i]? = some b) (hon : enabledAtLoad record i b = true) :
    loadedSelection d record (d.buttons.mapIdx (loadedButton record now)) = some i := by
  rw [loadedSelection_eq, hnamed, Option.bind_some, hb, Option.map_some, hon, if_pos rfl]

section Recorded

variable {s : State} {r : PageRef} {sl : Slot} {rest : List Byte} (hsaved : (pageEntry r s).saved = true)
  (hrecord : s.mem.readBytes (saveAddr r) 16 = saveRecord sl ++ rest) (hd : sl.defn = some (pageDefinition r s))

include hsaved hrecord hd

/-- Loaded from its record, a button has the enable state that was saved. -/
theorem enabledAtLoad_recorded {j : Nat} {b : Button} (hb : (pageDefinition r s).buttons[j]? = some b) (hj : j < 24) :
    enabledAtLoad (pageRecord r s) j b = enabledAt sl j := by
  rw [pageRecord_saved hsaved, hrecord]
  exact recordedEnable_saveRecord hd rest hb hj

/-- The record names the selection that was saved. -/
theorem namedAtLoad_recorded {id : Byte} (hsel : sl.selection = some id) (hid : id ≠ 0xFF) :
    namedAtLoad (pageDefinition r s) (pageRecord r s) = slotButton sl id := by
  have hname : optByte (byteAt (saveRecord sl ++ rest) 0) = some id := by
    rw [byteAt_saveRecord_zero hd, hsel]
    exact if_neg hid
  rw [pageRecord_saved hsaved, hrecord, namedAtLoad, Option.bind_some, hname, Option.bind_some]
  simp only [slotButton, hd]

theorem enabledAt_recorded (k : Fin 6) (hlen : (pageDefinition r s).buttons.length ≤ 24) {j : Nat}
    (hj : j < (pageDefinition r s).buttons.length) :
    enabledAt (slotAt k (placeLoaded k r s)) j = enabledAt sl j := by
  have hb := List.getElem?_eq_getElem hj
  rw [slotAt_placeLoaded, enabledAt_loadedSlot _ _ _ _ hb, enabledAtLoad_recorded hsaved hrecord hd hb (by omega)]

theorem selection_recorded (k : Fin 6) (hlen : (pageDefinition r s).buttons.length ≤ 24) {id : Byte} {i : Nat}
    (hsel : sl.selection = some id) (hid : id ≠ 0xFF) (hi : slotButton sl id = some i) (hon : enabledAt sl i = true) :
    (slotAt k (placeLoaded k r s)).selection = some id ∧ selectionIndex (slotAt k (placeLoaded k r s)) = some i := by
  have hindex : buttonIndexOf (pageDefinition r s) id = some i := by simpa only [slotButton, hd] using hi
  obtain ⟨b, hb, hbid⟩ := id_of_buttonIndexOf hindex
  have hlt := (List.getElem?_eq_some_iff.1 hb).1
  have hchosen := loadedSelection_named (now := s.disp.counter)
    ((namedAtLoad_recorded hsaved hrecord hd hsel hid).trans hi) hb
    ((enabledAtLoad_recorded hsaved hrecord hd hb (by omega)).trans hon)
  have hselection : (slotAt k (placeLoaded k r s)).selection = some id := by
    rw [slotAt_placeLoaded]
    unfold loadedSlot
    dsimp only
    rw [hchosen, Option.bind_some, hb, Option.map_some, hbid]
  refine ⟨hselection, ?_⟩
  simp only [selectionIndex, hselection]
  rw [slotAt_placeLoaded]
  exact hindex

end Recorded

/-- Settles O24: the load done is unfolded once, and a record is read bit by bit in the order in which it was packed. -/
theorem loadDoneMakesThePageResident : Obligations.LoadDoneMakesThePageResident := by
  refine ⟨fun s k r hawake hloading hpage => ⟨⟨_, rfl, ?_, ?_⟩, ?_⟩, fun sl d hd => ?_,
    fun s k r sl rest hsaved hrecord hd hlen =>
      ⟨fun j hj => enabledAt_recorded hsaved hrecord hd k hlen hj, fun id i hsel hid hi hon =>
        selection_recorded hsaved hrecord hd k hlen hsel hid hi hon⟩⟩
  · rw [awake_of_high hawake]
    exact still_completeLoad ..
  · rw [awake_of_high hawake]
    simp only [completeLoad, hpage, hloading, if_true]
    rfl
  · intro d now record enabled bs named chosen
    have hchosen : loadedSelection d (pageRecord r s) bs = chosen := loadedSelection_eq d (pageRecord r s) now
    exact (placeLoaded_eq k r s).trans (by rw [loadedSlot_of_selection r hchosen]; rfl)
  · obtain ⟨hmin, hmax⟩ := length_saveRecord hd
    refine ⟨hmin, hmax, ?_, fun m a hm ha => ?_, fun rest j b hb hj => recordedEnable_saveRecord hd rest hb hj⟩
    · simpa using byteAt_saveRecord_zero hd []
    · exact Memory.readBytes_writeBytes_behind _ a 16 hm (by omega) ha

end Sys2Proof.Machine

namespace Sys2Proof.Machine

open Sys2Proof

/-! ## Keys: the queue and when keys are delivered (R83 to R85) -/

/-- KEY answers what its body answers. -/
theorem exec_key {s : State} (hopen : linkOpen s = true) {kind : Byte} {a : Answer}
    (ha : doKey kind (crossed 1 s) = a) : exec (.key kind) s = .next (placeReply 0x10 a.code a.data a.state) := by
  rw [exec_of_encodeFrame _ _ rfl, runCommand, runKey, command_linkOpen hopen _ _ rfl]
  subst ha
  rfl

theorem key?_none {kind : Byte} (h : 9 ≤ kind.toNat) : key? kind = none := by
  unfold key?
  split
  case h_10 => rfl
  all_goals omega

section DoKey

variable {s : State} {kind : Byte}

theorem doKey_noKey (h : key? kind = none) : doKey kind s = refusedWith .badArgument s := by
  simp only [doKey, h]

variable {k : Key} (h : key? kind = some k)

include h

theorem doKey_full (hfull : 8 ≤ s.nav.keys.length) : doKey kind s = refusedWith .queueFull s := by
  simp only [doKey, h, if_pos hfull]

theorem doKey_joins (hroom : s.nav.keys.length < 8) :
    doKey kind s = done (deliverKeys (s.setNav { s.nav with keys := s.nav.keys ++ [k] })) := by
  simp only [doKey, h, if_neg (Nat.not_le.2 hroom)]

end DoKey

section Delivery

variable {s : State}

/-- Where nothing can be delivered nothing happens. -/
theorem deliverUpTo_idle (n : Nat) (h : s.nav.keys = [] ∨ deliverable s = false) : deliverUpTo n s = s := by
  cases n with
  | zero => rfl
  | succ n =>
    unfold deliverUpTo
    split
    · rfl
    · rename_i hkeys
      rcases h with hempty | hbusy
      · rw [hempty] at hkeys
        cases hkeys
      · rw [if_neg (by simp [hbusy])]

theorem deliverKeys_idle (h : s.nav.keys = [] ∨ deliverable s = false) : deliverKeys s = s := deliverUpTo_idle _ h

/-- The head key is delivered, and then those behind it (R84). -/
theorem deliverKeys_head {k : Key} {ks : List Key} (hkeys : s.nav.keys = k :: ks) (hdeliver : deliverable s = true) :
    deliverKeys s = deliverUpTo ks.length (deliverKey k (s.setNav { s.nav with keys := ks })) := by
  simp only [deliverKeys, hkeys, List.length_cons, deliverUpTo, hdeliver, if_true]

/-- A delivery leaves the queue to the next one. -/
theorem deliverKeys_deliverKey (k : Key) (ks : List Key) :
    deliverKeys (deliverKey k (s.setNav { s.nav with keys := ks })) =
      deliverUpTo ks.length (deliverKey k (s.setNav { s.nav with keys := ks })) := by
  have hkeys : (deliverKey k (s.setNav { s.nav with keys := ks })).nav.keys = ks :=
    keysOf_deliverKey (s := s.setNav { s.nav with keys := ks }) k
  rw [deliverKeys, hkeys]

theorem exec_keyDelivery (h : s.resetLow = false) : exec .keyDelivery s = .next (deliverKeys s) :=
  congrArg Host.Outcome.next (awake_of_high h deliverKeys)

theorem resetLow_deliverKey (k : Key) (s : State) : (deliverKey k s).resetLow = s.resetLow := by
  have h : (still (deliverKey k s)).resetLow = (still s).resetLow := by rw [still_deliverKey]
  exact h

end Delivery

/-! ### A key without a focus (R85) -/

section NoFocus

variable {s : State} (hfocus : focusEntry s = none)

include hfocus

theorem deliverKey_noFocus (k : Key) : deliverKey k s = keyNoFocus k s := by
  simp only [deliverKey, hfocus]

theorem deliverKey_noFocus_noShow (k : Key) (hstopped : s.seqr.st = .stopped) :
    deliverKey k s = post .keyUnused none none 0xFFFF (keyCode k)
      (if k = .next ∨ k = .prev ∨ k = .pause then 1 else 0) false s := by
  have hunused (act : State → State) : slideKey none true k act s = keyUnused none k reasonNoSlides s :=
    if_neg fun h => h.2 hstopped
  rw [deliverKey_noFocus hfocus]
  cases k with
  | next => exact hunused _
  | prev => exact hunused _
  | pause => exact hunused _
  | _ => rfl

theorem deliverKey_noFocus_show (k : Key) (hshow : s.seqr.st ≠ .stopped) : deliverKey k s = match k with
    | .next => stepShow false s
    | .prev => stepShow true s
    | .pause => togglePause s
    | .up | .down | .left | .right | .enter | .back =>
      post .keyUnused none none 0xFFFF (keyCode k) 0 false s := by
  have hact (act : State → State) : slideKey none true k act s = act s := if_pos ⟨rfl, hshow⟩
  rw [deliverKey_noFocus hfocus]
  cases k with
  | next => exact hact _
  | prev => exact hact _
  | pause => exact hact _
  | _ => rfl

end NoFocus

end Sys2Proof.Machine

namespace Sys2Proof.Machine

open Sys2Proof

/-! ## Keys: what a key does to the focus page (R86, R90 to R93) -/

/-! ### The walk -/

/-- The walk looks at enable states only. -/
theorem walkFrom_congr (d : PageDef) {sl sl' : Slot} (h : ∀ i, enabledAt sl' i = enabledAt sl i) (dir : Direction)
    (i n : Nat) : ∀ cur, walkFrom d sl' dir i n cur = walkFrom d sl dir i n cur := by
  induction n with
  | zero => exact fun _ => rfl
  | succ n ih =>
    intro cur
    unfold walkFrom
    simp only [h, ih]

/-- The walk never ends where it began (R91). -/
theorem walkFrom_ne (d : PageDef) (sl : Slot) (dir : Direction) (i n : Nat) : ∀ {cur c : Nat},
    walkFrom d sl dir i n cur = some c → c ≠ i := by
  induction n with
  | zero => exact fun h => by cases h
  | succ n ih =>
    intro cur c h
    unfold walkFrom at h
    (repeat' split at h)
    · cases h
    · cases h
    · cases h
      assumption
    · exact ih h

/-! ### The choice that a button makes (R89) -/

section Commit

variable (k : Fin 6) (v : Slot) (s : State)

theorem slotAt_commitButtons : slotAt k (commitButtons k v s) = { v with dirty := true } := by
  unfold commitButtons markDirty
  rw [slotAt_setSlot_same]
  dsimp only
  split <;> exact slotAt_setSlot_same ..

theorem recompose_commitButtons : (commitButtons k v s).comp.recompose = true := rfl

end Commit

/-- Another button becomes the selection. -/
theorem slotAt_becomeSelection {k : Fin 6} {c : Nat} {s : State} (h : selectionIndex (slotAt k s) ≠ some c) :
    slotAt k (becomeSelection k c s) = { selectIn s.disp.counter c (slotAt k s) with dirty := true } := by
  rw [becomeSelection_moves h, slotAt_commitButtons]

/-! ### Activations begin and are cancelled (R93, R97) -/

/-- An activation begins: the button is ACTIVATED and the hold is loaded. -/
theorem activateButton_eq {k : Fin 6} {s : State} {d : PageDef} (hd : (slotAt k s).defn = some d) (i : Nat) :
    activateButton k i s = raiseRecompose (setSlot k { slotAt k s with
      buttons := (slotAt k s).buttons.set i ⟨.activated, s.disp.counter⟩, hold := d.hold } s) := by
  unfold activateButton
  dsimp only
  split
  · rename_i hnone
    cases hd.symm.trans hnone
  · rename_i hd'
    cases hd.symm.trans hd'
    rfl

theorem beginActivation_eq {k : Fin 6} {s : State} {d : PageDef} (hd : (slotAt k s).defn = some d) (i : Nat) :
    beginActivation k i s =
      if d.hold = 0 then completeActivation k (activateButton k i s) else activateButton k i s := by
  have hhold : (slotAt k (activateButton k i s)).hold = d.hold := by
    rw [activateButton_eq hd]
    exact congrArg Slot.hold (slotAt_setSlot_same ..)
  unfold beginActivation
  dsimp only
  rw [hhold]

theorem cancelActivation_none {k : Fin 6} {s : State} (h : activatedIndex (slotAt k s) = none) :
    cancelActivation k s = s := by
  simp only [cancelActivation, h]

theorem cancelActivation_some {k : Fin 6} {s : State} {i : Nat} (h : activatedIndex (slotAt k s) = some i) :
    cancelActivation k s = raiseRecompose (setSlot k { slotAt k s with
      buttons := (slotAt k s).buttons.set i ⟨.selected, s.disp.counter⟩, hold := 0 } s) := by
  simp only [cancelActivation, h]
  rfl

/-! ### A key on the focus page (R86) -/

section Focus

variable {s : State} {e : Entry} {k : Fin 6} {d : PageDef} (hfocus : focusEntry s = some e)
  (hready : readySlot e.page s = some k) (hd : (slotAt k s).defn = some d)

include hfocus hready hd

theorem deliverKey_focus (key : Key) : deliverKey key s = keyOnPage e.page k d key s := by
  simp only [deliverKey, hfocus, hready, hd]

end Focus

/-- The state after a key has reloaded the timeout of its page (R86, R108). -/
theorem reloadTimeout_eq (k : Fin 6) (s : State) :
    reloadTimeout k s = setSlot k { slotAt k s with timer := (slotAt k s).latch, mark := false } s := rfl

section Directional

variable {k : Fin 6} {d : PageDef} {dir : Direction} {s : State}

theorem moveSelection_noSelection (h : selectionIndex (slotAt k s) = none) : moveSelection k d dir s = s := by
  simp only [moveSelection, h]

variable {i : Nat} (hi : selectionIndex (slotAt k s) = some i)

include hi

theorem moveSelection_stays (h : neighbourWalk d (slotAt k s) dir i = none) : moveSelection k d dir s = s := by
  simp only [moveSelection, hi, h]

theorem moveSelection_moves {c : Nat} {b : Button} (h : neighbourWalk d (slotAt k s) dir i = some c)
    (hb : d.buttons[c]? = some b) : moveSelection k d dir s =
      if b.autoActivate = true then beginActivation k c (becomeSelection k c s) else becomeSelection k c s := by
  simp only [moveSelection, hi, h, autoActivates, hb]

end Directional

/-- A directional key moves the selection along its walk. -/
theorem keyOnPage_directional {key : Key} {dir : Direction}
    (h : (key, dir) ∈ [(Key.up, Direction.up), (.down, .down), (.left, .left), (.right, .right)]) (r : PageRef)
    (k : Fin 6) (d : PageDef) (s : State) : keyOnPage r k d key s = moveSelection k d dir (reloadTimeout k s) := by
  simp only [List.mem_cons, Prod.mk.injEq, List.not_mem_nil, or_false] at h
  rcases h with ⟨rfl, rfl⟩ | ⟨rfl, rfl⟩ | ⟨rfl, rfl⟩ | ⟨rfl, rfl⟩ <;> rfl

/-- The slide keys are handed on where the page passes them and a show runs (R86). -/
theorem keyOnPage_slide {key : Key} (h : key = .next ∨ key = .prev ∨ key = .pause) (r : PageRef) (k : Fin 6)
    (d : PageDef) (s : State) : keyOnPage r k d key s =
      if d.passSlideKeys = true ∧ s.seqr.st ≠ .stopped then
        (if key = .pause then togglePause (reloadTimeout k s) else stepShow (key == .prev) (reloadTimeout k s))
      else keyUnused (some r) key reasonNoSlides (reloadTimeout k s) := by
  rcases h with rfl | rfl | rfl <;> rfl

end Sys2Proof.Machine

namespace Sys2Proof.Machine

open Sys2Proof

/-! ## Activations are cancelled (R54, R59, R67, R97) -/

/-! ### Running holds -/

theorem holdRunning_eq_false (sl : Slot) : holdRunning sl = false ↔ ∀ b ∈ sl.buttons, b.st ≠ .activated := by
  unfold holdRunning activatedIndex
  rw [Option.isSome_eq_false_iff, Option.isNone_iff_eq_none, List.findIdx?_eq_none_iff]
  simp

/-- No hold runs, and the hold counter is 0. -/
def noHold (sl : Slot) : Prop := holdRunning sl = false ∧ sl.hold = 0

theorem noHold_putButton {sl : Slot} (h : noHold sl) (i : Nat) {st : ButtonState} (hst : st ≠ .activated) (now : Word) :
    noHold (putButton i st now sl) := by
  obtain ⟨hrunning, hhold⟩ := h
  refine ⟨(holdRunning_eq_false _).2 fun b hb => ?_, hhold⟩
  rcases List.mem_or_eq_of_mem_set hb with hb | rfl
  · exact (holdRunning_eq_false sl).1 hrunning b hb
  · exact hst

/-- The only ACTIVATED button takes another state. -/
theorem noHold_set_only {sl : Slot} {i : Nat} (honly : ∀ j b, j ≠ i → sl.buttons[j]? = some b → b.st ≠ .activated)
    {st : ButtonState} (hst : st ≠ .activated) (now : Word) :
    holdRunning (putButton i st now sl) = false := by
  refine (holdRunning_eq_false _).2 fun b hb => ?_
  obtain ⟨j, hj⟩ := List.mem_iff_getElem?.1 hb
  by_cases hij : i = j
  · subst hij
    have hlt : i < sl.buttons.length := by simpa [putButton] using (List.getElem?_eq_some_iff.1 hj).1
    rw [putButton, List.getElem?_set_self hlt] at hj
    cases hj
    exact hst
  · rw [putButton, List.getElem?_set_ne hij] at hj
    exact honly j b (Ne.symm hij) hj

/-- A slot in which no hold runs stays so when a button becomes the selection. -/
theorem noHold_selectIn {sl : Slot} (h : noHold sl) (now : Word) (c : Nat) : noHold (selectIn now c sl) := by
  have hselected {v : Slot} (hv : noHold v) (id : Option Byte) :
      noHold { putButton c .selected now v with selection := id } :=
    noHold_putButton (st := .selected) hv c (by decide) now
  unfold selectIn
  obtain ⟨hrunning, hhold⟩ := h
  split
  · exact hselected ⟨hrunning, hhold⟩ _
  · rename_i i _
    have hcut : noHold { sl with hold := if holdRunning sl = true then 0 else sl.hold } :=
      ⟨hrunning, by simp [hrunning, hhold]⟩
    exact hselected (noHold_putButton (st := .normal) hcut i (by decide) now) _

/-! ### Cancelling (R97) -/

/-- A slot whose activation is cancelled. -/
def cancelledSlot (now : Word) (sl : Slot) : Slot :=
  match activatedIndex sl with
  | none => sl
  | some i => { putButton i .selected now sl with hold := 0 }

theorem slotAt_cancelActivation (k : Fin 6) (s : State) :
    slotAt k (cancelActivation k s) = cancelledSlot s.disp.counter (slotAt k s) := by
  unfold cancelledSlot
  cases hi : activatedIndex (slotAt k s) with
  | none => rw [cancelActivation_none hi]
  | some i =>
    rw [cancelActivation_some hi]
    exact slotAt_setSlot_same ..

/-- After a cancellation no hold runs. -/
theorem holdRunning_cancelledSlot {sl : Slot}
    (h : (sl.buttons.filter (fun b => b.st == .activated)).length ≤ 1) (now : Word) :
    holdRunning (cancelledSlot now sl) = false := by
  unfold cancelledSlot
  split
  · rename_i hnone
    simp [holdRunning, hnone]
  · rename_i i hi
    obtain ⟨hlt, hact, -⟩ := List.findIdx?_eq_some_iff_getElem.1 hi
    have hcount : (sl.buttons.set i ⟨.selected, now⟩).countP (fun b => b.st == .activated) = 0 := by
      rw [List.countP_set hlt, if_pos hact, List.countP_eq_length_filter]
      simpa using Nat.sub_eq_zero_of_le h
    refine (holdRunning_eq_false _).2 fun b hb => ?_
    simpa using List.countP_eq_zero.1 hcount b hb

/-! ### The hand-on of a change of the stack (R67) -/

/-- The slot's page is not, in a READY slot, the SHOWN focus (R67, R97). -/
def losesFocus (focus : Option Entry) (sl : Slot) : Prop :=
  (sl.st = .ready ∨ sl.st = .saving) ∧
    ¬ (sl.st = .ready ∧ ∃ e, focus = some e ∧ e.st = .shown ∧ sl.page = some e.page)

theorem holdsFocus_iff (k : Fin 6) (s : State) : holdsFocus k s = true ↔ (slotAt k s).st = .ready ∧
    ∃ e, focusEntry s = some e ∧ e.st = .shown ∧ (slotAt k s).page = some e.page := by
  unfold holdsFocus
  cases focusEntry s <;> simp

theorem cancelUnlessFocus_loses {s : State} {k : Fin 6} (h : losesFocus (focusEntry s) (slotAt k s)) :
    cancelUnlessFocus s k = cancelActivation k s :=
  if_pos ⟨h.1, Bool.eq_false_iff.2 ((holdsFocus_iff k s).not.2 h.2)⟩

theorem cancelUnlessFocus_keeps {s : State} {k : Fin 6} (h : ¬ losesFocus (focusEntry s) (slotAt k s)) :
    cancelUnlessFocus s k = s :=
  if_neg fun hc => h ⟨hc.1, (holdsFocus_iff k s).not.1 (Bool.eq_false_iff.1 hc.2)⟩

/-- Telling one slot leaves the stack, the display and the other slots. -/
theorem cancelUnlessFocus_frame (s : State) (j : Fin 6) :
    (cancelUnlessFocus s j).stack = s.stack ∧ (cancelUnlessFocus s j).disp = s.disp ∧
      ∀ k, k ≠ j → slotAt k (cancelUnlessFocus s j) = slotAt k s := by
  unfold cancelUnlessFocus
  split
  · refine ⟨?_, ?_, fun k hk => slotAt_cancelActivation_ne hk s⟩ <;>
    · unfold cancelActivation
      dsimp only
      split <;> rfl
  · exact ⟨rfl, rfl, fun _ _ => rfl⟩

/-- Each slot of a list without repeats is told once, whatever the order. -/
theorem slotAt_foldl_cancelUnlessFocus (k : Fin 6) (l : List (Fin 6)) : ∀ s, l.Nodup →
    ((k ∈ l ∧ losesFocus (focusEntry s) (slotAt k s)) →
      slotAt k (l.foldl cancelUnlessFocus s) = cancelledSlot s.disp.counter (slotAt k s)) ∧
    (¬ (k ∈ l ∧ losesFocus (focusEntry s) (slotAt k s)) → slotAt k (l.foldl cancelUnlessFocus s) = slotAt k s) := by
  induction l with
  | nil => exact fun s _ => ⟨fun h => absurd h.1 List.not_mem_nil, fun _ => rfl⟩
  | cons j l ih =>
    intro s hl
    obtain ⟨hj, hl⟩ := List.nodup_cons.1 hl
    obtain ⟨hstack, hdisp, hother⟩ := cancelUnlessFocus_frame s j
    have hfocus : focusEntry (cancelUnlessFocus s j) = focusEntry s := by rw [focusEntry, hstack]; rfl
    obtain ⟨hin, hout⟩ := ih (cancelUnlessFocus s j) hl
    rw [List.foldl_cons]
    by_cases hkj : k = j
    · subst hkj
      rw [hout fun h => hj h.1]
      refine ⟨fun h => ?_, fun h => ?_⟩
      · rw [cancelUnlessFocus_loses h.2, slotAt_cancelActivation]
      · rw [cancelUnlessFocus_keeps fun hloses => h ⟨List.mem_cons_self, hloses⟩]
    · rw [hfocus, hother k hkj] at hin hout
      rw [hdisp] at hin
      have hmem : k ∈ j :: l ↔ k ∈ l := by simp [hkj]
      rw [hmem]
      exact ⟨hin, hout⟩

theorem handOn_eq (s : State) : handOn s = raiseRecompose (allSlots.foldl cancelUnlessFocus s) := rfl

theorem slotAt_raiseRecompose (k : Fin 6) (s : State) : slotAt k (raiseRecompose s) = slotAt k s := rfl

theorem focusEntry_raiseRecompose (s : State) : focusEntry (raiseRecompose s) = focusEntry s := rfl

/-- The hand-on cancels the activation of a slot that loses the focus. -/
theorem slotAt_handOn_loses {s : State} {k : Fin 6} (h : losesFocus (focusEntry s) (slotAt k s)) :
    slotAt k (handOn s) = cancelledSlot s.disp.counter (slotAt k s) := by
  rw [handOn_eq, slotAt_raiseRecompose]
  exact (slotAt_foldl_cancelUnlessFocus k allSlots s (by decide)).1 ⟨mem_allSlots k, h⟩

theorem slotAt_handOn_keeps {s : State} {k : Fin 6} (h : ¬ losesFocus (focusEntry s) (slotAt k s)) :
    slotAt k (handOn s) = slotAt k s := by
  rw [handOn_eq, slotAt_raiseRecompose]
  exact (slotAt_foldl_cancelUnlessFocus k allSlots s (by decide)).2 fun hin => h hin.2

theorem focusEntry_handOn (s : State) : focusEntry (handOn s) = focusEntry s := by
  have hstack (l : List (Fin 6)) : ∀ u : State, (l.foldl cancelUnlessFocus u).stack = u.stack := by
    induction l with
    | nil => exact fun _ => rfl
    | cons j l ih => exact fun u => (ih _).trans (cancelUnlessFocus_frame u j).1
  rw [handOn_eq, focusEntry_raiseRecompose, focusEntry, hstack]
  rfl

/-! ### The exchange that a change of the stack sets off (R54, R67) -/

/-- Requests of resident pages are served; at most one exchange begins, in a slot that qualifies. -/
def TakesUp (s t : State) : Prop :=
  (∃ rest, t = s.setExch { s.exch with queue := rest }) ∨
    ∃ rest p k, chooseSlot s = some k ∧ t = startExchange p k (s.setExch { s.exch with queue := rest })

theorem takesUp_takeControllerRequest (s : State) : TakesUp s (takeControllerRequest s) := by
  unfold takeControllerRequest
  (repeat' split)
  · exact .inl ⟨s.exch.queue, rfl⟩
  · exact .inl ⟨s.exch.queue, rfl⟩
  · exact .inl ⟨s.exch.queue, rfl⟩
  · rename_i r _ _ _ k hk
    exact .inr ⟨s.exch.queue, r, k, hk, rfl⟩

theorem takesUp_takeRequests (qs : List Request) : ∀ s, TakesUp s (takeRequests qs s) := by
  induction qs with
  | nil => exact takesUp_takeControllerRequest
  | cons q qs ih =>
    intro s
    unfold takeRequests
    (repeat' split)
    · exact ih (s.setExch { s.exch with queue := qs })
    · exact .inl ⟨s.exch.queue, rfl⟩
    · rename_i k hk
      exact .inr ⟨qs, q.page, k, hk, rfl⟩

theorem takesUp_takeUp (s : State) : TakesUp s (takeUp s) := by
  unfold takeUp
  split
  · exact .inl ⟨s.exch.queue, rfl⟩
  · exact takesUp_takeRequests _ s

/-- The slot of an exchange that begins loads, or saves the working copy that it still holds (R54). -/
theorem slotAt_startExchange_same (p : PageRef) (k : Fin 6) (s : State) :
    slotAt k (startExchange p k s) = loadingSlot p ∨
      slotAt k (startExchange p k s) = { slotAt k s with st := .saving } := by
  unfold startExchange
  dsimp only
  (repeat' split)
  · exact .inl (slotAt_setSlot_same ..)
  · exact .inr (slotAt_setSlot_same ..)
  · exact .inl (slotAt_setSlot_same ..)

theorem slotAt_startExchange_ne {j k : Fin 6} (h : j ≠ k) (p : PageRef) (s : State) :
    slotAt j (startExchange p k s) = slotAt j s := (started_startExchange p k s).slots j h

/-- Only the page of the slot stops being resident (R54). -/
theorem residentSlot_startExchange {r : PageRef} {k : Fin 6} {s : State} (h : (slotAt k s).page ≠ some r)
    (p : PageRef) : residentSlot r (startExchange p k s) = residentSlot r s := by
  have hdrop (u : State) (hu : slotAt k u = slotAt k s) :
      residentSlot r (dropResidency k u) = residentSlot r u := by
    unfold dropResidency
    rw [hu]
    split
    · rfl
    · rename_i r' hr'
      have hne : r ≠ r' := fun e => h (e ▸ hr')
      rw [residentSlot, pageEntry_setPageEntry_ne hne]
      rfl
  unfold startExchange
  dsimp only
  (repeat' split)
  · rfl
  · exact hdrop (s.setExch { s.exch with cursor := k }) rfl
  · exact hdrop (s.setExch { s.exch with cursor := k }) rfl

/-- Taking up work brings no activation into a slot. -/
theorem activated_takeUp (k : Fin 6) (s : State) :
    ((slotAt k (takeUp s)).buttons.filter (fun b => b.st == .activated)).length ≤
      ((slotAt k s).buttons.filter (fun b => b.st == .activated)).length := by
  rcases takesUp_takeUp s with ⟨rest, ht⟩ | ⟨rest, p, j, -, ht⟩
  · rw [ht]
    rfl
  · rw [ht]
    by_cases hkj : k = j
    · subst hkj
      rcases slotAt_startExchange_same p k (s.setExch { s.exch with queue := rest }) with hslot | hslot
      · rw [hslot]
        exact Nat.zero_le _
      · rw [hslot]
        rfl
    · rw [slotAt_startExchange_ne hkj]
      rfl

/-! ### Removal (R67) -/

theorem slotAt_detachEntry (k : Fin 6) (r : PageRef) (code : Option Half) (s : State) :
    slotAt k (detachEntry r code s) = slotAt k s := by
  have hnotice (kind : NoticeKind) (i : Nat) (c : Half) : slotAt k (pageNotice kind r i c s) = slotAt k s := by
    rw [slotAt, pageNotice, exch_post]
    rfl
  unfold detachEntry
  split
  · extract_lets s1 s2
    have hs1 : slotAt k s1 = slotAt k s := by
      unfold s1
      split
      · rfl
      · exact hnotice ..
    split <;> exact hs1
  · rfl

/-- After a removal a hold runs only in the slot of the SHOWN focus. -/
theorem removeEntry_hold {s : State} {r : PageRef} {k : Fin 6} (hentry : hasEntry r s = true)
    (hone : ((slotAt k s).buttons.filter (fun b => b.st == .activated)).length ≤ 1) (code : Option Half)
    (hst : (slotAt k (removeEntry r code s)).st = .ready ∨ (slotAt k (removeEntry r code s)).st = .saving)
    (hrunning : holdRunning (slotAt k (removeEntry r code s)) = true) :
    (slotAt k (removeEntry r code s)).st = .ready ∧ ∃ e, focusEntry (removeEntry r code s) = some e ∧
      e.st = .shown ∧ (slotAt k (removeEntry r code s)).page = some e.page := by
  obtain ⟨u, hu, hone⟩ : ∃ u, removeEntry r code s = handOn u ∧
      ((slotAt k u).buttons.filter (fun b => b.st == .activated)).length ≤ 1 := by
    refine ⟨_, if_pos hentry, ?_⟩
    split
    · refine (activated_takeUp k _).trans ?_
      rwa [slotAt_detachEntry]
    · rwa [slotAt_detachEntry]
  rw [hu] at hst hrunning ⊢
  rw [focusEntry_handOn]
  by_cases hloses : losesFocus (focusEntry u) (slotAt k u)
  · rw [slotAt_handOn_loses hloses, holdRunning_cancelledSlot hone] at hrunning
    cases hrunning
  · rw [slotAt_handOn_keeps hloses] at hst ⊢
    by_contra hno
    exact hloses ⟨hst, hno⟩

/-! ### Redefinition (R59) -/

theorem readySlot_eq_some {r : PageRef} {s : State} {k : Fin 6} :
    readySlot r s = some k ↔ residentSlot r s = some k ∧ (slotAt k s).st = .ready := by
  unfold readySlot
  cases residentSlot r s with
  | none => simp
  | some j =>
    dsimp only
    constructor
    · intro h
      split at h
      · cases h
        exact ⟨rfl, by assumption⟩
      · cases h
    · rintro ⟨hj, hst⟩
      cases hj
      exact if_pos hst

section Redefined

variable {s : State} {r : PageRef} {k : Fin 6} (hready : readySlot r s = some k)
  (hpage : (slotAt k s).page = some r) (hentry : hasEntry r s = true)
  (hunique : ∀ j, j ≠ k → (slotAt j s).page ≠ some r)

include hready hpage hentry hunique

/-- Work is taken up elsewhere while the page stands on the stack: its slot is pinned (R47, R53). -/
theorem pinnedSlot_takeUp : residentSlot r (takeUp s) = some k ∧ slotAt k (takeUp s) = slotAt k s := by
  obtain ⟨hresident, hst⟩ := readySlot_eq_some.1 hready
  rcases takesUp_takeUp s with ⟨rest, ht⟩ | ⟨rest, p, j, hj, ht⟩
  · rw [ht]
    exact ⟨hresident, rfl⟩
  · have hkj : k ≠ j := by
      rintro rfl
      rcases chooseSlot_qualifies hj with hempty | hfree
      · rw [hst] at hempty
        cases hempty
      · rw [pinned_of_resident hpage hresident hentry] at hfree
        cases hfree
    have hresidency := residentSlot_startExchange (s := s.setExch { s.exch with queue := rest }) (hunique j hkj.symm) p
    rw [ht, hresidency, slotAt_startExchange_ne hkj]
    exact ⟨hresident, rfl⟩

/-- A page with a stack entry whose READY slot no exchange uses reloads in place, its activation cancelled. -/
theorem slotAt_exchangeRedefined (hother : ∀ x, s.exch.current = some x → x.slot ≠ k) :
    slotAt k (exchangeRedefined r s) = { slotAt k (cancelActivation k s) with st := .loading } := by
  have hkept : abandonSave (fun x => x == r) s = s := by
    rw [abandonSave_eq]
    split
    · rfl
    · rename_i x hx
      exact if_neg fun h => hunique x.slot (hother x hx) h.2
  have hdrop := dropControllerRequest_eq (fun x => x == r) s
  have hleft : residentSlot r (redefinedLeft r s) = some k ∧ slotAt k (redefinedLeft r s) = slotAt k s := by
    rw [redefinedLeft, hkept, hdrop]
    exact pinnedSlot_takeUp (s := (s.setExch _).setNav _) hready hpage hentry hunique
  obtain ⟨hresident, hslot⟩ := hleft
  have hdisp : (redefinedLeft r s).disp = s.disp := by
    have hstill : still (redefinedLeft r s) = still s := by
      rw [redefinedLeft, still_takeUp, hkept, hdrop]
      rfl
    have h : (still (redefinedLeft r s)).disp = (still s).disp := by rw [hstill]
    exact h
  have hst : (slotAt k (redefinedLeft r s)).st = .ready := by
    rw [hslot]
    exact readySlot_st hready
  rw [exchangeRedefined_resident (readySlot_eq_some.2 ⟨hresident, hst⟩), slotAt_setSlot_same, slotAt_cancelActivation,
    slotAt_cancelActivation, hslot, hdisp]

end Redefined

/-! ### The button of the hold (R89, R103) -/

/-- In a sound slot a running hold is the selection's. -/
theorem slotSound_hold {sl : Slot} (h : slotSound sl) (hrunning : holdRunning sl = true) :
    ∃ i, selectionIndex sl = some i ∧ ∀ j b, j ≠ i → sl.buttons[j]? = some b → b.st ≠ .activated := by
  obtain ⟨i, hi⟩ := Option.isSome_iff_exists.1 hrunning
  obtain ⟨hlt, hact, -⟩ := List.findIdx?_eq_some_iff_getElem.1 hi
  unfold slotSound at h
  split at h
  · rw [h.1] at hlt
    cases hlt
  · obtain ⟨-, -, -, hchosen⟩ := h
    have hindex {j : Nat} {b : ButtonLive} (hb : sl.buttons[j]? = some b) (hst : b.st = .activated) :
        selectionIndex sl = some j := (hchosen j).1 ⟨b, hb, by simp [isChosen, hst]⟩
    have hi := hindex (List.getElem?_eq_getElem hlt) (by simpa using hact)
    refine ⟨i, hi, fun j b hj hb hst => hj ?_⟩
    exact Option.some.inj ((hindex hb hst).symm.trans hi)

/-- The default rule's choice starts no activation. -/
theorem noHold_applyDefault {u : State} {k : Fin 6} (h : noHold (slotAt k u)) :
    noHold (slotAt k (applyDefault k u)) := by
  have hbecomes (c : Nat) : noHold (slotAt k (becomeSelection k c u)) := by
    by_cases hsame : selectionIndex (slotAt k u) = some c
    · rwa [becomeSelection_same hsame]
    · rw [slotAt_becomeSelection hsame]
      exact noHold_selectIn h u.disp.counter c
  cases hd : (slotAt k u).defn with
  | none => simpa only [applyDefault, hd] using h
  | some d =>
    cases hc : defaultChoice d (slotAt k u).buttons with
    | some c =>
      rw [applyDefault_some hd hc]
      exact hbecomes c
    | none =>
      rw [applyDefault_none hd hc]
      split
      · exact h
      · rw [slotAt_commitButtons]
        exact h

section Hold

variable {s : State} {k : Fin 6} (hsound : slotSound (slotAt k s)) (hrunning : holdRunning (slotAt k s) = true)
  {c : Nat}

include hsound hrunning

/-- Another button becomes the selection: the activation is cancelled (R97). -/
theorem noHold_becomeSelection (hother : selectionIndex (slotAt k s) ≠ some c) :
    noHold (slotAt k (becomeSelection k c s)) := by
  obtain ⟨i, hi, honly⟩ := slotSound_hold hsound hrunning
  rw [slotAt_becomeSelection hother]
  have hformer : noHold (putButton i .normal s.disp.counter { slotAt k s with hold := 0 }) :=
    ⟨noHold_set_only honly (by decide) _, rfl⟩
  unfold selectIn
  simp only [hi, hrunning, if_true]
  exact noHold_putButton (st := .selected) hformer c (by decide) s.disp.counter

/-- The button of the activation is disabled: the activation is cancelled (R97, R103). -/
theorem noHold_disable (hon : enabledAt (slotAt k s) c = true) (hc : selectionIndex (slotAt k s) = some c) :
    noHold (slotAt k (changeEnable k c false s)) := by
  obtain ⟨i, hi, honly⟩ := slotSound_hold hsound hrunning
  cases hi.symm.trans hc
  have hoff : noHold (putButton c .disabled s.disp.counter { slotAt k s with selection := none, hold := 0 }) :=
    ⟨noHold_set_only honly (by decide) _, rfl⟩
  have hchange : changeEnable k c false s = applyDefault k (commitButtons k
      (putButton c .disabled s.disp.counter { slotAt k s with selection := none, hold := 0 }) s) := by
    simp only [changeEnable, disableButton, hon, hc, hrunning]
    rfl
  rw [hchange]
  refine noHold_applyDefault ?_
  rw [slotAt_commitButtons]
  exact hoff

end Hold

end Sys2Proof.Machine

namespace Sys2Proof.Machine

open Sys2Proof

/-! ## KEY and KEY_DELIVERY together (R83 to R86, R92, R93, R97) -/

section FocusKeys

variable {s : State} {e : Entry} {k : Fin 6} {d : PageDef} (hfocus : focusEntry s = some e)
  (hready : readySlot e.page s = some k) (hd : (slotAt k s).defn = some d)

include hfocus hready hd

theorem deliverKey_directional {key : Key} {dir : Direction}
    (h : (key, dir) ∈ [(Key.up, Direction.up), (.down, .down), (.left, .left), (.right, .right)]) :
    deliverKey key s = moveSelection k d dir (reloadTimeout k s) := by
  rw [deliverKey_focus hfocus hready hd, keyOnPage_directional h]

end FocusKeys

/-- The reload of the timeout leaves what the walk and the selection read. -/
theorem selectionIndex_reloadTimeout (k : Fin 6) (s : State) :
    selectionIndex (slotAt k (reloadTimeout k s)) = selectionIndex (slotAt k s) := by
  rw [reloadTimeout_eq, slotAt_setSlot_same]
  rfl

theorem neighbourWalk_reloadTimeout (k : Fin 6) (s : State) (d : PageDef) (dir : Direction) (i : Nat) :
    neighbourWalk d (slotAt k (reloadTimeout k s)) dir i = neighbourWalk d (slotAt k s) dir i := by
  refine walkFrom_congr d (fun j => ?_) dir i 8 i
  rw [reloadTimeout_eq, slotAt_setSlot_same]
  rfl

/-- Settles O32: the queue and its delivery, the keys on the focus page by kind, then how activations end without an
outcome. -/
theorem keysQueueAndAreDelivered : Obligations.KeysQueueAndAreDelivered := by
  refine ⟨fun s kind hopen => ⟨fun hkind => ?_, fun k hk hfull => ?_, fun k hk hroom => ?_, fun k hk hroom hbusy => ?_⟩,
    fun s hawake => ⟨fun hidle => ?_, fun k ks hkeys hdeliver => ⟨?_, ?_, fun hks => ?_⟩⟩,
    fun s k hfocus => ⟨deliverKey_noFocus_noShow hfocus k, deliverKey_noFocus_show hfocus k⟩,
    fun s e k d key hfocus hready hd => ?_,
    fun s k i d hd => ?_,
    fun s k => ⟨cancelActivation_none, fun i => cancelActivation_some⟩,
    fun s k => ?_,
    fun s r code k hentry hone => removeEntry_hold hentry hone code,
    fun s k => ⟨fun r hready hpage hentry hunique => slotAt_exchangeRedefined hready hpage hentry hunique,
      fun hsound hrunning c hon => ⟨noHold_becomeSelection hsound hrunning, noHold_disable hsound hrunning hon⟩⟩⟩
  · exact exec_key hopen (doKey_noKey (key?_none hkind))
  · exact exec_key hopen (doKey_full (s := crossed 1 s) hk hfull)
  · exact exec_key hopen (doKey_joins (s := crossed 1 s) hk hroom)
  · refine (exec_key hopen (doKey_joins (s := crossed 1 s) hk hroom)).trans ?_
    rw [deliverKeys_idle (s := (crossed 1 s).setNav _) (.inr hbusy)]
    rfl
  · rw [exec_keyDelivery hawake, deliverKeys_idle hidle]
  · have hnext : (deliverKey k (s.setNav { s.nav with keys := ks })).resetLow = false :=
      (resetLow_deliverKey ..).trans hawake
    rw [exec_keyDelivery hawake, deliverKeys_head hkeys hdeliver, exec_keyDelivery hnext, deliverKeys_deliverKey]
  · rw [exec_keyDelivery hawake, deliverKeys_head hkeys hdeliver]
  · subst hks
    rw [exec_keyDelivery hawake, deliverKeys_head hkeys hdeliver]
    rfl
  · intro sl t unused
    have ht : reloadTimeout k s = t := rfl
    have hkey := deliverKey_focus hfocus hready hd
    refine ⟨fun dir hdir => ?_, fun henter => ?_, fun hback => ?_, fun hslide => ?_⟩
    · rw [deliverKey_directional hfocus hready hd hdir]
      have hindex := selectionIndex_reloadTimeout k s
      refine ⟨fun hnone => moveSelection_noSelection (hindex.trans hnone), fun i hi =>
        ⟨fun hstays => ?_, fun c b hwalk hb => ?_⟩⟩
      · exact moveSelection_stays (hindex.trans hi) ((neighbourWalk_reloadTimeout ..).trans hstays)
      · have hne : selectionIndex (slotAt k t) ≠ some c := by
          rw [← ht, hindex, hi]
          exact fun h => walkFrom_ne d sl dir i 8 hwalk (Option.some.inj h).symm
        refine ⟨slotAt_becomeSelection hne, ?_, ?_⟩
        · rw [becomeSelection_moves hne]
          exact recompose_commitButtons ..
        · exact moveSelection_moves (hindex.trans hi) ((neighbourWalk_reloadTimeout ..).trans hwalk) hb
    · subst henter
      rw [hkey]
      have hindex : selectionIndex (slotAt k t) = selectionIndex sl := selectionIndex_reloadTimeout k s
      change enterKey e.page k t = _
      unfold enterKey
      rw [hindex]
      rfl
    · subst hback
      rw [hkey]
      rfl
    · rw [hkey, keyOnPage_slide hslide]
      rfl
  · intro begun
    rw [beginActivation_eq hd, activateButton_eq hd]
  · split
    · rename_i hloses
      rw [slotAt_handOn_loses hloses, slotAt_cancelActivation]
    · rename_i hkeeps
      exact slotAt_handOn_keeps hkeeps

end Sys2Proof.Machine

namespace Sys2Proof.Machine

open Sys2Proof

/-! ## The Page Stack: what each operation makes of the stack, the notices and the show (R62 to R82) -/

/-! ### Finding an entry (R62, R66) -/

theorem mem_of_entryOf {r : PageRef} {s : State} {e : Entry} (h : entryOf r s = some e) :
    e ∈ s.stack.entries ∧ e.page = r :=
  ⟨List.mem_of_find?_eq_some h, by simpa using List.find?_some h⟩

theorem entryOf_eq_none_iff (r : PageRef) (s : State) : entryOf r s = none ↔ ∀ e ∈ s.stack.entries, e.page ≠ r := by
  simp [entryOf]

/-- The position of an entry that no entry of its page stands below. -/
theorem positionOf_split {r : PageRef} {s : State} {below above : List Entry} {x : Entry}
    (h : s.stack.entries = below ++ x :: above) (hx : x.page = r) (hbelow : ∀ y ∈ below, y.page ≠ r) :
    positionOf r s = some below.length ∧ entryOf r s = some x := by
  have hnone : below.find? (fun e => e.page == r) = none := by simpa using hbelow
  have hidx : below.findIdx? (fun e => e.page == r) = none := by simpa using hbelow
  constructor
  · simp [positionOf, h, List.findIdx?_append, hidx, List.findIdx?_cons, hx]
  · simp [entryOf, h, List.find?_append, hnone, hx]

theorem length_closeOrder (e : Entry) (es : List Entry) : (closeOrder e es).length = es.length := by
  simp [closeOrder_eq]

/-- The leaving order has a gap only where a LEAVING entry goes (R62). -/
theorem closeOrder_of_not_leaving {e : Entry} (h : e.st ≠ .leaving) (es : List Entry) : closeOrder e es = es := by
  simp [closeOrder_eq, h]

/-! ### An added, a removed, a changed entry (R63, R66, R67) -/

theorem offExchange_requestPage (w : Requester) (r : PageRef) (s : State) :
    offExchange (requestPage w r s) = offExchange s := by
  unfold requestPage
  (repeat' split) <;> simp

/-- Outside the exchange an added entry changes the list alone (R63). -/
theorem offExchange_insertEntry (i : Nat) (e : Entry) (s : State) : offExchange (insertEntry i e s) =
    offExchange (setEntries (s.stack.entries.take i ++ [e] ++ s.stack.entries.drop i) s) := by
  unfold insertEntry
  rw [offExchange_handOn, offExchange_requestPage]

theorem stack_insertEntry (i : Nat) (e : Entry) (s : State) : (insertEntry i e s).stack =
    { s.stack with entries := s.stack.entries.take i ++ [e] ++ s.stack.entries.drop i } :=
  stack_of_offExchange (offExchange_insertEntry i e s)

theorem link_insertEntry (i : Nat) (e : Entry) (s : State) : (insertEntry i e s).link = s.link :=
  (link_of_offExchange (offExchange_insertEntry i e s)).trans rfl

theorem stack_changeEntry (r : PageRef) (f : Entry → Entry) (s : State) : (changeEntry r f s).stack =
    { s.stack with entries := s.stack.entries.map (fun e => if e.page = r then f e else e) } :=
  stack_of_offExchange (offExchange_changeEntry r f s)

theorem link_changeEntry (r : PageRef) (f : Entry → Entry) (s : State) : (changeEntry r f s).link = s.link :=
  (link_of_offExchange (offExchange_changeEntry r f s)).trans rfl

theorem stack_entryGone (r : PageRef) (i : Nat) (e : Entry) (code : Option Half) (s : State) :
    (entryGone r i e code s).stack = { s.stack with entries := closeOrder e (s.stack.entries.eraseIdx i) } := by
  rw [entryGone_eq]; rfl

theorem stack_removeEntry {r : PageRef} {s : State} {e : Entry} (code : Option Half) (he : entryOf r s = some e) :
    (removeEntry r code s).stack =
      { s.stack with entries := closeOrder e (s.stack.entries.eraseP (fun x => x.page == r)) } := by
  rcases entryOf_cases r s with ⟨-, hnone⟩ | ⟨i, e', hi, he'⟩
  · cases hnone.symm.trans he
  · cases he'.symm.trans he
    rw [stack_of_offExchange (offExchange_removeEntry code hi he), stack_entryGone, eraseIdx_positionOf hi]

theorem link_removeEntry {r : PageRef} {i : Nat} {s : State} (code : Option Half) (hi : positionOf r s = some i) :
    (removeEntry r code s).link = (hiddenNotice r i code s).link := by
  rcases entryOf_cases r s with ⟨hnone, -⟩ | ⟨j, e, hj, he⟩
  · cases hnone.symm.trans hi
  · cases hj.symm.trans hi
    rw [link_of_offExchange (offExchange_removeEntry code hi he), entryGone_eq]
    rfl

/-- A slide that is removed within an event is removed like any entry, but that the exchange waits (R67, R79). -/
theorem offExchange_removeBeforeSlide (r : PageRef) (code : Half) (s : State) :
    offExchange (removeBeforeSlide r code s) = offExchange (removeEntry r (some code) s) := by
  unfold removeBeforeSlide removeEntry
  dsimp only
  split
  · rw [offExchange_handOn, offExchange_handOn]
    split
    · exact (offExchange_takeUp _).symm
    · rfl
  · rfl

theorem stack_removeBeforeSlide {r : PageRef} {s : State} {e : Entry} (code : Half) (he : entryOf r s = some e) :
    (removeBeforeSlide r code s).stack =
      { s.stack with entries := closeOrder e (s.stack.entries.eraseP (fun x => x.page == r)) } :=
  (stack_of_offExchange (offExchange_removeBeforeSlide r code s)).trans (stack_removeEntry _ he)

theorem length_removeEntry {r : PageRef} {s : State} {e : Entry} (code : Option Half) (he : entryOf r s = some e) :
    (removeEntry r code s).stack.entries.length + 1 = s.stack.entries.length := by
  obtain ⟨hmem, hpage⟩ := mem_of_entryOf he
  have hpos := List.length_pos_of_mem hmem
  rw [stack_removeEntry code he, length_closeOrder, List.length_eraseP_of_mem hmem (by simpa using hpage)]
  omega

theorem length_removeBeforeSlide {r : PageRef} {s : State} {e : Entry} (code : Half) (he : entryOf r s = some e) :
    (removeBeforeSlide r code s).stack.entries.length + 1 = s.stack.entries.length := by
  rw [stack_of_offExchange (offExchange_removeBeforeSlide r code s)]
  exact length_removeEntry _ he

/-! ### An entry turns SHOWN (R65, R66) -/

theorem stack_turnShown (r : PageRef) (code : Half) (s : State) : (turnShown r code s).stack = { s.stack with
    entries := s.stack.entries.map (fun x => if x.page = r then renewedEntry s.disp.counter x else x) } := by
  unfold turnShown
  rw [stack_pageNotice, stack_changeEntry]
  rfl

/-- PAGE_SHOWN carries the position of the entry that turns SHOWN (R66). -/
theorem link_turnShown {r : PageRef} {i : Nat} (code : Half) {s : State} (hi : positionOf r s = some i) :
    (turnShown r code s).link = (pageNotice .pageShown r i code s).link := by
  have h := offExchange_changeEntry r (fun e => { e with st := .shown, start := some (fieldNow s), role := .plain }) s
  unfold turnShown pageNotice
  dsimp only
  rw [hi]
  exact post_link_congr _ _ _ _ _ _ _ _ ((link_of_offExchange h).trans rfl) ((disp_of_offExchange h).trans rfl)
    ((cues_of_offExchange h).trans rfl)

/-! ### Room for an entry (R68) -/

theorem mem_of_oldestLeaving {s : State} {y : Entry} (h : oldestLeaving s = some y) :
    y ∈ s.stack.entries ∧ y.st = .leaving := by
  have hmem := List.mem_of_find?_eq_some h
  rw [List.mem_filter] at hmem
  exact ⟨hmem.1, by simpa [isLeaving] using hmem.2⟩

theorem roomBy_room {cut : PageRef → State → State} {s : State} (h : s.stack.entries.length < 5) :
    roomBy cut s = some s := if_pos h

theorem roomBy_cut {cut : PageRef → State → State} {s : State} {y : Entry} (h : 5 ≤ s.stack.entries.length)
    (hy : oldestLeaving s = some y) : roomBy cut s = some (cut y.page s) := by
  rw [roomBy, if_neg (by omega), hy]; rfl

theorem roomBy_none {cut : PageRef → State → State} {s : State} (h : 5 ≤ s.stack.entries.length)
    (hnone : ∀ y ∈ s.stack.entries, y.st ≠ .leaving) : roomBy cut s = none := by
  rw [roomBy, if_neg (by omega), oldestLeaving_none hnone]; rfl

/-- A page that has an entry among the entries is found. -/
theorem entryOf_of_mem {s : State} {y : Entry} (h : y ∈ s.stack.entries) : ∃ e, entryOf y.page s = some e :=
  (hasEntry_iff y.page s).1 ((hasEntry_iff_mem y.page s).2 ⟨y, h, rfl⟩)

end Sys2Proof.Machine

namespace Sys2Proof.Machine

open Sys2Proof

/-! ## The queues and stacks stay within their sizes: the interactive blocks (R62, R75, R83, R181)

Only a few operations add to a queue or a stack, and each looks for room first; the others say that they leave the sizes
within bounds because the operations they are made of do, in the order of the model. -/

/-- The notices, the keys, the entries of the stack and the two return stacks are within the sizes the manual gives. -/
def bounded (s : State) : Prop :=
  s.link.notices.length ≤ 32 ∧ s.nav.keys.length ≤ 8 ∧ s.stack.entries.length ≤ 5 ∧
    s.stack.discFrames.length ≤ 8 ∧ s.stack.playerFrames.length ≤ 8

/-- What is bounded is outside the exchange. -/
theorem bounded_of_offExchange {s t : State} (h : offExchange t = offExchange s) : bounded t ↔ bounded s := by
  unfold bounded
  rw [link_of_offExchange h, nav_of_offExchange h, stack_of_offExchange h]

section Bounded

variable {s : State}

/-! ### Single updates -/

@[simp] theorem bounded_setMem (v : Memory) : bounded (s.setMem v) ↔ bounded s := Iff.rfl
@[simp] theorem bounded_setExch (v : Exchange) : bounded (s.setExch v) ↔ bounded s := Iff.rfl
@[simp] theorem bounded_setSlot (k : Fin 6) (v : Slot) : bounded (setSlot k v s) ↔ bounded s := Iff.rfl
@[simp] theorem bounded_setPageEntry (r : PageRef) (e : PageEntry) : bounded (setPageEntry r e s) ↔ bounded s := Iff.rfl
@[simp] theorem bounded_updateSeq (f : Sequencer → Sequencer) : bounded (updateSeq f s) ↔ bounded s := Iff.rfl
@[simp] theorem bounded_raiseRecompose : bounded (raiseRecompose s) ↔ bounded s := Iff.rfl

@[simp] theorem bounded_setNav {v : Navigation} (hv : v.keys.length ≤ s.nav.keys.length) (h : bounded s) :
    bounded (s.setNav v) := by
  obtain ⟨hnotices, hkeys, hstack⟩ := h
  exact ⟨hnotices, hv.trans hkeys, hstack⟩

@[simp] theorem bounded_setEntries {es : List Entry} (hes : es.length ≤ 5) (h : bounded s) :
    bounded (setEntries es s) := by
  obtain ⟨hnotices, hkeys, -, hframes⟩ := h
  exact ⟨hnotices, hkeys, hes, hframes⟩

/-- A notice joins the queue only where it holds fewer than 32 (R181). -/
@[simp] theorem bounded_post (kind : NoticeKind) (owner : Option Owner) (page : Option (Fin 32)) (index code : Half)
    (detail : Word) (flag : Bool) (h : bounded s) : bounded (post kind owner page index code detail flag s) := by
  unfold post
  split
  · rename_i hroom
    obtain ⟨-, hrest⟩ := h
    exact ⟨by rw [State.setLink_link, List.length_append]; exact hroom, hrest⟩
  · exact h

theorem entries_le_of_bounded (h : bounded s) : s.stack.entries.length ≤ 5 := h.2.2.1

theorem bounded_foldl {α : Type} (f : State → α → State) (hf : ∀ t a, bounded t → bounded (f t a))
    (l : List α) : ∀ {s : State}, bounded s → bounded (l.foldl f s) := by
  induction l with
  | nil => exact id
  | cons a l ih => exact fun h => ih (hf _ a h)

/-! ### Buttons -/

@[simp] theorem bounded_markDirty (k : Fin 6) : bounded (markDirty k s) ↔ bounded s := by
  simp only [markDirty]
  (repeat' split) <;> simp

@[simp] theorem bounded_commitButtons (k : Fin 6) (sl : Slot) :
    bounded (commitButtons k sl s) ↔ bounded s := by
  simp [commitButtons]

@[simp] theorem bounded_becomeSelection (k : Fin 6) (c : Nat) :
    bounded (becomeSelection k c s) ↔ bounded s := by
  simp only [becomeSelection]
  (repeat' split) <;> simp

@[simp] theorem bounded_applyDefault (k : Fin 6) : bounded (applyDefault k s) ↔ bounded s := by
  simp only [applyDefault]
  (repeat' split) <;> simp

@[simp] theorem bounded_selectButton (k : Fin 6) (id : Byte) :
    bounded (selectButton k id s) ↔ bounded s := by
  simp only [selectButton]
  (repeat' split) <;> simp

@[simp] theorem bounded_selectIfEnabled (k : Fin 6) (id : Byte) :
    bounded (selectIfEnabled k id s) ↔ bounded s := by
  simp only [selectIfEnabled]
  (repeat' split) <;> simp

@[simp] theorem bounded_enableButton (k : Fin 6) (i : Nat) : bounded (enableButton k i s) ↔ bounded s := by
  simp only [enableButton]
  (repeat' split) <;> simp

@[simp] theorem bounded_disableButton (k : Fin 6) (i : Nat) : bounded (disableButton k i s) ↔ bounded s := by
  simp only [disableButton]
  (repeat' split) <;> simp

@[simp] theorem bounded_changeEnable (k : Fin 6) (i : Nat) (enable : Bool) :
    bounded (changeEnable k i enable s) ↔ bounded s := by
  simp only [changeEnable]
  (repeat' split) <;> simp

@[simp] theorem bounded_cancelActivation (k : Fin 6) : bounded (cancelActivation k s) ↔ bounded s := by
  simp only [cancelActivation]
  (repeat' split) <;> simp

@[simp] theorem bounded_activateButton (k : Fin 6) (i : Nat) :
    bounded (activateButton k i s) ↔ bounded s := by
  simp only [activateButton]
  (repeat' split) <;> simp

/-! ### Page Exchange -/

@[simp] theorem bounded_takeUp : bounded (takeUp s) ↔ bounded s := bounded_of_offExchange (offExchange_takeUp s)

@[simp] theorem bounded_requestPage (w : Requester) (r : PageRef) : bounded (requestPage w r s) ↔ bounded s :=
  bounded_of_offExchange (offExchange_requestPage w r s)

@[simp] theorem bounded_withdrawRequest (w : Requester) (r : PageRef) : bounded (withdrawRequest w r s) ↔ bounded s :=
  bounded_of_offExchange (offExchange_withdrawRequest w r s)

@[simp] theorem bounded_leaveSave (t : Transfer) : bounded (leaveSave t s) ↔ bounded s :=
  bounded_of_offExchange (offExchange_leaveSave t s)

@[simp] theorem bounded_dropHeld (h : bounded s) : bounded (dropHeld s) := h

theorem bounded_exchangeRedefined (r : PageRef) (h : bounded s) : bounded (exchangeRedefined r s) := by
  have hleft : bounded (redefinedLeft r s) := by
    unfold redefinedLeft
    rw [bounded_takeUp, dropControllerRequest_eq]
    refine bounded_setNav ?_ ((bounded_setExch _).2 ((bounded_of_offExchange (offExchange_abandonSave _ s)).2 h))
    unfold heldWithout
    split <;> exact Nat.le_refl _
  unfold exchangeRedefined
  dsimp only
  split
  · exact hleft
  · exact (bounded_setSlot ..).2 ((bounded_cancelActivation _).2 hleft)

theorem bounded_exchangeDrop (test : PageRef → Bool) (h : bounded s) : bounded (exchangeDrop test s) := by
  refine (bounded_of_offExchange (offExchange_exchangeDrop test s)).2 (bounded_setNav ?_ h)
  unfold heldWithout
  split <;> exact Nat.le_refl _

/-! ### Page Stack -/

@[simp] theorem bounded_pageNotice (kind : NoticeKind) (r : PageRef) (pos : Nat) (code : Half) (h : bounded s) :
    bounded (pageNotice kind r pos code s) := bounded_post _ _ _ _ _ _ _ h

@[simp] theorem bounded_handOn : bounded (handOn s) ↔ bounded s := bounded_of_offExchange (offExchange_handOn s)

/-- An entry is added only where there is room (R68). -/
theorem bounded_insertEntry (i : Nat) (e : Entry) (hroom : s.stack.entries.length < 5) (h : bounded s) :
    bounded (insertEntry i e s) := by
  refine (bounded_of_offExchange (offExchange_insertEntry i e s)).2 (bounded_setEntries ?_ h)
  simp only [List.length_append, List.length_take, List.length_drop, List.length_singleton]
  omega

@[simp] theorem bounded_dropReturnSel (test : PageRef → Bool) (h : bounded s) : bounded (dropReturnSel test s) := h

@[simp] theorem bounded_removeEntry (r : PageRef) (code : Option Half) (h : bounded s) :
    bounded (removeEntry r code s) := by
  rcases entryOf_cases r s with ⟨-, he⟩ | ⟨i, e, hi, he⟩
  · rwa [removeEntry_none code he]
  · have hle := entries_le_of_bounded h
    have hlen := (length_removeEntry code he).le
    rw [stack_of_offExchange (offExchange_removeEntry code hi he), stack_entryGone] at hlen
    refine (bounded_of_offExchange (offExchange_removeEntry code hi he)).2
      (bounded_dropReturnSel _ (bounded_setEntries (Nat.le_trans (Nat.le_succ _) (hlen.trans hle)) ?_))
    cases code with
    | none => exact h
    | some c => exact bounded_pageNotice _ _ _ _ h

@[simp] theorem bounded_removeBeforeSlide (r : PageRef) (code : Half) (h : bounded s) :
    bounded (removeBeforeSlide r code s) :=
  (bounded_of_offExchange (offExchange_removeBeforeSlide r code s)).2 (bounded_removeEntry r _ h)

@[simp] theorem bounded_changeEntry (r : PageRef) (f : Entry → Entry) (h : bounded s) :
    bounded (changeEntry r f s) :=
  (bounded_of_offExchange (offExchange_changeEntry r f s)).2
    (bounded_setEntries (by simpa using entries_le_of_bounded h) h)

@[simp] theorem bounded_turnShown (r : PageRef) (code : Half) (h : bounded s) : bounded (turnShown r code s) := by
  simp [turnShown, h]

theorem bounded_addEntering (r : PageRef) (i : Nat) (hroom : s.stack.entries.length < 5) (h : bounded s) :
    bounded (addEntering r i s) := by
  have hadded (e : Entry) : bounded (insertEntry i e s) := bounded_insertEntry i e hroom h
  simp only [addEntering]
  (repeat' split) <;> simp [hadded]

/-- Room is there, or a cut makes it (R68). -/
theorem bounded_roomBy {cut : PageRef → State → State} (hcut : ∀ r, bounded (cut r s))
    (hlen : ∀ r e, entryOf r s = some e → (cut r s).stack.entries.length + 1 = s.stack.entries.length) {t : State}
    (h : bounded s) (ht : roomBy cut s = some t) : bounded t ∧ t.stack.entries.length < 5 := by
  by_cases hroom : s.stack.entries.length < 5
  · cases (roomBy_room hroom).symm.trans ht
    exact ⟨h, hroom⟩
  · rw [roomBy, if_neg hroom] at ht
    obtain ⟨y, hy, rfl⟩ := Option.map_eq_some_iff.1 ht
    obtain ⟨e, he⟩ := entryOf_of_mem (mem_of_oldestLeaving hy).1
    have hcutlen := hlen _ e he
    have hle := entries_le_of_bounded h
    exact ⟨hcut y.page, by omega⟩

theorem bounded_makeRoom {t : State} (h : bounded s) (ht : makeRoom s = some t) :
    bounded t ∧ t.stack.entries.length < 5 :=
  bounded_roomBy (fun r => bounded_removeEntry r _ h) (fun _ _ he => length_removeEntry _ he) h ht

theorem bounded_slideRoom {t : State} (h : bounded s) (ht : slideRoom s = some t) :
    bounded t ∧ t.stack.entries.length < 5 :=
  bounded_roomBy (fun r => bounded_removeBeforeSlide r _ h) (fun _ _ he => length_removeBeforeSlide _ he) h ht

@[simp] theorem bounded_restoreEntry (r : PageRef) (h : bounded s) : bounded (restoreEntry r s) := by
  unfold restoreEntry
  split
  · exact h
  · exact bounded_turnShown _ _ (bounded_setEntries (by rw [length_closeOrder]; exact entries_le_of_bounded h) h)

theorem bounded_showEntry {r : PageRef} {t : State} (h : bounded s) (ht : showEntry r s = some t) : bounded t := by
  unfold showEntry at ht
  split at ht
  · obtain ⟨u, hu, rfl⟩ := Option.map_eq_some_iff.1 ht
    obtain ⟨hbounded, hroom⟩ := bounded_makeRoom h hu
    exact bounded_addEntering _ _ hroom hbounded
  · cases ht; split <;> simp [h]

@[simp] theorem bounded_startLeaving (r : PageRef) (h : bounded s) : bounded (startLeaving r s) := by
  simp only [startLeaving]
  (repeat' split) <;> simp [h]

@[simp] theorem bounded_hideBandEntries (o : Owner) (h : bounded s) : bounded (hideBandEntries o s) :=
  bounded_foldl _ (fun _ r ht => bounded_startLeaving r ht) _ h

@[simp] theorem bounded_replaceBy (acting target : PageRef) (h : bounded s) :
    bounded (replaceBy acting target s) := by
  have hleft := bounded_startLeaving acting h
  simp only [replaceBy]
  split
  · split
    · exact hleft
    · rename_i hroom
      obtain ⟨hbounded, hroom⟩ := bounded_makeRoom hleft hroom
      exact bounded_addEntering _ _ hroom hbounded
  · split <;> simp [h]

@[simp] theorem bounded_gotoPage (acting target : PageRef) (h : bounded s) :
    bounded (gotoPage acting target s) := by
  simp only [gotoPage]
  (repeat' split) <;> simp [h]

@[simp] theorem bounded_setFrames (o : Owner) {fs : List Frame} (hfs : fs.length ≤ 8) (h : bounded s) :
    bounded (setFrames o fs s) := by
  obtain ⟨hnotices, hkeys, hentries, hdisc, hplayer⟩ := h
  cases o with
  | disc => exact ⟨hnotices, hkeys, hentries, hfs, hplayer⟩
  | player => exact ⟨hnotices, hkeys, hentries, hdisc, hfs⟩

theorem frames_le_of_bounded (o : Owner) (h : bounded s) : (framesOf o s).length ≤ 8 := by
  obtain ⟨-, -, -, hdisc, hplayer⟩ := h
  cases o with
  | disc => exact hdisc
  | player => exact hplayer

/-- A frame that finds no room overwrites the oldest (R75). -/
@[simp] theorem bounded_pushFrame (o : Owner) (f : Frame) (h : bounded s) : bounded (pushFrame o f s) := by
  have hle := frames_le_of_bounded o h
  unfold pushFrame
  dsimp only
  split
  · rename_i hroom
    exact bounded_setFrames o hroom h
  · have hpushed : bounded (setFrames o (f :: (framesOf o s).dropLast) s) :=
      bounded_setFrames o (by rw [List.length_cons, List.length_dropLast]; omega) h
    split
    · exact hpushed
    · exact bounded_post _ _ _ _ _ _ _ hpushed

theorem entries_pushFrame (o : Owner) (f : Frame) (s : State) :
    (pushFrame o f s).stack.entries = s.stack.entries := by
  have hset (fs : List Frame) : (setFrames o fs s).stack.entries = s.stack.entries := by cases o <;> rfl
  unfold pushFrame
  dsimp only
  split
  · exact hset _
  · split
    · exact hset _
    · rw [post_eq_setLink]; exact hset _

theorem bounded_callPage {acting target : PageRef} {t : State} (h : bounded s)
    (ht : callPage acting target s = some t) : bounded t := by
  simp only [callPage] at ht
  split at ht
  · cases ht; exact h
  · split at ht
    · obtain ⟨u, hu, rfl⟩ := Option.map_eq_some_iff.1 ht
      obtain ⟨hbounded, hroom⟩ := bounded_makeRoom h hu
      exact bounded_addEntering _ _ (by rwa [entries_pushFrame]) (bounded_pushFrame _ _ hbounded)
    · cases ht; split <;> simp [h]

theorem bounded_showCalling {r : PageRef} {t : State} (h : bounded s) (ht : showCalling r s = some t) :
    bounded t := by
  simp only [showCalling] at ht
  split at ht
  · exact bounded_showEntry h ht
  · obtain ⟨u, hu, rfl⟩ := Option.map_eq_some_iff.1 ht
    obtain ⟨hbounded, hroom⟩ := bounded_makeRoom h hu
    split
    · exact bounded_addEntering _ _ hroom hbounded
    · exact bounded_addEntering _ _ (by rwa [entries_pushFrame]) (bounded_pushFrame _ _ hbounded)

@[simp] theorem bounded_giveReturnSel (r : PageRef) (b : Byte) (h : bounded s) : bounded (giveReturnSel r b s) := by
  simp only [giveReturnSel]
  (repeat' split) <;> simp [h]

@[simp] theorem bounded_returnFrom (acting : PageRef) (h : bounded s) : bounded (returnFrom acting s) := by
  have hle := frames_le_of_bounded acting.owner h
  have hpopped (n : Nat) : bounded (setFrames acting.owner ((framesOf acting.owner s).drop n) s) :=
    bounded_setFrames _ (by rw [List.length_drop]; omega) h
  have hnone : bounded (setFrames acting.owner [] s) := bounded_setFrames _ (Nat.zero_le _) h
  simp only [returnFrom]
  (repeat' split) <;> simp [hpopped, hnone]

theorem bounded_insertSlide (i : Nat) (e : Entry) (hroom : s.stack.entries.length < 5) (h : bounded s) :
    bounded (insertSlide i e s) := bounded_takeUp.2 (bounded_insertEntry i e hroom h)

theorem bounded_addSlide {r : PageRef} {t : State} (h : bounded s) (ht : addSlide r s = some t) : bounded t := by
  obtain ⟨u, hu, rfl⟩ := Option.map_eq_some_iff.1 ht
  obtain ⟨hbounded, hroom⟩ := bounded_slideRoom h hu
  exact bounded_pageNotice _ _ _ _ (bounded_insertSlide _ _ hroom hbounded)

theorem bounded_addIncoming {current r : PageRef} {t : State} (h : bounded s)
    (ht : addIncoming current r s = some t) : bounded t := by
  obtain ⟨u, hu, rfl⟩ := Option.map_eq_some_iff.1 ht
  obtain ⟨hbounded, hroom⟩ := bounded_slideRoom h hu
  exact bounded_insertSlide _ _ (by rw [stack_changeEntry, List.length_map]; exact hroom)
    (bounded_changeEntry _ _ hbounded)

@[simp] theorem bounded_endSlideTransition (outgoing incoming : PageRef) (h : bounded s) :
    bounded (endSlideTransition outgoing incoming s) := by
  simp only [endSlideTransition]
  (repeat' split) <;> simp [h]

@[simp] theorem bounded_renewSlide (r : PageRef) (h : bounded s) : bounded (renewSlide r s) := by
  simp [renewSlide, h]

@[simp] theorem bounded_emptySlideBand (silent : Bool) (h : bounded s) : bounded (emptySlideBand silent s) :=
  bounded_foldl _ (fun _ r ht => bounded_removeEntry r _ ht) _ h

@[simp] theorem bounded_examineEntry (r : PageRef) (h : bounded s) : bounded (examineEntry s r) := by
  simp only [examineEntry]
  (repeat' split) <;> simp [h]

@[simp] theorem bounded_stackField (h : bounded s) : bounded (stackField s) :=
  bounded_foldl _ (fun _ r ht => bounded_examineEntry r ht) _ h

@[simp] theorem bounded_stackLoaded (r : PageRef) (h : bounded s) : bounded (stackLoaded r s) := by
  simp only [stackLoaded]
  (repeat' split) <;> simp [h]

@[simp] theorem bounded_eraseStack (o : Owner) (h : bounded s) : bounded (eraseStack o s) :=
  bounded_foldl _ (fun _ r ht => bounded_removeEntry r _ ht) _ (bounded_setFrames o (Nat.zero_le _) h)

/-! ### Slide Sequencer -/

@[simp] theorem bounded_seqNotice (kind : NoticeKind) (page : Option PageRef) (code : Half) (h : bounded s) :
    bounded (seqNotice kind page code s) := bounded_post _ _ _ _ _ _ _ h

@[simp] theorem bounded_wantPage (r : PageRef) (h : bounded s) : bounded (wantPage r s) := by
  simp only [wantPage]
  (repeat' split) <;> simp [h]

@[simp] theorem bounded_wantNone (h : bounded s) : bounded (wantNone s) := by
  simp only [wantNone]
  (repeat' split) <;> simp [h]

@[simp] theorem bounded_prefetch (h : bounded s) : bounded (prefetch s) := by
  simp only [prefetch]
  (repeat' split) <;> simp [h]

@[simp] theorem bounded_completeAdvance (code : Half) (h : bounded s) :
    bounded (completeAdvance code s) := by
  unfold completeAdvance
  exact bounded_prefetch (bounded_seqNotice _ _ _ (bounded_wantNone ((bounded_updateSeq _).2 h)))

@[simp] theorem bounded_bringInFull (r : PageRef) (h : bounded s) : bounded (bringInFull r s) := by
  unfold bringInFull
  split
  · exact h
  · rename_i ht
    simp [bounded_addSlide h ht]

@[simp] theorem bounded_cutTo (shown r : PageRef) (h : bounded s) : bounded (cutTo shown r s) := by
  simp [cutTo, h]

@[simp] theorem bounded_startTransition (shown r : PageRef) (e : SlideEntry) (h : bounded s) :
    bounded (startTransition shown r e s) := by
  unfold startTransition
  split
  · simp [h]
  · split
    · simp [h]
    · rename_i ht
      simp [bounded_addIncoming h ht]

@[simp] theorem bounded_tryBringIn (h : bounded s) : bounded (tryBringIn s) := by
  simp only [tryBringIn]
  (repeat' split) <;> simp [h]

@[simp] theorem bounded_moveTo (j : Nat) (back : Bool) (h : bounded s) : bounded (moveTo j back s) := by
  simp only [moveTo]
  (repeat' split) <;> simp [h]

@[simp] theorem bounded_resetSeq : bounded (resetSeq s) ↔ bounded s := Iff.rfl

@[simp] theorem bounded_stopShow (reason : Half) (h : bounded s) : bounded (stopShow reason s) := by
  unfold stopShow
  exact bounded_resetSeq.2 (bounded_seqNotice _ _ _ (bounded_wantNone (bounded_emptySlideBand _ h)))

@[simp] theorem bounded_searchMove (back : Bool) (h : bounded s) : bounded (searchMove back s) := by
  simp only [searchMove]
  (repeat' split) <;> simp [h]

@[simp] theorem bounded_endTransition (h : bounded s) : bounded (endTransition s) := by
  simp only [endTransition]
  (repeat' split) <;> simp [h]

@[simp] theorem bounded_stepSettled (back : Bool) (h : bounded s) : bounded (stepSettled back s) := by
  simp only [stepSettled]
  (repeat' split) <;> simp [h]

@[simp] theorem bounded_stepShow (back : Bool) (h : bounded s) : bounded (stepShow back s) := by
  simp only [stepShow]
  (repeat' split) <;> simp [h]

@[simp] theorem bounded_pauseShow : bounded (pauseShow s) ↔ bounded s := by
  simp only [pauseShow]
  (repeat' split) <;> simp

@[simp] theorem bounded_resumeShow : bounded (resumeShow s) ↔ bounded s := by
  simp only [resumeShow]
  (repeat' split) <;> simp

@[simp] theorem bounded_togglePause : bounded (togglePause s) ↔ bounded s := by
  simp only [togglePause]
  (repeat' split) <;> simp

@[simp] theorem bounded_slideOperation (op : Nat) (h : bounded s) : bounded (slideOperation op s) := by
  simp only [slideOperation]
  (repeat' split) <;> simp [h]

@[simp] theorem bounded_countSlideHold (h : bounded s) : bounded (countSlideHold s) := by
  simp only [countSlideHold]
  (repeat' split) <;> simp [h]

@[simp] theorem bounded_waitField (h : bounded s) : bounded (waitField s) := by
  simp only [waitField]
  (repeat' split) <;> simp [h]

@[simp] theorem bounded_sequencerField (h : bounded s) : bounded (sequencerField s) := by
  simp only [sequencerField]
  (repeat' split) <;> simp [h]

@[simp] theorem bounded_sequencerLoaded (r : PageRef) (h : bounded s) : bounded (sequencerLoaded r s) := by
  simp only [sequencerLoaded]
  (repeat' split) <;> simp [h]

@[simp] theorem bounded_heldPageGone (p : PageRef) (h : bounded s) : bounded (heldPageGone p s) := by
  simp only [heldPageGone]
  (repeat' split) <;> simp [h]

@[simp] theorem bounded_waitPageGone (p : PageRef) (h : bounded s) : bounded (waitPageGone p s) := by
  simp only [waitPageGone]
  (repeat' split) <;> simp [h]

@[simp] theorem bounded_transPageGone (p : PageRef) (h : bounded s) : bounded (transPageGone p s) := by
  simp only [transPageGone]
  (repeat' split) <;> simp [h]

@[simp] theorem bounded_slideGone (p : PageRef) (h : bounded s) : bounded (slideGone p s) := by
  simp only [slideGone]
  (repeat' split) <;> simp [h]

@[simp] theorem bounded_sequencerPageChanged (p : PageRef) (h : bounded s) :
    bounded (sequencerPageChanged p s) := by
  simp only [sequencerPageChanged]
  (repeat' split) <;> simp [h]

@[simp] theorem bounded_startShow (o : Owner) (list : Fin 2) (index : Nat) (h : bounded s) :
    bounded (startShow o list index s) := by
  simp only [startShow]
  (repeat' split) <;> simp [h]

/-! ### Outcomes, activations and keys -/

@[simp] theorem bounded_pageFaultNotice (a : Acting) (code : Half) (detail : Word) (h : bounded s) :
    bounded (pageFaultNotice a code detail s) := bounded_post _ _ _ _ _ _ _ h

@[simp] theorem bounded_setVariable (v : Fin 16) (w : Word) (h : bounded s) : bounded (setVariable v w s) := h

@[simp] theorem bounded_runOutcome (a : Acting) (x : Action) (h : bounded s) : bounded (runOutcome a x s) := by
  have hcall (r : PageRef) (t : State) (ht : bounded t) : bounded ((callPage a.page r s).getD t) := by
    cases hc : callPage a.page r s with
    | none => exact ht
    | some u => exact bounded_callPage h hc
  simp only [runOutcome]
  (repeat' split) <;> simp [h, hcall]

@[simp] theorem bounded_reportOutcome (a : Acting) (x : Action) (branch : Bool) (detail : Word) (h : bounded s) :
    bounded (reportOutcome a x branch detail s) := by
  simp only [reportOutcome]
  (repeat' split) <;> simp [h]

@[simp] theorem bounded_finishActivation (k : Fin 6) (i : Nat) (h : bounded s) :
    bounded (finishActivation k i s) := by
  simp only [finishActivation]
  (repeat' split) <;> simp [h]

@[simp] theorem bounded_completeActivation (k : Fin 6) (h : bounded s) :
    bounded (completeActivation k s) := by
  simp only [completeActivation]
  (repeat' split) <;> simp [h]

@[simp] theorem bounded_beginActivation (k : Fin 6) (i : Nat) (h : bounded s) :
    bounded (beginActivation k i s) := by
  simp only [beginActivation]
  (repeat' split) <;> simp [h]

@[simp] theorem bounded_setTimer (k : Fin 6) (timer : Half) (mark : Bool) :
    bounded (setTimer k timer mark s) ↔ bounded s := by
  simp [setTimer]

@[simp] theorem bounded_countHold (k : Fin 6) (h : bounded s) : bounded (countHold s k) := by
  simp only [countHold]
  (repeat' split) <;> simp [h]

@[simp] theorem bounded_expireTimeout (k : Fin 6) (h : bounded s) : bounded (expireTimeout k s) := by
  simp only [expireTimeout]
  (repeat' split) <;> simp [h]

@[simp] theorem bounded_countTimeout (k : Fin 6) (h : bounded s) : bounded (countTimeout s k) := by
  simp only [countTimeout]
  (repeat' split) <;> simp [h]

@[simp] theorem bounded_timeoutsField (h : bounded s) : bounded (timeoutsField s) := by
  simp only [timeoutsField]
  (repeat' split) <;> simp [h]

@[simp] theorem bounded_reloadTimeout (k : Fin 6) : bounded (reloadTimeout k s) ↔ bounded s := by
  simp [reloadTimeout]

@[simp] theorem bounded_keyUnused (focus : Option PageRef) (k : Key) (reason : Word) (h : bounded s) :
    bounded (keyUnused focus k reason s) := bounded_post _ _ _ _ _ _ _ h

theorem bounded_slideKey (focus : Option PageRef) (allowed : Bool) (k : Key) {act : State → State}
    (hact : bounded (act s)) (h : bounded s) : bounded (slideKey focus allowed k act s) := by
  unfold slideKey
  split <;> simp [h, hact]

@[simp] theorem bounded_keyNoFocus (k : Key) (h : bounded s) : bounded (keyNoFocus k s) := by
  simp only [keyNoFocus]
  (repeat' split) <;> simp [h, bounded_slideKey]

@[simp] theorem bounded_moveSelection (k : Fin 6) (d : PageDef) (dir : Direction) (h : bounded s) :
    bounded (moveSelection k d dir s) := by
  simp only [moveSelection]
  (repeat' split) <;> simp [h]

@[simp] theorem bounded_enterKey (r : PageRef) (k : Fin 6) (h : bounded s) : bounded (enterKey r k s) := by
  simp only [enterKey]
  (repeat' split) <;> simp [h]

@[simp] theorem bounded_backKey (r : PageRef) (d : PageDef) (h : bounded s) : bounded (backKey r d s) := by
  simp only [backKey]
  (repeat' split) <;> simp [h]

@[simp] theorem bounded_keyOnPage (r : PageRef) (k : Fin 6) (d : PageDef) (key : Key) (h : bounded s) :
    bounded (keyOnPage r k d key s) := by
  simp only [keyOnPage]
  (repeat' split) <;> simp [h, bounded_slideKey]

@[simp] theorem bounded_deliverKey (key : Key) (h : bounded s) : bounded (deliverKey key s) := by
  simp only [deliverKey]
  (repeat' split) <;> simp [h]

theorem bounded_deliverUpTo (n : Nat) : ∀ {s : State}, bounded s → bounded (deliverUpTo n s) := by
  induction n with
  | zero => exact id
  | succ n ih =>
    intro s h
    unfold deliverUpTo
    split
    · exact h
    rename_i hkeys
    split
    · exact ih (bounded_deliverKey _ (bounded_setNav (by rw [hkeys]; exact Nat.le_succ _) h))
    · exact h

@[simp] theorem bounded_deliverKeys (h : bounded s) : bounded (deliverKeys s) := bounded_deliverUpTo _ h

@[simp] theorem bounded_navigationField (h : bounded s) : bounded (navigationField s) :=
  bounded_deliverKeys (bounded_timeoutsField (bounded_foldl _ (fun _ k ht => bounded_countHold k ht) _ h))

/-! ### Load done and save done -/

@[simp] theorem bounded_makeHeldEnable (k : Fin 6) (held : List (Byte × Bool)) (i : Nat) (h : bounded s) :
    bounded (makeHeldEnable k held s i) := by
  simp only [makeHeldEnable]
  (repeat' split) <;> simp [h]

@[simp] theorem bounded_makeHeldEnables (k : Fin 6) (held : List (Byte × Bool)) (h : bounded s) :
    bounded (makeHeldEnables k held s) :=
  bounded_foldl _ (fun _ i ht => bounded_makeHeldEnable k held i ht) _ h

@[simp] theorem bounded_makeReturnSel (k : Fin 6) (r : PageRef) (h : bounded s) : bounded (makeReturnSel k r s) := by
  simp only [makeReturnSel]
  (repeat' split) <;> simp [h]

@[simp] theorem bounded_makeHeldSelect (k : Fin 6) (held : Option Byte) :
    bounded (makeHeldSelect k held s) ↔ bounded s := by
  simp only [makeHeldSelect]
  (repeat' split) <;> simp

@[simp] theorem bounded_loadDoneChanges (k : Fin 6) (r : PageRef) (asked : Bool) (h : bounded s) :
    bounded (loadDoneChanges k r asked s) := by
  unfold loadDoneChanges
  split
  · exact (bounded_makeHeldSelect ..).2 (bounded_makeReturnSel k r (bounded_makeHeldEnables k _ (bounded_dropHeld h)))
  · exact bounded_makeReturnSel k r h

@[simp] theorem bounded_placeLoaded (k : Fin 6) (r : PageRef) : bounded (placeLoaded k r s) ↔ bounded s := Iff.rfl

theorem bounded_finishLoad (k : Fin 6) (r : PageRef) (h : bounded s) : bounded (finishLoad k r s) := by
  have hchanged := bounded_loadDoneChanges k r (s.exch.ctrlReq == some r) ((bounded_placeLoaded k r).2 h)
  have hshown := bounded_raiseRecompose.2 (bounded_stackLoaded r hchanged)
  exact bounded_deliverKeys (bounded_takeUp.2 (bounded_sequencerLoaded r hshown))

theorem bounded_completeLoad (k : Fin 6) (h : bounded s) : bounded (completeLoad k s) := by
  unfold completeLoad
  dsimp only
  (repeat' split) <;> simp [h, bounded_finishLoad]

theorem bounded_completeSave (h : bounded s) : bounded (completeSave s) := by
  unfold completeSave
  dsimp only
  (repeat' split) <;> simp [h]

end Bounded

end Sys2Proof.Machine

namespace Sys2Proof.Machine

open Sys2Proof

/-! ## The queues and stacks stay within their sizes: the commands of the interactive blocks -/

section BoundedCommands

variable {s : State}

theorem bounded_onPage (owner page : Byte) (act : PageRef → State → Answer)
    (hact : ∀ r, bounded (act r s).state) (h : bounded s) : bounded (onPage owner page act s).state := by
  unfold onPage
  split
  · exact h
  · exact hact _

theorem bounded_onMenuPage (r : PageRef) (act : State → Answer) (hact : bounded (act s).state)
    (h : bounded s) : bounded (onMenuPage r act s).state := by
  unfold onMenuPage
  split
  · exact h
  split
  · exact h
  · exact hact

theorem bounded_holdChange (r : PageRef) {change : Navigation → Navigation}
    (hchange : ∀ n, (change n).keys.length ≤ n.keys.length) (h : bounded s) :
    bounded (holdChange r change s).state := by
  unfold holdChange
  split
  · split
    · exact bounded_setNav (hchange _) h
    · exact h
  · exact bounded_takeUp.2 ((bounded_setExch _).2 (bounded_setNav (hchange _) h))

theorem bounded_shownOr {t : Option State} (ht : ∀ u, t = some u → bounded u) (h : bounded s) :
    bounded (shownOr t s).state := by
  cases t with
  | none => exact h
  | some u => exact bounded_deliverKeys (ht u rfl)

/-- A key joins the queue only where it holds fewer than eight (R83). -/
theorem bounded_doKey (kind : Byte) (h : bounded s) : bounded (doKey kind s).state := by
  unfold doKey
  split
  · exact h
  split
  · exact h
  · rename_i hroom
    obtain ⟨hnotices, -, hstack⟩ := h
    refine bounded_deliverKeys ⟨hnotices, ?_, hstack⟩
    rw [State.setNav_nav, List.length_append, List.length_singleton]
    omega

theorem bounded_doShow (owner page mode : Byte) (h : bounded s) :
    bounded (doShow owner page mode s).state := by
  unfold doShow
  split
  · exact h
  · refine bounded_onPage owner page _ (fun r => bounded_onMenuPage r _
      (bounded_shownOr (fun u hu => ?_) h) h) h
    split at hu
    · exact bounded_showEntry h hu
    · exact bounded_showCalling h hu

theorem bounded_doHide (owner page : Byte) (h : bounded s) : bounded (doHide owner page s).state :=
  bounded_onPage owner page _ (fun r => bounded_onMenuPage r _
    (bounded_deliverKeys (bounded_startLeaving r h)) h) h

theorem bounded_doHideBand (owner : Byte) (h : bounded s) : bounded (doHideBand owner s).state := by
  unfold doHideBand
  split
  · exact h
  · exact bounded_deliverKeys (bounded_hideBandEntries _ h)

theorem bounded_doSelect (owner page button : Byte) (h : bounded s) :
    bounded (doSelect owner page button s).state := by
  refine bounded_onPage owner page _ (fun r => bounded_onMenuPage r _ ?_ h) h
  split
  · exact h
  split
  · exact bounded_deliverKeys ((bounded_selectButton ..).2 h)
  · exact bounded_holdChange _ (fun _ => Nat.le_refl _) h

theorem bounded_doSetButton (owner page button enable : Byte) (h : bounded s) :
    bounded (doSetButton owner page button enable s).state := by
  refine bounded_onPage owner page _ (fun r => bounded_onMenuPage r _ ?_ h) h
  split
  · exact h
  split
  · split
    · exact h
    · exact bounded_deliverKeys ((bounded_changeEnable ..).2 h)
  · exact bounded_holdChange _ (fun _ => Nat.le_refl _) h

theorem bounded_doSetTimeout (owner page : Byte) (value : Half) (restart : Byte) (h : bounded s) :
    bounded (doSetTimeout owner page value restart s).state := by
  refine bounded_onPage owner page _ (fun r => bounded_onMenuPage r _ ?_ h) h
  split <;> exact h

theorem bounded_doReadPage (owner page : Byte) (h : bounded s) : bounded (doReadPage owner page s).state := by
  refine bounded_onPage owner page _ (fun r => ?_) h
  split
  · exact h
  · split <;> exact h

theorem bounded_doSetVar (num : Byte) (value : Word) (h : bounded s) :
    bounded (doSetVar num value s).state := by
  unfold doSetVar
  split
  · exact h
  · exact bounded_setVariable _ _ h

theorem bounded_doGetVar (num : Byte) (h : bounded s) : bounded (doGetVar num s).state := by
  unfold doGetVar
  split <;> exact h

theorem bounded_doSlideStart (owner list index : Byte) (h : bounded s) :
    bounded (doSlideStart owner list index s).state := by
  unfold doSlideStart
  (repeat' split)
  case isFalse => exact bounded_startShow _ _ _ h
  all_goals exact h

theorem bounded_doSlideStop (h : bounded s) : bounded (doSlideStop s).state := by
  unfold doSlideStop done
  dsimp only
  split
  · exact h
  · exact bounded_stopShow _ h

theorem bounded_doSlidePause (h : bounded s) : bounded (doSlidePause s).state := by
  unfold doSlidePause
  split
  · exact bounded_pauseShow.2 h
  · exact h

theorem bounded_doSlideResume (h : bounded s) : bounded (doSlideResume s).state := by
  unfold doSlideResume
  split
  · exact bounded_resumeShow.2 h
  · exact h

theorem bounded_doSlideStep (step : Byte) (h : bounded s) : bounded (doSlideStep step s).state := by
  unfold doSlideStep
  split
  · exact h
  split
  · exact h
  · exact bounded_stepShow _ h

theorem bounded_doSetHold (value : Half) (restart : Byte) (h : bounded s) :
    bounded (doSetHold value restart s).state := by
  unfold doSetHold
  split <;> exact h

end BoundedCommands

end Sys2Proof.Machine

namespace Sys2Proof.Machine

open Sys2Proof

/-! ## What a segment, a cue and a pass leave: the queue of commands, the field start in progress, the ports

Every sub-block leaves the commands that wait, the record of the blocks that have still to act, RESET_N, the Stream
Port, the relay buffer and the configuration as they are, and keeps the sizes of the queues and stacks; only the
ports, the resets and FIELD_START do otherwise. -/

/-- The commands that wait, the blocks that have still to act, RESET_N, the Stream Port, the relay buffer, and whether
the part is CONFIGURED. -/
def standing (s : State) : List Instr × List FieldBlock × Bool × StreamPort × Relay × Bool :=
  (s.pending, s.due, s.resetLow, s.stream, s.relay, s.link.configured)

/-- From one state to another what stands is the same and the sizes stay within bounds. -/
def Steady (s t : State) : Prop := standing t = standing s ∧ (bounded s → bounded t)

theorem Steady.refl (s : State) : Steady s s := ⟨rfl, id⟩

theorem Steady.trans {s t u : State} (h : Steady s t) (k : Steady t u) : Steady s u :=
  ⟨k.1.trans h.1, fun hb => k.2 (h.2 hb)⟩

theorem standing_of_still {s t : State} (h : still t = still s) : standing t = standing s := by
  have h' : standing (still t) = standing (still s) := congrArg standing h
  exact h'

/-- The interactive blocks are steady: `still` says what they leave, and they keep the sizes. -/
theorem Steady.interactive {s t u : State} (h : Steady s t) (hstill : still u = still t) (hb : bounded t → bounded u) :
    Steady s u := h.trans ⟨standing_of_still hstill, hb⟩

theorem steady_foldl {α : Type} {s : State} (f : State → α → State) (hf : ∀ t a, Steady s t → Steady s (f t a))
    (l : List α) : ∀ {t : State}, Steady s t → Steady s (l.foldl f t) := by
  induction l with
  | nil => exact id
  | cons a l ih => exact fun h => ih (hf _ a h)

section Steadiness

variable {s t : State}

/-! ### Single updates -/

@[simp] theorem steady_setMem (v : Memory) : Steady s (t.setMem v) ↔ Steady s t := Iff.rfl
@[simp] theorem steady_setRecv (v : Receiver) : Steady s (t.setRecv v) ↔ Steady s t := Iff.rfl
@[simp] theorem steady_setObjs (v : ObjectStore) : Steady s (t.setObjs v) ↔ Steady s t := Iff.rfl
@[simp] theorem steady_setPals (v : Vector Palette 16) : Steady s (t.setPals v) ↔ Steady s t := Iff.rfl
@[simp] theorem steady_setPages (v : Vector PageEntry 64) : Steady s (t.setPages v) ↔ Steady s t := Iff.rfl
@[simp] theorem steady_setSeqr (v : Sequencer) : Steady s (t.setSeqr v) ↔ Steady s t := Iff.rfl
@[simp] theorem steady_setCues (v : CueUnit) : Steady s (t.setCues v) ↔ Steady s t := Iff.rfl
@[simp] theorem steady_setComp (v : Composer) : Steady s (t.setComp v) ↔ Steady s t := Iff.rfl
@[simp] theorem steady_setObjEntry (i : Fin 512) (e : ObjEntry) : Steady s (setObjEntry i e t) ↔ Steady s t := Iff.rfl
@[simp] theorem steady_setPageEntry (r : PageRef) (e : PageEntry) : Steady s (setPageEntry r e t) ↔ Steady s t :=
  Iff.rfl
@[simp] theorem steady_setCueSlot (i : Fin 16) (v : CueSlot) : Steady s (setCueSlot i v t) ↔ Steady s t := Iff.rfl
@[simp] theorem steady_setLane (l : LaneState) : Steady s (setLane l t) ↔ Steady s t := Iff.rfl
@[simp] theorem steady_raiseRecompose : Steady s (raiseRecompose t) ↔ Steady s t := Iff.rfl
@[simp] theorem steady_setHeapFull : Steady s (setHeapFull t) ↔ Steady s t := Iff.rfl

/-- The link may change in all but its configuration, and lose notices. -/
theorem steady_setLink {v : Link} (hconf : v.configured = t.link.configured)
    (hnotices : v.notices.length ≤ t.link.notices.length) (h : Steady s t) : Steady s (t.setLink v) := by
  refine h.trans ⟨?_, fun hb => ⟨hnotices.trans hb.1, hb.2⟩⟩
  unfold standing
  rw [State.setLink_link, hconf]
  rfl

@[simp] theorem steady_post (kind : NoticeKind) (owner : Option Owner) (page : Option (Fin 32)) (index code : Half)
    (detail : Word) (flag : Bool) (h : Steady s t) : Steady s (post kind owner page index code detail flag t) :=
  h.interactive (still_post ..) (bounded_post _ _ _ _ _ _ _)

@[simp] theorem steady_segmentFault (lane : Owner) (kind code : Byte) (id : Half) (detail : Nat) (h : Steady s t) :
    Steady s (segmentFault lane kind code id detail t) := steady_post _ _ _ _ _ _ _ h

@[simp] theorem steady_objectFault (i : Fin 512) (code : Half) (detail : Nat) (h : Steady s t) :
    Steady s (objectFault i code detail t) := steady_post _ _ _ _ _ _ _ h

@[simp] theorem steady_deliverKeys (h : Steady s t) : Steady s (deliverKeys t) :=
  h.interactive (still_deliverKeys t) bounded_deliverKeys

/-! ### Objects (R9 to R21) -/

@[simp] theorem steady_releaseRegion (r : Region) : Steady s (releaseRegion r t) ↔ Steady s t := by
  rw [releaseRegion_eq, steady_setObjs]

@[simp] theorem steady_releaseOpt (r : Option Region) : Steady s (releaseOpt r t) ↔ Steady s t := by
  rw [releaseOpt_eq, steady_setObjs]

@[simp] theorem steady_feedByte (i : Fin 512) (b : Byte) (h : Steady s t) : Steady s (feedByte i b t) := by
  unfold feedByte
  dsimp only
  (repeat' split) <;> simp [h]

@[simp] theorem steady_feedBytes (i : Fin 512) (bs : List Byte) (h : Steady s t) : Steady s (feedBytes i bs t) :=
  steady_foldl _ (fun _ b hu => steady_feedByte i b hu) bs h

@[simp] theorem steady_abandonDecode (i : Fin 512) (h : Steady s t) : Steady s (abandonDecode i t) := by
  unfold abandonDecode
  dsimp only
  split <;> simp [h]

@[simp] theorem steady_completeObject (i : Fin 512) (h : Steady s t) : Steady s (completeObject i t) := by
  unfold completeObject
  dsimp only
  split
  · exact h
  · rw [steady_raiseRecompose]
    (repeat' split) <;> simp [h]

@[simp] theorem steady_firstPart (i : Fin 512) (p : PartHead) (h : Steady s t) : Steady s (firstPart i p t).1 := by
  unfold firstPart
  extract_lets e0 t1
  have ht1 : Steady s t1 := by
    unfold t1
    split <;> simp [h]
  split <;> simp [ht1]

@[simp] theorem steady_laterPart (i : Fin 512) (p : PartHead) (h : Steady s t) : Steady s (laterPart i p t).1 := by
  unfold laterPart
  dsimp only
  (repeat' split) <;> simp [h]

@[simp] theorem steady_beginPart (lane : Owner) (p : PartHead) (h : Steady s t) : Steady s (beginPart lane p t).1 := by
  unfold beginPart
  dsimp only
  (repeat' split) <;> simp [h]

@[simp] theorem steady_takePart (lane : Owner) (p : List Byte) (h : Steady s t) : Steady s (takePart lane p t) := by
  have hbegin := steady_beginPart lane (parsePart p) h
  unfold takePart
  dsimp only
  split
  · simp [h]
  split
  case h_1 ht1 => rwa [ht1] at hbegin
  case h_2 ht1 =>
    rw [ht1] at hbegin
    split <;> simp [hbegin]

@[simp] theorem steady_overrunPart (i : Fin 512) (h : Steady s t) : Steady s (overrunPart i t) := by
  unfold overrunPart
  dsimp only
  split <;> simp [h]

@[simp] theorem steady_deleteObject (i : Fin 512) (h : Steady s t) : Steady s (deleteObject i t) := by
  unfold deleteObject
  dsimp only
  split <;> simp [h]

@[simp] theorem steady_eraseObjects (o : Owner) (h : Steady s t) : Steady s (eraseObjects o t) := by
  have hreleased := steady_foldl (fun u r => releaseRegion r u) (fun _ r hu => (steady_releaseRegion r).2 hu)
    ((ownerEntries o t).flatMap entryRegions) h
  unfold eraseObjects
  dsimp only
  split <;> simp [hreleased]

/-! ### Passes and palettes (R24 to R26, R147 to R153) -/

@[simp] theorem steady_beforeLiveChange : Steady s (beforeLiveChange t) ↔ Steady s t := by
  unfold beforeLiveChange
  split
  · rw [drawAhead_eq]; exact Iff.rfl
  · exact Iff.rfl

theorem steady_startPassIfNeeded (h : Steady s t) : Steady s (startPassIfNeeded t) := by
  unfold startPassIfNeeded
  (repeat' split) <;> exact h

theorem steady_composerField (h : Steady s t) : Steady s (composerField t) := by
  unfold composerField
  split
  · exact steady_startPassIfNeeded (t := swapPlanes t) h
  · exact steady_startPassIfNeeded h
  · exact h

theorem steady_completePass (h : Steady s t) : Steady s (completePass t) := by
  unfold completePass
  split
  · rw [drawToEnd_eq]; exact h
  · exact h

theorem steady_composerSetup (f : PlaneFormat) (h : Steady s t) : Steady s (composerSetup f t) := by
  unfold composerSetup
  dsimp only
  split <;> exact h

theorem steady_takePalette (lane : Owner) (p : List Byte) (h : Steady s t) : Steady s (takePalette lane p t) := by
  unfold takePalette
  split <;> simp [h]

@[simp] theorem steady_deletePalette (i : Fin 16) : Steady s (deletePalette i t) ↔ Steady s t := by
  simp [deletePalette]

@[simp] theorem steady_erasePalettes (o : Owner) : Steady s (erasePalettes o t) ↔ Steady s t := by
  simp [erasePalettes]

/-! ### Pages and slide lists (R39 to R42, R113) -/

theorem bounded_autoShowPage (r : PageRef) (h : bounded t) : bounded (autoShowPage r t) := by
  unfold autoShowPage
  cases hshow : showEntry r t with
  | none => exact bounded_post _ _ _ _ _ _ _ h
  | some u => exact bounded_showEntry h hshow

theorem bounded_stackRedefined (r : PageRef) (former : PageKind) (h : bounded t) :
    bounded (stackRedefined r former t) := by
  unfold stackRedefined
  split <;> simp [h]

theorem steady_definePage (r : PageRef) (p : List Byte) (h : Steady s t) : Steady s (definePage r p t) := by
  unfold definePage writeImage
  extract_lets d e t1
  have h1 : Steady s t1 := h
  split
  · exact h1.interactive (still_autoShowPage ..) (bounded_autoShowPage r)
  · exact h1

theorem steady_redefinePage (r : PageRef) (p : List Byte) (h : Steady s t) : Steady s (redefinePage r p t) := by
  unfold redefinePage
  extract_lets d former t1 t2 t3 t4
  have h1 : Steady s t1 := h
  have h2 : Steady s t2 := (h1.interactive (still_exchangeRedefined ..) (bounded_exchangeRedefined r)).interactive
    (still_dropReturnSel ..) (bounded_dropReturnSel _)
  have h3 : Steady s t3 := h2.interactive (still_stackRedefined ..) (bounded_stackRedefined r former)
  refine .interactive ?_ (still_sequencerPageChanged ..) (bounded_sequencerPageChanged r)
  unfold t4
  split
  · exact h3.interactive (still_autoShowPage ..) (bounded_autoShowPage r)
  · exact h3

theorem steady_takePage (lane : Owner) (p : List Byte) (h : Steady s t) : Steady s (takePage lane p t) := by
  unfold takePage
  split
  · exact steady_segmentFault _ _ _ _ _ h
  · refine steady_deliverKeys ?_
    split
    · exact steady_redefinePage _ p h
    · exact steady_definePage _ p h

theorem steady_deletePage (r : PageRef) (h : Steady s t) : Steady s (deletePage r t) := by
  unfold deletePage
  split
  · have hdrop := ((steady_setPageEntry r { pageEntry r t with defined := false, saved := false, len := 0 }).2
      h).interactive (still_exchangeDrop ..) (bounded_exchangeDrop (fun x => x == r))
    have hfree := (hdrop.interactive (still_dropReturnSel ..) (bounded_dropReturnSel (fun x => x == r))).interactive
      (still_takeUp _) bounded_takeUp.2
    exact steady_deliverKeys ((((steady_setPageEntry r _).2 hfree).interactive (still_removeEntry ..)
      (bounded_removeEntry r (some hiddenRemoved))).interactive
      (still_sequencerPageChanged ..) (bounded_sequencerPageChanged r))
  · exact h

theorem steady_changeList (o : Owner) (i : Fin 2) (l : Option SlideList) (h : Steady s t) :
    Steady s (changeList o i l t) := by
  unfold changeList updateSeq
  dsimp only
  rw [steady_setSeqr]
  split
  · exact h.interactive (still_stopShow ..) (bounded_stopShow _)
  · exact h

theorem steady_takeDelete (lane : Owner) (p : List Byte) (h : Steady s t) : Steady s (takeDelete lane p t) := by
  unfold takeDelete
  split
  · exact steady_segmentFault _ _ _ _ _ h
  unfold deleteItem
  split
  · split
    · exact h
    · exact steady_deleteObject _ h
  split
  · exact (steady_deletePalette _).2 h
  split
  · exact steady_deletePage _ h
  split
  · unfold deleteList
    split
    · exact h
    · exact steady_changeList _ _ _ h
  split
  · unfold deleteCue
    split <;> exact h
  · exact h

/-! ### Owner erase (R42, R173, R186) -/

theorem steady_eraseSlides (o : Owner) (h : Steady s t) : Steady s (eraseSlides o t) := by
  unfold eraseSlides updateSeq
  dsimp only
  rw [steady_setSeqr]
  split
  · exact h.interactive (still_stopShow ..) (bounded_stopShow _)
  · exact h

theorem steady_eraseOwner (o : Owner) (h : Steady s t) : Steady s (eraseOwner o t) := by
  have hstores : Steady s (erasePalettes o (eraseObjects o t)) := (steady_erasePalettes o).2 (steady_eraseObjects o h)
  have hdrop := (hstores.interactive (still_exchangeDrop ..) (bounded_exchangeDrop (fun r => r.owner == o))).interactive
    (still_dropReturnSel ..) (bounded_dropReturnSel (fun r => r.owner == o))
  have hdirectory := (steady_setPages (mapWhere (ownsPage o) (fun _ => pageEntryReset)
    (dropReturnSel (fun r => r.owner == o) (exchangeDrop (fun r => r.owner == o)
      (erasePalettes o (eraseObjects o t)))).pages)).2 hdrop
  have hslides := steady_eraseSlides o (hdirectory.interactive (still_eraseStack ..) (bounded_eraseStack o))
  have hpages := (hslides.interactive (still_takeUp _) bounded_takeUp.2).interactive (still_handOn _) bounded_handOn.2
  exact steady_deliverKeys ((steady_setCues _).2 hpages)

/-! ### Segments (R167, R168, R171) -/

theorem steady_handSegment (lane : Owner) (kind : Byte) (p : List Byte) (h : Steady s t) :
    Steady s (handSegment lane kind p t) := by
  unfold handSegment
  split
  · unfold takeEdition
    split
    · exact steady_segmentFault _ _ _ _ _ h
    · exact steady_eraseOwner .disc (t := t.setRecv _) h
  split
  · unfold takeTime
    split <;> simp [h]
  split
  · exact steady_takePalette lane p h
  split
  · exact steady_takePart lane p h
  split
  · exact steady_takePage lane p h
  split
  · unfold takeSlideList
    split
    · exact steady_segmentFault _ _ _ _ _ h
    · exact steady_changeList _ _ _ h
  split
  · unfold takeCue
    split <;> simp [h]
  split
  · exact steady_takeDelete lane p h
  · exact h

theorem steady_wholeSegment (lane : Owner) (kind : Byte) (p : List Byte) (h : Steady s t) :
    Steady s (wholeSegment lane kind p t) := by
  unfold wholeSegment
  split
  · exact steady_segmentFault _ _ _ _ _ h
  · exact steady_handSegment lane kind p h

theorem steady_inPayload (kind : Byte) (len left : Nat) (got : List Byte) (part : Option PartInFlight)
    (h : Steady s t) : Steady s (inPayload kind len left got part t) := by
  unfold inPayload
  split
  · refine (steady_setLane _).2 ?_
    (repeat' split)
    · exact steady_completeObject _ h
    · exact h
    · exact h
    · exact steady_handSegment .disc kind got h
  · exact h

@[simp] theorem steady_inSkip (kind : Byte) (len left : Nat) (badKind : Bool) (h : Steady s t) :
    Steady s (inSkip kind len left badKind t) := by
  unfold inSkip endSkip receiverFault
  (repeat' split) <;> simp [h]

theorem steady_serveDisc (got : List Byte) (h : Steady s t) : Steady s (serveDisc got t) := by
  unfold serveDisc receiverFault
  dsimp only
  split
  · exact steady_inPayload _ _ _ _ _ ((steady_setRecv _).2 h)
  · split <;> simp [h]

theorem steady_objectByte (len left : Nat) (got : List Byte) (part : Option PartInFlight) (b : Byte)
    (h : Steady s t) : Steady s (objectByte len left got part b t) := by
  unfold objectByte receiverFault
  split
  · exact steady_inPayload _ _ _ _ _ (steady_feedByte _ b h)
  dsimp only
  split
  · simp [h]
  split
  · have hbegin := steady_beginPart .disc (parsePart (got ++ [b])) h
    split
    case h_1 ht1 => rw [ht1] at hbegin; exact steady_inSkip _ _ _ _ hbegin
    case h_2 ht1 => rw [ht1] at hbegin; exact steady_inPayload _ _ _ _ _ hbegin
  · exact steady_inPayload _ _ _ _ _ h

theorem steady_laneByte (b : Byte) (h : Steady s t) : Steady s (laneByte b t) := by
  unfold laneByte
  split
  · exact h
  · exact h
  · unfold payloadByte
    split
    · exact steady_objectByte _ _ _ _ _ h
    · exact steady_inPayload _ _ _ _ _ h
  · exact steady_inSkip _ _ _ _ h

theorem steady_abandonLane (h : Steady s t) : Steady s (abandonLane t) := by
  unfold abandonLane
  dsimp only
  rw [steady_setLane]
  split <;> simp [h]

/-! ### Cues (R130, R136 to R142) -/

theorem bounded_runCueAction {i : Fin 16} {a : Action} (h : bounded s) (ht : runCueAction i a s = .done t) :
    bounded t := by
  unfold runCueAction at ht
  dsimp only at ht
  split at ht
  case h_1 =>
    unfold cueShow at ht
    (repeat' split at ht) <;> cases ht
    case refl hshow => exact bounded_showEntry h hshow
  case h_2 =>
    unfold cueHide at ht
    split at ht <;> cases ht
    exact bounded_startLeaving _ h
  case h_3 =>
    unfold cueSelect at ht
    (repeat' split at ht) <;> cases ht
    exact (bounded_selectButton ..).2 h
  case h_4 =>
    split at ht <;> cases ht
    exact bounded_setVariable _ _ h
  case h_5 =>
    split at ht <;> cases ht
    exact bounded_slideOperation _ h
  all_goals cases ht; exact h

theorem steady_reportCue (i : Fin 16) (a : Action) (detail : Word) (h : Steady s t) :
    Steady s (reportCue i a detail t) := by
  unfold reportCue cueNotice
  split <;> simp [h]

theorem steady_fireCue (i : Fin 16) (c : CueRecord) (h : Steady s t) : Steady s (fireCue i c t) := by
  unfold fireCue
  refine (steady_setCueSlot ..).2 ?_
  split
  case h_1 hdone =>
    exact steady_reportCue _ _ _ (h.interactive (still_runCueAction hdone) fun hb => bounded_runCueAction hb hdone)
  case h_2 => exact steady_reportCue _ _ _ (steady_post _ _ _ _ _ _ _ h)

theorem steady_evaluateCue (i : Fin 16) (h : Steady s t) : Steady s (evaluateCue t i) := by
  unfold evaluateCue
  dsimp only
  (repeat' split) <;> simp [h, steady_fireCue]

theorem steady_cueField (h : Steady s t) : Steady s (cueField t) := by
  have htime : Steady s (advanceTime t) := by
    unfold advanceTime
    split <;> exact h
  unfold cueField
  dsimp only
  split
  · exact steady_deliverKeys (steady_foldl _ (fun _ i hu => steady_evaluateCue i hu) _ htime)
  · exact htime

/-- What a block does at a field start is steady. -/
theorem steady_runBlock (b : FieldBlock) (h : Steady s t) : Steady s (runBlock b t) := by
  cases b with
  | pageStack => exact steady_deliverKeys (h.interactive (still_stackField t) bounded_stackField)
  | navigation => exact h.interactive (still_navigationField t) bounded_navigationField
  | sequencer => exact h.interactive (still_sequencerField t) bounded_sequencerField
  | cues => exact steady_cueField h
  | composer => exact steady_composerField h

end Steadiness

end Sys2Proof.Machine

namespace Sys2Proof.Machine

open Sys2Proof

/-! ## What a row of the table leaves: commands, lanes, frames (R164 to R186) -/

theorem sizesSound_iff (s : State) : sizesSound s = true ↔
    bounded s ∧ s.stream.fifo.length ≤ 4096 ∧ relaySound s.relay = true := by
  simp only [sizesSound, bounded, Bool.and_eq_true, decide_eq_true_eq]
  tauto

/-- HOLD and the FIFO together, by whether the part is CONFIGURED (R164). -/
theorem holdSound_iff (s : State) : holdSound s = true ↔ if s.link.configured = true then
    (3072 ≤ s.stream.fifo.length → s.stream.hold = true) ∧ (s.stream.fifo.length ≤ 1024 → s.stream.hold = false)
    else s.stream.fifo = [] ∧ s.stream.hold = true := by
  unfold holdSound
  split
  · rw [Bool.and_eq_true]
    refine and_congr ?_ ?_
    · by_cases h : 3072 ≤ s.stream.fifo.length <;> simp [h]
    · by_cases h : s.stream.fifo.length ≤ 1024 <;> simp [h]
  · simp

/-- The sizes and the HOLD rule are kept. -/
def Sized (s t : State) : Prop :=
  (sizesSound s = true → sizesSound t = true) ∧ (holdSound s = true → holdSound t = true)

theorem Sized.trans {s t u : State} (h : Sized s t) (k : Sized t u) : Sized s u :=
  ⟨fun hs => k.1 (h.1 hs), fun hs => k.2 (h.2 hs)⟩

theorem Steady.sized {s t : State} (h : Steady s t) : Sized s t := by
  obtain ⟨hstanding, hbounded⟩ := h
  simp only [standing, Prod.mk.injEq] at hstanding
  obtain ⟨-, -, -, hstream, hrelay, hconf⟩ := hstanding
  refine ⟨fun hs => ?_, fun hs => ?_⟩
  · rw [sizesSound_iff] at hs ⊢
    rw [hstream, hrelay]
    exact ⟨hbounded hs.1, hs.2⟩
  · rw [holdSound_iff] at hs ⊢
    rwa [hstream, hconf]

/-- What every row does that is no row of a field start: the commands that wait stay, no block comes to be due, the
sizes and the HOLD rule are kept. -/
structure RowKeeps (s t : State) : Prop where
  pending : t.pending = s.pending
  due : s.due = [] → t.due = []
  sized : Sized s t

theorem Steady.row {s t : State} (h : Steady s t) : RowKeeps s t := by
  have hstanding := h.1
  simp only [standing, Prod.mk.injEq] at hstanding
  obtain ⟨hpending, hdue, -⟩ := hstanding
  exact ⟨hpending, fun hs => hdue.trans hs, h.sized⟩

theorem RowKeeps.refl (s : State) : RowKeeps s s := (Steady.refl s).row

theorem RowKeeps.trans {s t u : State} (h : RowKeeps s t) (k : RowKeeps t u) : RowKeeps s u :=
  ⟨k.pending.trans h.pending, fun hs => k.due (h.due hs), h.sized.trans k.sized⟩

section Rows

variable {s : State}

/-! ### The relay buffer and the FIFO (R164, R165, R169, R170) -/

theorem rowKeeps_setRelay {v : Relay} (hv : relaySound s.relay = true → relaySound v = true) :
    RowKeeps s (s.setRelay v) := by
  refine ⟨rfl, id, fun hs => ?_, id⟩
  rw [sizesSound_iff] at hs ⊢
  exact ⟨hs.1, hs.2.1, hv hs.2.2⟩

/-- The FIFO of a CONFIGURED part changes within its size and with its HOLD (R164). -/
theorem rowKeeps_setStream {v : StreamPort} (hconf : s.link.configured = true)
    (hlen : s.stream.fifo.length ≤ 4096 → v.fifo.length ≤ 4096)
    (hhold : (3072 ≤ s.stream.fifo.length → s.stream.hold = true) →
      (s.stream.fifo.length ≤ 1024 → s.stream.hold = false) →
      (3072 ≤ v.fifo.length → v.hold = true) ∧ (v.fifo.length ≤ 1024 → v.hold = false)) :
    RowKeeps s (s.setStream v) := by
  refine ⟨rfl, id, fun hs => ?_, fun hs => ?_⟩
  · rw [sizesSound_iff] at hs ⊢
    exact ⟨hs.1, hlen hs.2.1, hs.2.2⟩
  · rw [holdSound_iff, if_pos hconf] at hs
    rw [holdSound_iff]
    exact (if_pos (c := (s.setStream v).link.configured = true) hconf).mpr (hhold hs.1 hs.2)

theorem steady_withConditions (f : Conditions → Conditions) (s : State) : Steady s (withConditions f s) :=
  steady_setLink (by rfl) (by exact Nat.le_refl _) (.refl s)

theorem steady_setLinkOverrun (s : State) : Steady s (setLinkOverrun s) := steady_withConditions _ s

theorem relaySound_relayReset : relaySound relayReset = true := rfl

theorem rowKeeps_serveOne (s : State) : RowKeeps s (serveOne s) := by
  unfold serveOne
  split
  · exact .refl s
  split
  · exact (steady_serveDisc _ (.refl s)).row
  split
  · exact (steady_wholeSegment .player s.relay.kind s.relay.data
      ((steady_setRecv { s.recv with lastServed := .player }).2 (.refl s))).row.trans
      (rowKeeps_setRelay fun _ => relaySound_relayReset)
  · exact .refl s

theorem rowKeeps_serve (s : State) : RowKeeps s (serve s) := (rowKeeps_serveOne s).trans (rowKeeps_serveOne _)

/-- HOLD follows the count of the FIFO when its head is taken (R164). -/
theorem rowKeeps_takeByte {b : Byte} {rest : List Byte} (hfifo : s.stream.fifo = b :: rest) :
    RowKeeps s (s.setStream (takeByte rest s.stream)) := by
  by_cases hconf : s.link.configured = true
  · refine rowKeeps_setStream hconf (fun h => ?_) fun hon hoff => ⟨fun hlen => ?_, fun hlen => ?_⟩
    · rw [hfifo, List.length_cons] at h
      exact Nat.le_of_succ_le h
    · have hlen : 3072 ≤ rest.length := hlen
      have hnot : ¬ rest.length ≤ holdOffCount := by unfold holdOffCount; omega
      simp only [takeByte, hnot, decide_false, Bool.not_false, Bool.and_true]
      exact hon (by rw [hfifo, List.length_cons]; omega)
    · have hle : rest.length ≤ holdOffCount := hlen
      simp only [takeByte, hle, decide_true, Bool.not_true, Bool.and_false]
  · refine ⟨rfl, id, fun hs => ?_, fun hs => ?_⟩
    · rw [sizesSound_iff] at hs ⊢
      obtain ⟨hbounded, hlen, hrelay⟩ := hs
      rw [hfifo, List.length_cons] at hlen
      exact ⟨hbounded, Nat.le_of_succ_le hlen, hrelay⟩
    · rw [holdSound_iff, if_neg hconf, hfifo] at hs
      exact absurd hs.1 (List.cons_ne_nil b rest)

theorem rowKeeps_takeLaneByte (s : State) : RowKeeps s (takeLaneByte s) := by
  unfold takeLaneByte
  split
  · exact .refl s
  split
  · exact .refl s
  · rename_i hfifo
    exact (rowKeeps_takeByte hfifo).trans ((steady_laneByte _ (.refl _)).row.trans (rowKeeps_serve _))

theorem rowKeeps_presentByte (b : Byte) (s : State) : RowKeeps s (presentByte b s) := by
  unfold presentByte
  split
  · exact .refl s
  rename_i hconf
  have hconf : s.link.configured = true := by simpa using hconf
  split
  · rename_i hroom
    have hroom : s.stream.fifo.length < 4096 := hroom
    have hlen : (joinByte b s.stream).fifo.length = s.stream.fifo.length + 1 := by simp [joinByte]
    refine rowKeeps_setStream hconf (fun _ => by omega) fun hon hoff => ⟨fun h => ?_, fun h => ?_⟩
    · have hfull : holdOnCount ≤ (s.stream.fifo ++ [b]).length := h
      simp only [joinByte, hfull, decide_true, Bool.or_true]
    · have hless : ¬ holdOnCount ≤ (s.stream.fifo ++ [b]).length := by
        simp only [List.length_append, List.length_singleton, holdOnCount]
        omega
      have hhold := hoff (by omega)
      simp only [joinByte, hless, hhold, decide_false, Bool.or_false]
  · have hlost : RowKeeps (setStreamOverrun s) ((setStreamOverrun s).setStream ⟨[], false⟩) :=
      rowKeeps_setStream hconf (fun _ => Nat.zero_le _) fun _ _ => ⟨fun h => absurd h (by simp), fun _ => rfl⟩
    exact ((steady_withConditions _ s).row.trans hlost).trans
      ((steady_abandonLane (.refl _)).row.trans (rowKeeps_serve _))

/-- A buffer that is opened waits for its bytes, or is complete without any (R169). -/
theorem rowKeeps_openSegment (kind : Byte) {len : Half} (h : len.toNat ≤ 4096) (s : State) :
    RowKeeps s (openSegment kind len s) := by
  refine RowKeeps.trans (rowKeeps_setRelay fun _ => ?_) (rowKeeps_serve _)
  by_cases hlen : len = 0
  · subst hlen; rfl
  · have hpos : 0 < len.toNat := Nat.pos_of_ne_zero fun hz => hlen (BitVec.eq_of_toNat_eq hz)
    simp only [if_neg hlen, relaySound, h, decide_true, Bool.true_and, List.length_nil, decide_eq_true_eq]
    exact hpos

/-- Bytes are taken up to the stated length (R170). -/
theorem rowKeeps_appendSegment (bytes : List Byte) (s : State) (hfilling : s.relay.st = .filling) :
    RowKeeps s (appendSegment bytes s) := by
  unfold appendSegment
  extract_lets r data full
  refine RowKeeps.trans (rowKeeps_setRelay fun hs => ?_) (rowKeeps_serve _)
  simp only [relaySound, hfilling, Bool.and_eq_true, decide_eq_true_eq] at hs
  obtain ⟨hle, hless⟩ := hs
  have hdata : data.length = min (r.len.toNat) (r.data.length + bytes.length) := by
    simp only [data, List.length_append, List.length_take]
    have : r.data.length < r.len.toNat := hless
    omega
  have hle : r.len.toNat ≤ 4096 := hle
  by_cases hfull : r.len.toNat ≤ data.length
  · have hlen : data.length = r.len.toNat := by omega
    simp [relaySound, full, hle, hlen]
  · have hlen : data.length < r.len.toNat := by omega
    simp [relaySound, full, hle, hfull, hlen]

/-! ### Command frames (R175 to R186) -/

theorem steady_receiveFrame (bytes : List Byte) (s : State) : Steady s (receiveFrame bytes s) := by
  rw [receiveFrame_eq]
  exact steady_setLink (by rfl) (by exact Nat.le_refl _) (.refl s)

theorem steady_frameCrosses (bytes : List Byte) (s : State) : Steady s (frameCrosses bytes s) :=
  steady_setLink (by rfl) (by exact Nat.le_refl _) (steady_receiveFrame bytes s)

theorem steady_placeReply (cmd : Byte) (code : ReplyCode) (data : List Byte) (s : State) :
    Steady s (placeReply cmd code data s) := steady_setLink (by rfl) (by exact Nat.le_refl _) (.refl s)

theorem rowKeeps_commandFrame (cmd : Byte) (payload : List Byte) {body : State → State}
    (hbody : ∀ t, RowKeeps t (body t)) (s : State) : RowKeeps s (commandFrame cmd payload body s) := by
  unfold commandFrame
  split
  · exact .refl s
  · have hcrossed := (steady_frameCrosses (cmd :: BitVec.ofNat 8 payload.length :: payload) s).row
    dsimp only
    split
    · exact hcrossed.trans (steady_setLinkOverrun _).row
    split
    · exact hcrossed.trans (steady_placeReply ..).row
    · exact hcrossed.trans (hbody _)

theorem rowKeeps_command (cmd : Byte) (payload : List Byte) {act : State → Answer}
    (hact : ∀ t, RowKeeps t (act t).state) (s : State) : RowKeeps s (command cmd payload act s) :=
  rowKeeps_commandFrame cmd payload (fun t => (hact t).trans (steady_placeReply ..).row) s

/-- A command of the interactive blocks. -/
theorem rowKeeps_interactive (cmd : Byte) (payload : List Byte) {act : State → Answer}
    (hstill : ∀ t, still (act t).state = still t) (hbounded : ∀ t, bounded t → bounded (act t).state) (s : State) :
    RowKeeps s (command cmd payload act s) :=
  rowKeeps_command cmd payload (fun t => ((Steady.refl t).interactive (hstill t) (hbounded t)).row) s

theorem steady_doOutput (value : Byte) (s : State) : Steady s (doOutput value s).state := by
  have hset (v : Display) : Steady s (s.setDisp v) := .refl s
  unfold doOutput done refusedWith
  (repeat' split) <;> simp [hset, Steady.refl]

theorem steady_setRunning (on : Bool) (s : State) : Steady s (done (setRunning on s)).state := .refl s

theorem rowKeeps_doSegOpen (kind : Byte) (length : Half) (s : State) : RowKeeps s (doSegOpen kind length s).state := by
  unfold doSegOpen
  split
  · exact .refl s
  split
  · exact .refl s
  · rename_i hlen
    exact rowKeeps_openSegment kind (by omega) s

theorem rowKeeps_doSegData (bytes : List Byte) (s : State) : RowKeeps s (doSegData bytes s).state := by
  unfold doSegData
  split
  · exact .refl s
  · rename_i hfilling
    exact rowKeeps_appendSegment bytes s (by simpa using hfilling)

theorem rowKeeps_doErasePlayer (s : State) : RowKeeps s (doErasePlayer s).state := by
  simp only [doErasePlayer, done]
  exact (rowKeeps_setRelay fun _ => relaySound_relayReset).trans (steady_eraseOwner .player (.refl _)).row

/-- A reset empties every queue and stack (R184). -/
theorem rowKeeps_resetBlocks (s : State) : RowKeeps s (resetBlocks s) := ⟨rfl, fun _ => rfl, fun _ => rfl, fun _ => rfl⟩

/-- SETUP turns HOLD off on the empty FIFO of an UNCONFIGURED part, and leaves it on a CONFIGURED one (R164, R184). -/
theorem rowKeeps_setupBody (format : Byte) (ticks : Half) (s : State) : RowKeeps s (setupBody format ticks s) := by
  unfold setupBody
  split
  · exact (steady_placeReply ..).row
  split
  · exact (steady_placeReply ..).row
  rename_i f _ _
  extract_lets s1 c s2 s3
  have h3 : Steady s1 s3 := steady_composerSetup f (t := s2) (.refl s1)
  obtain ⟨hstanding, hbounded⟩ := h3
  simp only [standing, Prod.mk.injEq] at hstanding
  obtain ⟨hpending, hdue, -, hstream, hrelay, -⟩ := hstanding
  refine ⟨hpending, fun hs => hdue.trans hs, fun hs => ?_, fun hs => ?_⟩
  · rw [sizesSound_iff] at hs ⊢
    obtain ⟨hb, hlen, hr⟩ := hs
    refine ⟨hbounded hb, ?_, ?_⟩
    · rw [State.setLink_stream, hstream]
      unfold s1
      rw [State.setStream_stream]
      split <;> exact hlen
    · rw [State.setLink_relay, hrelay]
      exact hr
  · rw [holdSound_iff] at hs ⊢
    rw [State.setLink_stream, hstream]
    refine (if_pos rfl).mpr ?_
    unfold s1
    rw [State.setStream_stream]
    cases hconf : s.link.configured with
    | true => simpa [hconf] using hs
    | false => simp_all

/-- The command of a frame. -/
theorem rowKeeps_runCommand (i : Instr) (s : State) : RowKeeps s (runCommand i s) := by
  cases i
  case nop => exact rowKeeps_command _ _ (fun t => .refl t) s
  case clearConditions => exact rowKeeps_command _ _ (fun t => (steady_withConditions _ t).row) s
  case reset => exact rowKeeps_commandFrame _ _ (fun t => (rowKeeps_resetBlocks t).trans (steady_placeReply ..).row) s
  case setup => exact rowKeeps_commandFrame _ _ (rowKeeps_setupBody _ _) s
  case output => exact rowKeeps_command _ _ (fun t => (steady_doOutput _ t).row) s
  case key => exact rowKeeps_interactive _ _ (still_doKey _) (fun _ => bounded_doKey _) s
  case showPage => exact rowKeeps_interactive _ _ (still_doShow _ _ _) (fun _ => bounded_doShow _ _ _) s
  case hidePage => exact rowKeeps_interactive _ _ (still_doHide _ _) (fun _ => bounded_doHide _ _) s
  case hideBand => exact rowKeeps_interactive _ _ (still_doHideBand _) (fun _ => bounded_doHideBand _) s
  case select => exact rowKeeps_interactive _ _ (still_doSelect _ _ _) (fun _ => bounded_doSelect _ _ _) s
  case setButton =>
    exact rowKeeps_interactive _ _ (still_doSetButton _ _ _ _) (fun _ => bounded_doSetButton _ _ _ _) s
  case setTimeout =>
    exact rowKeeps_interactive _ _ (still_doSetTimeout _ _ _ _) (fun _ => bounded_doSetTimeout _ _ _ _) s
  case readPage => exact rowKeeps_interactive _ _ (still_doReadPage _ _) (fun _ => bounded_doReadPage _ _) s
  case setVar => exact rowKeeps_interactive _ _ (still_doSetVar _ _) (fun _ => bounded_doSetVar _ _) s
  case getVar => exact rowKeeps_interactive _ _ (still_doGetVar _) (fun _ => bounded_doGetVar _) s
  case timeRun => exact rowKeeps_command _ _ (fun t => (steady_setRunning true t).row) s
  case timeHold => exact rowKeeps_command _ _ (fun t => (steady_setRunning false t).row) s
  case slideStart => exact rowKeeps_interactive _ _ (still_doSlideStart _ _ _) (fun _ => bounded_doSlideStart _ _ _) s
  case slideStop => exact rowKeeps_interactive _ _ still_doSlideStop (fun _ => bounded_doSlideStop) s
  case slidePause => exact rowKeeps_interactive _ _ still_doSlidePause (fun _ => bounded_doSlidePause) s
  case slideResume => exact rowKeeps_interactive _ _ still_doSlideResume (fun _ => bounded_doSlideResume) s
  case slideStep => exact rowKeeps_interactive _ _ (still_doSlideStep _) (fun _ => bounded_doSlideStep _) s
  case setHold => exact rowKeeps_interactive _ _ (still_doSetHold _ _) (fun _ => bounded_doSetHold _ _) s
  case segOpen => exact rowKeeps_command _ _ (rowKeeps_doSegOpen _ _) s
  case segData => exact rowKeeps_command _ _ (rowKeeps_doSegData _) s
  case erasePlayer => exact rowKeeps_command _ _ rowKeeps_doErasePlayer s
  all_goals exact .refl s

/-! ### Other frames (R175, R176, R179) -/

theorem steady_readFrame (cmd : Byte) (n : Nat) (s : State) : Steady s (readFrame cmd n s) := by
  unfold readFrame
  split
  · exact .refl s
  · exact steady_frameCrosses _ s

theorem steady_readNoticeFrame (n : Nat) (s : State) : Steady s (readNoticeFrame n s) := by
  have hread := steady_readFrame 0x03 n s
  unfold readNoticeFrame
  dsimp only
  split
  · exact steady_setLink (by rfl) (by simp) hread
  · exact hread

theorem rowKeeps_badFrame (frame : List Byte) (s : State) : RowKeeps s (badFrame frame s) := by
  have hcrossed := (steady_frameCrosses frame s).row
  unfold badFrame
  split
  · exact .refl s
  · dsimp only
    split
    · exact hcrossed.trans (steady_setLinkOverrun _).row
    · exact hcrossed.trans (steady_placeReply ..).row

theorem rowKeeps_completeFrame (frame : List Byte) (s : State) : RowKeeps s (completeFrame frame s) := by
  unfold completeFrame
  split
  · exact .refl s
  split
  · unfold runRead
    split
    · exact (steady_readNoticeFrame _ s).row
    · exact (steady_readFrame _ _ s).row
  split
  · exact rowKeeps_badFrame _ s
  split
  · exact rowKeeps_badFrame _ s
  · exact rowKeeps_runCommand _ s

theorem steady_timeOutFrame (bytes : List Byte) (s : State) : Steady s (timeOutFrame bytes s) := by
  unfold timeOutFrame
  split
  · exact .refl s
  · exact steady_setLink (by rfl) (by exact Nat.le_refl _) (steady_receiveFrame bytes s)

/-! ### The rows that are no rows of a field start -/

theorem rowKeeps_awake {f : State → State} (hf : ∀ s, RowKeeps s (f s)) (s : State) : RowKeeps s (awake f s) := by
  unfold awake
  split
  · exact .refl s
  · exact hf s

theorem rowKeeps_arriveSegment (lane : Owner) (kind : Byte) (p : List Byte) (s : State) :
    RowKeeps s (arriveSegment lane kind p s) := by
  unfold arriveSegment
  split
  · exact (steady_wholeSegment lane kind p (.refl s)).row
  · exact .refl s

theorem steady_finishSetup (s : State) : Steady s (finishSetup s) := by
  unfold finishSetup
  split
  · dsimp only
    split
    · exact ((steady_setComp (s := s) _).2 (.refl s)).trans (steady_placeReply ..)
    · exact .refl s
  · exact .refl s

/-- SAVE_DONE writes its victim's save area besides (R55). -/
theorem rowKeeps_completeSave (s : State) : RowKeeps s (completeSave s) := by
  have hstanding : standing (completeSave s) = standing s := by
    rcases still_completeSave s with hstill | ⟨x, v, -, -, hstill⟩
    · exact standing_of_still hstill
    · exact (standing_of_still hstill).trans rfl
  exact Steady.row ⟨hstanding, bounded_completeSave⟩

theorem rowKeeps_releaseReset (s : State) : RowKeeps s (releaseReset s) := by
  unfold releaseReset
  split
  · exact ⟨rfl, id, id, id⟩
  · exact .refl s

/-- The rows at which the field-start work of a block is done: FIELD_START and the events of a field start (log 1). -/
def isFieldRow (i : Instr) : Prop := (∃ order, i = .fieldStart order) ∨ (eventBlock i).isSome = true

/-- Every other row keeps the commands that wait, makes no block due, and keeps the sizes and the HOLD rule. -/
theorem rowKeeps_exec (i : Instr) (hrow : ¬ isFieldRow i) (s : State) : ∃ t, exec i s = .next t ∧ RowKeeps s t := by
  have hsegment (lane : Owner) (kind : Byte) (p : List Byte) := rowKeeps_awake (rowKeeps_arriveSegment lane kind p) s
  by_cases hcommand : (encodeFrame i).isSome = true
  · exact ⟨_, exec_of_encodeFrame i s hcommand, rowKeeps_runCommand i s⟩
  cases i
  case powerOn => exact ⟨_, rfl, rowKeeps_resetBlocks s⟩
  case resetN => exact ⟨_, rfl, (rowKeeps_resetBlocks s).trans ⟨rfl, id, id, id⟩⟩
  case fieldStart order => exact absurd (.inl ⟨order, rfl⟩) hrow
  case fadeInEnd => exact absurd (.inr rfl) hrow
  case fadeOutEnd => exact absurd (.inr rfl) hrow
  case activationComplete => exact absurd (.inr rfl) hrow
  case pageTimeoutExpiry => exact absurd (.inr rfl) hrow
  case holdRunOut => exact absurd (.inr rfl) hrow
  case transitionEnd => exact absurd (.inr rfl) hrow
  case passComplete => exact ⟨_, rfl, rowKeeps_awake (fun s => (steady_completePass (.refl s)).row) s⟩
  case keyDelivery => exact ⟨_, rfl, rowKeeps_awake (fun s => (steady_deliverKeys (.refl s)).row) s⟩
  case saveDone => exact ⟨_, rfl, rowKeeps_awake rowKeeps_completeSave s⟩
  case loadDone k =>
    exact ⟨_, rfl, rowKeeps_awake (fun s => ((Steady.refl s).interactive (still_completeLoad s k)
      (bounded_completeLoad k)).row) s⟩
  case streamByte b => exact ⟨_, rfl, rowKeeps_awake (rowKeeps_presentByte b) s⟩
  case discLaneByte => exact ⟨_, rfl, rowKeeps_awake rowKeeps_takeLaneByte s⟩
  case segmentServe => exact ⟨_, rfl, rowKeeps_awake rowKeeps_serve s⟩
  case edition => exact ⟨_, rfl, hsegment _ _ _⟩
  case time => exact ⟨_, rfl, hsegment _ _ _⟩
  case palette => exact ⟨_, rfl, hsegment _ _ _⟩
  case objectFirstPart => exact ⟨_, rfl, hsegment _ _ _⟩
  case objectPart => exact ⟨_, rfl, hsegment _ _ _⟩
  case page => exact ⟨_, rfl, hsegment _ _ _⟩
  case slidelist => exact ⟨_, rfl, hsegment _ _ _⟩
  case cue => exact ⟨_, rfl, hsegment _ _ _⟩
  case delete => exact ⟨_, rfl, hsegment _ _ _⟩
  case linkTimeout => exact ⟨_, rfl, (steady_timeOutFrame _ s).row⟩
  case unknownCommand => exact ⟨_, rfl, rowKeeps_completeFrame _ s⟩
  case readReply => exact ⟨_, rfl, (steady_readFrame _ _ s).row⟩
  case readStatus => exact ⟨_, rfl, (steady_readFrame _ _ s).row⟩
  case readNotice => exact ⟨_, rfl, (steady_readNoticeFrame _ s).row⟩
  case setupClearDone => exact ⟨_, rfl, rowKeeps_awake (fun s => (steady_finishSetup s).row) s⟩
  case resetNRelease => exact ⟨_, rfl, rowKeeps_releaseReset s⟩
  all_goals exact absurd rfl hcommand

end Rows

end Sys2Proof.Machine

namespace Sys2Proof.Machine

open Sys2Proof

/-! ## Field starts and their events (R65, R94, R107, R121, R143) -/

/-- What the rows of a field start leave: the commands that wait, RESET_N; and the sizes and the HOLD rule are kept. -/
structure FieldKeeps (s t : State) : Prop where
  pending : t.pending = s.pending
  resetLow : t.resetLow = s.resetLow
  sized : Sized s t

theorem Steady.field {s t : State} (h : Steady s t) : FieldKeeps s t := by
  have hstanding := h.1
  simp only [standing, Prod.mk.injEq] at hstanding
  obtain ⟨hpending, -, hlow, -⟩ := hstanding
  exact ⟨hpending, hlow, h.sized⟩

theorem FieldKeeps.refl (s : State) : FieldKeeps s s := (Steady.refl s).field

theorem FieldKeeps.trans {s t u : State} (h : FieldKeeps s t) (k : FieldKeeps t u) : FieldKeeps s u :=
  ⟨k.pending.trans h.pending, k.resetLow.trans h.resetLow, h.sized.trans k.sized⟩

theorem fieldKeeps_setDue (v : List FieldBlock) (s : State) : FieldKeeps s (s.setDue v) := ⟨rfl, rfl, id, id⟩

theorem fieldKeeps_actBlock (s : State) (b : FieldBlock) : FieldKeeps s (actBlock s b) := by
  unfold actBlock
  split
  · exact (fieldKeeps_setDue _ s).trans (steady_runBlock b (.refl _)).field
  · exact .refl s

theorem fieldKeeps_actBlocks (l : List FieldBlock) : ∀ s, FieldKeeps s (l.foldl actBlock s) := by
  induction l with
  | nil => exact .refl
  | cons b l ih => exact fun s => (fieldKeeps_actBlock s b).trans (ih _)

theorem fieldKeeps_settleField (s : State) : FieldKeeps s (settleField s) := by
  unfold settleField
  split
  · exact .refl s
  · exact fieldKeeps_actBlocks _ s

/-! ### The blocks that have still to act -/

theorem due_actBlocks (l : List FieldBlock) : ∀ s, (l.foldl actBlock s).due = s.due.diff l := by
  induction l with
  | nil => exact fun s => (List.diff_nil s.due).symm
  | cons b l ih => exact fun s => by rw [List.foldl_cons, ih, due_actBlock, List.diff_cons]

/-- The record of the blocks that have still to act names none twice, and only such as have events (log 1). -/
def dueSound (due : List FieldBlock) : Prop := due.Nodup ∧ ∀ b ∈ due, b ∈ eventBlocks

theorem dueSound_nil : dueSound [] := ⟨List.nodup_nil, fun _ hb => absurd hb List.not_mem_nil⟩

theorem fieldWorkSound_of_nil {s : State} (h : s.due = []) : fieldWorkSound s = true := by simp [fieldWorkSound, h]

theorem fieldWorkSound_cases {s : State} (h : fieldWorkSound s = true) :
    s.due = [] ∨ (s.resetLow = false ∧ (nextEvent s).isSome = true ∧ dueSound s.due) := by
  simpa [fieldWorkSound, dueSound, and_assoc] using h

/-- Where no event stands next every block with events has acted; where one does, they wait for it. -/
theorem fieldWorkSound_settleField {s : State} (hlow : s.resetLow = false) (h : dueSound s.due) :
    fieldWorkSound (settleField s) = true := by
  obtain ⟨hnodup, hevents⟩ := h
  unfold settleField
  split
  · rename_i hnext
    have hall : s.due.all eventBlocks.contains = true := by simpa using hevents
    simp [fieldWorkSound, hlow, hnext, hnodup, -List.all_eq_true, hall]
  · refine fieldWorkSound_of_nil ?_
    rw [due_actBlocks]
    exact List.eq_nil_iff_forall_not_mem.2 fun b hb =>
      ((hnodup.mem_sdiff_iff).1 hb).2 (hevents b ((hnodup.mem_sdiff_iff).1 hb).1)

/-! ### FIELD_START (R143) -/

/-- A field start up to the decision of what to scan out: the blocks named by its operand and the last two have
acted. -/
def fieldStarted (order : List FieldBlock) (s : State) : State :=
  decideScan ((order ++ [FieldBlock.cues, FieldBlock.composer]).foldl actBlock (countField (s.due.foldl actBlock s)))

theorem fieldStart_eq (order : List FieldBlock) (s : State) :
    fieldStart order s = settleField (fieldStarted order s) := rfl

theorem fieldKeeps_fieldStarted (order : List FieldBlock) (s : State) : FieldKeeps s (fieldStarted order s) := by
  have hcounted (t : State) : FieldKeeps t (countField t) := ⟨rfl, rfl, id, id⟩
  have hdecided (t : State) : FieldKeeps t (decideScan t) := ⟨rfl, rfl, id, id⟩
  exact ((fieldKeeps_actBlocks _ s).trans (hcounted _)).trans ((fieldKeeps_actBlocks _ _).trans (hdecided _))

/-- The Cue Unit and the Composer act in every field start (log 1). -/
theorem dueSound_fieldStarted (order : List FieldBlock) (s : State) : dueSound (fieldStarted order s).due := by
  have hdue : (fieldStarted order s).due = allBlocks.diff (order ++ [FieldBlock.cues, FieldBlock.composer]) :=
    due_actBlocks ..
  have hall : allBlocks.Nodup := by decide
  rw [hdue]
  refine ⟨hall.diff, fun b hb => ?_⟩
  obtain ⟨-, hleft⟩ := (hall.mem_sdiff_iff).1 hb
  rw [List.mem_append, not_or] at hleft
  obtain ⟨-, hlast⟩ := hleft
  cases b with
  | pageStack => decide
  | navigation => decide
  | sequencer => decide
  | cues => exact absurd (by decide) hlast
  | composer => exact absurd (by decide) hlast

/-! ### The events of a field start (log 1) -/

/-- What an event of a field start does before the field is settled. -/
def EventWork (s u : State) : Prop := FieldKeeps s u ∧ (dueSound s.due → dueSound u.due)

theorem Steady.event {s t : State} (h : Steady s t) : EventWork s t := by
  have hstanding := h.1
  simp only [standing, Prod.mk.injEq] at hstanding
  obtain ⟨-, hdue, -⟩ := hstanding
  exact ⟨h.field, fun hs => by rwa [hdue]⟩

theorem EventWork.refl (s : State) : EventWork s s := (Steady.refl s).event

theorem EventWork.trans {s t u : State} (h : EventWork s t) (k : EventWork t u) : EventWork s u :=
  ⟨h.1.trans k.1, fun hs => k.2 (h.2 hs)⟩

theorem eventWork_actBlock (s : State) (b : FieldBlock) : EventWork s (actBlock s b) := by
  refine ⟨fieldKeeps_actBlock s b, fun ⟨hnodup, hevents⟩ => ?_⟩
  rw [due_actBlock]
  exact ⟨hnodup.erase b, fun c hc => hevents c (List.mem_of_mem_erase hc)⟩

theorem steady_examineNext (test : State → Entry → Bool) (s : State) : Steady s (examineNext test s) := by
  unfold examineNext
  split
  · exact .refl s
  split
  · exact (Steady.refl s).interactive (still_examineEntry ..) (bounded_examineEntry _)
  · exact .refl s

theorem fadeEvent_eq (test : State → Entry → Bool) (s : State) :
    ∃ u, EventWork s u ∧ fadeEvent test s = settleField u := by
  refine ⟨_, ?_, rfl⟩
  split
  · have hexamined := (steady_examineNext test s).event
    dsimp only
    split
    · exact hexamined
    · exact hexamined.trans (eventWork_actBlock _ _)
  · exact .refl s

/-- An event that lets a block act where it is due. -/
theorem eventWork_eventOf (b : FieldBlock) (p : Prop) [Decidable p] (s : State) :
    EventWork s (if p then actBlock s b else s) := by
  split
  · exact eventWork_actBlock s b
  · exact .refl s

theorem activationEvent_eq (s : State) : ∃ u, EventWork s u ∧ activationEvent s = settleField u := by
  refine ⟨_, ?_, rfl⟩
  split
  · exact eventWork_actBlock s _
  split
  · exact .refl s
  · exact (steady_deliverKeys ((Steady.refl s).interactive (still_completeActivation ..)
      (bounded_completeActivation _))).event

/-- An event does its work and settles the field; while RESET_N is low it does nothing. -/
theorem exec_event {i : Instr} (hi : (eventBlock i).isSome = true) (s : State) :
    (s.resetLow = true ∧ exec i s = .next s) ∨
      (s.resetLow = false ∧ ∃ u, EventWork s u ∧ exec i s = .next (settleField u)) := by
  have hawake {f : State → State} (hexec : exec i s = .next (awake f s))
      (hf : ∃ u, EventWork s u ∧ f s = settleField u) : (s.resetLow = true ∧ exec i s = .next s) ∨
        (s.resetLow = false ∧ ∃ u, EventWork s u ∧ exec i s = .next (settleField u)) := by
    obtain ⟨u, hu, hfu⟩ := hf
    cases hlow : s.resetLow with
    | true => exact .inl ⟨rfl, by rw [hexec, awake, if_pos hlow]⟩
    | false => exact .inr ⟨rfl, u, hu, by rw [hexec, awake_of_high hlow, hfu]⟩
  cases i
  case fadeInEnd => exact hawake rfl (fadeEvent_eq _ s)
  case fadeOutEnd => exact hawake rfl (fadeEvent_eq _ s)
  case activationComplete => exact hawake rfl (activationEvent_eq s)
  case pageTimeoutExpiry => exact hawake rfl ⟨_, eventWork_eventOf _ _ s, rfl⟩
  case holdRunOut => exact hawake rfl ⟨_, eventWork_eventOf _ _ s, rfl⟩
  case transitionEnd => exact hawake rfl ⟨_, eventWork_eventOf _ _ s, rfl⟩
  all_goals exact absurd hi Bool.false_ne_true

theorem exec_fieldStart (order : List FieldBlock) (s : State) :
    (s.resetLow = true ∧ exec (.fieldStart order) s = .next s) ∨
      (s.resetLow = false ∧ exec (.fieldStart order) s = .next (settleField (fieldStarted order s))) := by
  have hexec : exec (.fieldStart order) s = .next (awake (fieldStart order) s) := rfl
  cases hlow : s.resetLow with
  | true => exact .inl ⟨rfl, by rw [hexec, awake, if_pos hlow]⟩
  | false => exact .inr ⟨rfl, by rw [hexec, awake_of_high hlow, fieldStart_eq]⟩

/-! ## Every row, every step -/

/-- Every row goes on, leaves the commands that wait alone, and keeps the sizes and the HOLD rule. -/
theorem exec_keeps (i : Instr) (s : State) : ∃ t, exec i s = .next t ∧ t.pending = s.pending ∧ Sized s t := by
  have hsettled {u : State} (h : FieldKeeps s u) : (settleField u).pending = s.pending ∧ Sized s (settleField u) :=
    ⟨(h.trans (fieldKeeps_settleField u)).pending, (h.trans (fieldKeeps_settleField u)).sized⟩
  by_cases hrow : isFieldRow i
  · rcases hrow with ⟨order, rfl⟩ | hevent
    · rcases exec_fieldStart order s with ⟨-, hexec⟩ | ⟨-, hexec⟩
      · exact ⟨_, hexec, rfl, (Steady.refl s).sized⟩
      · exact ⟨_, hexec, hsettled (fieldKeeps_fieldStarted order s)⟩
    · rcases exec_event hevent s with ⟨-, hexec⟩ | ⟨-, u, hu, hexec⟩
      · exact ⟨_, hexec, rfl, (Steady.refl s).sized⟩
      · exact ⟨_, hexec, hsettled hu.1⟩
  · obtain ⟨t, hexec, hrow⟩ := rowKeeps_exec i hrow s
    exact ⟨t, hexec, hrow.pending, hrow.sized⟩

/-- After a row blocks are due only for an event that stands next. -/
theorem fieldWorkSound_exec {i : Instr} {s t : State}
    (hdue : s.due = [] ∨ ((eventBlock i).isSome = true ∧ s.resetLow = false ∧ dueSound s.due))
    (hexec : exec i s = .next t) : fieldWorkSound t = true := by
  by_cases hrow : isFieldRow i
  · rcases hrow with ⟨order, rfl⟩ | hevent
    · have hnil : s.due = [] := hdue.elim id fun h => absurd h.1 (by simp [eventBlock])
      rcases exec_fieldStart order s with ⟨-, h⟩ | ⟨hlow, h⟩ <;> cases h.symm.trans hexec
      · exact fieldWorkSound_of_nil hnil
      · exact fieldWorkSound_settleField ((fieldKeeps_fieldStarted order s).resetLow.trans hlow)
          (dueSound_fieldStarted order s)
    · have hsound : dueSound s.due := hdue.elim (fun h => h ▸ dueSound_nil) fun h => h.2.2
      rcases exec_event hevent s with ⟨hlow, h⟩ | ⟨hlow, u, ⟨hkeeps, hu⟩, h⟩ <;> cases h.symm.trans hexec
      · refine fieldWorkSound_of_nil (hdue.elim id fun h => ?_)
        rw [h.2.1] at hlow
        contradiction
      · exact fieldWorkSound_settleField (hkeeps.resetLow.trans hlow) (hu hsound)
  · have hnil : s.due = [] := hdue.elim id fun h => absurd (.inr h.1) hrow
    obtain ⟨u, hu, hkeeps⟩ := rowKeeps_exec i hrow s
    cases hu.symm.trans hexec
    exact fieldWorkSound_of_nil (hkeeps.due hnil)

/-- A step is the idle one, or that of the command at the front of the queue. -/
theorem step_cases {s t : State} (h : step s = .next t) :
    t = s ∨ ∃ c cs, s.pending = c :: cs ∧ exec c (s.setPending cs) = .next t := by
  unfold step at h
  split at h
  · cases h; exact .inl rfl
  · rename_i c cs hpending
    exact .inr ⟨c, cs, hpending, h⟩

theorem sized_step {s t : State} (h : step s = .next t) : Sized s t := by
  rcases step_cases h with rfl | ⟨c, cs, -, hexec⟩
  · exact (Steady.refl t).sized
  · obtain ⟨u, hu, -, hsized⟩ := exec_keeps c (s.setPending cs)
    cases hu.symm.trans hexec
    exact hsized

/-- Settles O54: what adds to a queue, a stack, the FIFO or the relay buffer looks for room first, and what moves the
count of the FIFO moves HOLD with it. -/
theorem everyStepKeepsSizesAndHold : Obligations.EveryStepKeepsSizesAndHold :=
  ⟨fun _ _ hs h => (sized_step h).1 hs, fun _ _ hs h => (sized_step h).2 hs⟩

/-- Settles O2: only FIELD_START makes blocks due, and it settles them where no event of the field start stands next. -/
theorem everyCommandLeavesTheQueue : Obligations.EveryCommandLeavesTheQueue := by
  refine ⟨fun c s => ?_, fun s t hs h => ?_⟩
  · obtain ⟨t, hexec, hpending, -⟩ := exec_keeps c s
    exact ⟨t, hexec, hpending⟩
  · rcases step_cases h with rfl | ⟨c, cs, hpending, hexec⟩
    · exact hs
    · refine fieldWorkSound_exec (s := s.setPending cs) ?_ hexec
      rcases fieldWorkSound_cases hs with hnil | ⟨hlow, hnext, hsound⟩
      · exact .inl hnil
      · exact .inr ⟨by simpa [nextEvent, hpending] using hnext, hlow, hsound⟩

end Sys2Proof.Machine

namespace Sys2Proof.Machine

open Sys2Proof

/-! ## Levels and the effective alpha (R157 to R160) -/

/-! ### The two fades (R158) -/

theorem div_of_scaled_le {k n : Nat} (h : k ≤ n) : 128 * k / n ≤ 128 :=
  Nat.div_le_of_le_mul (by rw [Nat.mul_comm n]; exact Nat.mul_le_mul_left 128 h)

theorem le_div_of_scaled {k n : Nat} (hn : 1 ≤ n) (h : n ≤ k) : 128 ≤ 128 * k / n :=
  (Nat.le_div_iff_mul_le hn).2 (Nat.mul_le_mul_left 128 h)

theorem enteringLevel_of_pos {fade : Nat} (h : 1 ≤ fade) (d : Nat) : enteringLevel fade d = min 128 (128 * d / fade) :=
  if_neg (Nat.ne_of_gt h)

theorem leavingLevel_of_pos {fade : Nat} (h : 1 ≤ fade) (d : Nat) :
    leavingLevel fade d = 128 - enteringLevel fade d := by
  rw [enteringLevel_of_pos h]
  exact if_neg (Nat.ne_of_gt h)

theorem enteringLevel_le (fade d : Nat) : enteringLevel fade d ≤ 128 := by
  unfold enteringLevel
  split
  · exact Nat.le_refl 128
  · exact Nat.min_le_left ..

theorem leavingLevel_le (fade d : Nat) : leavingLevel fade d ≤ 128 := by
  unfold leavingLevel
  split
  · exact Nat.zero_le 128
  · exact Nat.sub_le ..

theorem enteringLevel_zero {fade : Nat} (h : 1 ≤ fade) : enteringLevel fade 0 = 0 := by
  simp [enteringLevel_of_pos h]

theorem enteringLevel_of_le {fade d : Nat} (h : 1 ≤ fade) (hd : fade ≤ d) : enteringLevel fade d = 128 := by
  rw [enteringLevel_of_pos h]
  exact Nat.min_eq_left (le_div_of_scaled h hd)

theorem enteringLevel_le_succ {fade : Nat} (h : 1 ≤ fade) (d : Nat) :
    enteringLevel fade d ≤ enteringLevel fade (d + 1) := by
  have hquotient : 128 * d / fade ≤ 128 * (d + 1) / fade := Nat.div_le_div_right (by omega)
  rw [enteringLevel_of_pos h, enteringLevel_of_pos h]
  omega

/-! ### Transitions (R159) -/

theorem transitionLevels_le {kind : TransKind} {n k : Nat} (h : k ≤ n) :
    (transitionLevels kind n k).1 ≤ 128 ∧ (transitionLevels kind n k).2 ≤ 128 := by
  cases kind with
  | crossfade => exact ⟨div_of_scaled_le h, Nat.sub_le ..⟩
  | fadeThrough =>
    simp only [transitionLevels]
    split
    · refine ⟨Nat.zero_le _, ?_⟩
      dsimp only
      split
      · exact Nat.le_refl 128
      · exact Nat.sub_le ..
    · exact ⟨div_of_scaled_le (Nat.sub_le_sub_right h _), Nat.zero_le _⟩
  | wipeLeft =>
    simp only [transitionLevels]
    split <;> omega
  | cut => exact ⟨Nat.le_refl _, Nat.le_refl _⟩

theorem fadeThrough_incoming (n k : Nat) : (transitionLevels .fadeThrough n k).1 =
    if k ≤ n / 2 then 0 else 128 * (k - n / 2) / (n - n / 2) := by
  simp only [transitionLevels]
  split <;> rfl

theorem fadeThrough_outgoing (n k : Nat) : (transitionLevels .fadeThrough n k).2 =
    if n / 2 < k then 0 else if n / 2 = 0 then 128 else 128 - 128 * k / (n / 2) := by
  simp only [transitionLevels]
  rcases Nat.lt_or_ge (n / 2) k with hlate | hearly
  · rw [if_neg (Nat.not_le.2 hlate), if_pos hlate]
  · rw [if_pos hearly, if_neg (Nat.not_lt.2 hearly)]

theorem wipeLeft_outgoing {n k : Nat} (h : k ≤ n) : (transitionLevels .wipeLeft n k).2 = if k = n then 0 else 128 := by
  have hend : n ≤ k ↔ k = n := by omega
  simp only [transitionLevels, hend]

theorem transProgress_le (t : TransRec) (now : Word) : transProgress t now ≤ t.length := Nat.min_le_left ..

/-! ### The level of a drawn entry (R158, R159) -/

theorem entryLevel_menu (sn : Snapshot) (now : Word) {e : SnapEntry} (h : e.band ≠ .slide) :
    entryLevel sn now e = (match e.st with
      | .entering => enteringLevel e.fadeIn (fieldsSince now (e.start.getD 0))
      | .shown => 128
      | .leaving => leavingLevel e.fadeOut (fieldsSince now (e.start.getD 0)), (formatSize sn.format).1) := by
  unfold entryLevel
  cases hband : e.band with
  | slide => exact absurd hband h
  | disc => cases e.st <;> rfl
  | player => cases e.st <;> rfl

theorem entryLevel_plain {sn : Snapshot} (now : Word) {e : SnapEntry} (hband : e.band = .slide)
    (h : sn.trans = none ∨ e.role = .plain) : entryLevel sn now e = (128, (formatSize sn.format).1) := by
  unfold entryLevel
  rw [hband]
  rcases h with htrans | hrole
  · rw [htrans]
  · rw [hrole]
    cases sn.trans <;> rfl

theorem entryLevel_incoming {sn : Snapshot} (now : Word) {e : SnapEntry} {t : TransRec} (hband : e.band = .slide)
    (ht : sn.trans = some t) (hrole : e.role = .incoming) :
    entryLevel sn now e = ((transitionLevels t.kind t.length (transProgress t now)).1,
      incomingColumns t.kind (formatSize sn.format).1 t.length (transProgress t now)) := by
  unfold entryLevel
  rw [hband, ht, hrole]

theorem entryLevel_outgoing {sn : Snapshot} (now : Word) {e : SnapEntry} {t : TransRec} (hband : e.band = .slide)
    (ht : sn.trans = some t) (hrole : e.role = .outgoing) :
    entryLevel sn now e = ((transitionLevels t.kind t.length (transProgress t now)).2, (formatSize sn.format).1) := by
  unfold entryLevel
  rw [hband, ht, hrole]

theorem entryLevel_le (sn : Snapshot) (now : Word) (e : SnapEntry) : (entryLevel sn now e).1 ≤ 128 := by
  by_cases hband : e.band = .slide
  · cases ht : sn.trans with
    | none => simp [entryLevel_plain now hband (.inl ht)]
    | some t =>
      obtain ⟨hin, hout⟩ := transitionLevels_le (kind := t.kind) (transProgress_le t now)
      cases hrole : e.role with
      | plain => simp [entryLevel_plain now hband (.inr hrole)]
      | incoming => simpa [entryLevel_incoming now hband ht hrole] using hin
      | outgoing => simpa [entryLevel_outgoing now hband ht hrole] using hout
  · rw [entryLevel_menu sn now hband]
    cases e.st with
    | entering => exact enteringLevel_le ..
    | shown => exact Nat.le_refl 128
    | leaving => exact leavingLevel_le ..

/-! ### The effective alpha (R160) -/

theorem effectiveAlpha_le {alpha level : Nat} (h : level ≤ 128) : effectiveAlpha alpha level ≤ alpha := by
  have hproduct : alpha * level ≤ alpha * 128 := Nat.mul_le_mul_left alpha h
  unfold effectiveAlpha
  omega

theorem effectiveAlpha_full (alpha : Nat) : effectiveAlpha alpha 128 = alpha := by
  unfold effectiveAlpha
  omega

/-- Settles O48, by the band, state and role of the entry and the kind of the transition. -/
theorem levelsAndAlphaStayInRange : Obligations.LevelsAndAlphaStayInRange := by
  refine ⟨fun sn now e => ⟨fun hmenu => ⟨fun hst => ?_, fun v hv => ⟨fun hst => ?_, fun hst => ?_⟩⟩,
    fun hslide => ⟨entryLevel_plain now hslide, fun kind n start ht hn => ?_⟩⟩, ⟨entryLevel_le, fun fade d hfade => ?_⟩,
    fun alpha level _ hlevel => ⟨rfl, effectiveAlpha_le hlevel, effectiveAlpha_full alpha,
      by simp [effectiveAlpha], by simp [effectiveAlpha]⟩⟩
  · rw [entryLevel_menu sn now hmenu, hst]
  · rw [entryLevel_menu sn now hmenu, hst, hv]; rfl
  · rw [entryLevel_menu sn now hmenu, hst, hv]; rfl
  · refine ⟨fun hrole => ?_, fun hrole => ?_⟩
    · rw [entryLevel_incoming now hslide ht hrole]
      refine ⟨?_, ?_, ?_⟩ <;> rintro rfl
      · rfl
      · exact Prod.ext (fadeThrough_incoming ..) rfl
      · rfl
    · rw [entryLevel_outgoing now hslide ht hrole]
      refine ⟨?_, ?_, ?_⟩ <;> rintro rfl
      · rfl
      · exact Prod.ext (fadeThrough_outgoing ..) rfl
      · exact Prod.ext (wipeLeft_outgoing (Nat.min_le_left ..)) rfl
  · have hrises := enteringLevel_le_succ hfade d
    simp only [leavingLevel_of_pos hfade]
    refine ⟨enteringLevel_zero hfade, enteringLevel_of_le hfade, ?_, fun hd => ?_, hrises,
      Nat.sub_le_sub_left hrises 128⟩
    · rw [enteringLevel_zero hfade]
    · rw [enteringLevel_of_le hfade hd]

end Sys2Proof.Machine

namespace Sys2Proof.Machine

open Sys2Proof

/-! ## The focus (R80) -/

/-- The entry is of kind MENU and not LEAVING. -/
def takesFocus (e : Entry) : Bool := e.band != .slide && !isLeaving e

theorem takesFocus_iff (e : Entry) : takesFocus e = true ↔ e.band ≠ .slide ∧ e.st ≠ .leaving := by
  simp [takesFocus, isLeaving]

theorem takesFocus_eq_false_iff (e : Entry) : takesFocus e = false ↔ e.band = .slide ∨ e.st = .leaving := by
  simp only [takesFocus, isLeaving, Bool.and_eq_false_iff, bne_eq_false_iff_eq, Bool.not_eq_false', beq_iff_eq]

/-- The topmost entry is the first from the top. -/
theorem focusEntry_eq (s : State) : focusEntry s = s.stack.entries.reverse.find? takesFocus := by
  rw [← List.head?_filter, List.filter_reverse, List.head?_reverse]
  rfl

/-- Settles O30: the search from the top comes to the first entry that takes the focus. -/
theorem focusIsTheTopmostMenuEntry : Obligations.FocusIsTheTopmostMenuEntry := by
  intro s
  rw [focusEntry_eq]
  refine ⟨fun e => ⟨fun h => ?_, ?_⟩, ?_⟩
  · obtain ⟨he, as, bs, hsplit, habove⟩ := List.find?_eq_some_iff_append.1 h
    obtain ⟨hband, hst⟩ := (takesFocus_iff e).1 he
    refine ⟨bs.reverse, as.reverse, ?_, hband, hst, fun x hx => ?_⟩
    · simpa using congrArg List.reverse hsplit
    · exact (takesFocus_eq_false_iff x).1 (by simpa using habove x (List.mem_reverse.1 hx))
  · rintro ⟨below, above, hsplit, hband, hst, habove⟩
    refine List.find?_eq_some_iff_append.2 ⟨(takesFocus_iff e).2 ⟨hband, hst⟩, above.reverse, below.reverse, ?_, ?_⟩
    · simp [hsplit]
    · intro x hx
      simp [(takesFocus_eq_false_iff x).2 (habove x (List.mem_reverse.1 hx))]
  · simp [List.find?_eq_none, ← takesFocus_eq_false_iff]

end Sys2Proof.Machine

namespace Sys2Proof.Machine

open Sys2Proof

/-! ## Entries of the menu bands (R63 to R71) -/

/-! ### What a page is, outside the exchange (R36, R38) -/

section Views

variable {s t : State} (h : offExchange t = offExchange s)

include h

theorem pageDefinition_of_offExchange (r : PageRef) : pageDefinition r t = pageDefinition r s := by
  obtain ⟨-, -, hlen, -⟩ := PageEntry.mk.injEq .. ▸ pageEntry_of_offExchange h r
  rw [pageDefinition, pageDefinition, mem_of_offExchange h, hlen]

end Views

theorem disp_insertEntry (i : Nat) (e : Entry) (s : State) : (insertEntry i e s).disp = s.disp :=
  (disp_of_offExchange (offExchange_insertEntry i e s)).trans rfl

theorem pageDefinition_insertEntry (r : PageRef) (i : Nat) (e : Entry) (s : State) :
    pageDefinition r (insertEntry i e s) = pageDefinition r s :=
  (pageDefinition_of_offExchange (offExchange_insertEntry i e s) r).trans rfl

theorem pageNotice_link_congr (kind : NoticeKind) (r : PageRef) (n : Nat) (code : Half) {s t : State}
    (hlink : t.link = s.link) (hdisp : t.disp = s.disp) (hcues : t.cues = s.cues) :
    (pageNotice kind r n code t).link = (pageNotice kind r n code s).link :=
  post_link_congr _ _ _ _ _ _ _ _ hlink hdisp hcues

/-! ### An entry is added (R63, R64) -/

/-- A new entry of a menu band. -/
def newEntry (r : PageRef) (st : EntryState) (start : Option Word) : Entry :=
  ⟨r, menuBand r.owner, st, start, 0, .plain⟩

theorem map_of_page_ne {r : PageRef} (f : Entry → Entry) {es : List Entry} (h : ∀ e ∈ es, e.page ≠ r) :
    es.map (fun x => if x.page = r then f x else x) = es :=
  (List.map_congr_left fun e he => if_neg (h e he)).trans (List.map_id _)

section Adding

variable {r : PageRef} {s : State}

theorem addEntering_waiting (i : Nat) (h : readySlot r s = none) :
    addEntering r i s = insertEntry i (newEntry r .entering none) s := by
  simp only [addEntering, h]
  rfl

theorem addEntering_ready (i : Nat) (h : readySlot r s ≠ none) : addEntering r i s =
    if (pageDefinition r s).fadeIn = 0 then
      turnShown r shownFadeIn (insertEntry i (newEntry r .entering (some s.disp.counter)) s)
    else insertEntry i (newEntry r .entering (some s.disp.counter)) s := by
  obtain ⟨k, hk⟩ := Option.ne_none_iff_exists'.1 h
  simp only [addEntering, hk, pageDefinition_insertEntry]
  rfl

variable (hentry : entryOf r s = none)

include hentry

/-- The new entry stands at the position it was added at. -/
theorem positionOf_insertEntry {i : Nat} (hi : i ≤ s.stack.entries.length) (st : EntryState) (start : Option Word) :
    positionOf r (insertEntry i (newEntry r st start) s) = some i := by
  have habsent := (entryOf_eq_none_iff r s).1 hentry
  have hentries : (insertEntry i (newEntry r st start) s).stack.entries =
      s.stack.entries.take i ++ newEntry r st start :: s.stack.entries.drop i := by simp [stack_insertEntry]
  obtain ⟨hposition, -⟩ := positionOf_split hentries rfl fun y hy => habsent y (List.mem_of_mem_take hy)
  rwa [List.length_take, Nat.min_eq_left hi] at hposition

/-- Only the new entry turns SHOWN. -/
theorem entries_turnShown_insertEntry (i : Nat) (code : Half) (st : EntryState) (start : Option Word) :
    (turnShown r code (insertEntry i (newEntry r st start) s)).stack.entries = s.stack.entries.take i ++
      [newEntry r .shown (some s.disp.counter)] ++ s.stack.entries.drop i := by
  have habsent := (entryOf_eq_none_iff r s).1 hentry
  simp only [stack_turnShown, stack_insertEntry, disp_insertEntry, List.map_append, List.map_cons, List.map_nil]
  rw [map_of_page_ne _ fun e he => habsent e (List.mem_of_mem_take he),
    map_of_page_ne _ fun e he => habsent e (List.mem_of_mem_drop he),
    if_pos (show (newEntry r st start).page = r from rfl)]
  rfl

theorem entries_addEntering (i : Nat) : (addEntering r i s).stack.entries = s.stack.entries.take i ++
    [if readySlot r s = none then newEntry r .entering none
      else newEntry r (if (pageDefinition r s).fadeIn = 0 then .shown else .entering) (some s.disp.counter)] ++
    s.stack.entries.drop i := by
  by_cases hready : readySlot r s = none
  · rw [addEntering_waiting i hready, if_pos hready, stack_insertEntry]
  · rw [addEntering_ready i hready, if_neg hready]
    split
    · exact entries_turnShown_insertEntry hentry ..
    · rw [stack_insertEntry]

/-- PAGE_SHOWN is posted only where the new entry turns SHOWN at once (R66). -/
theorem link_addEntering {i : Nat} (hi : i ≤ s.stack.entries.length) : (addEntering r i s).link =
    if readySlot r s ≠ none ∧ (pageDefinition r s).fadeIn = 0 then (pageNotice .pageShown r i shownFadeIn s).link
      else s.link := by
  by_cases hready : readySlot r s = none
  · rw [addEntering_waiting i hready, if_neg fun h => h.1 hready, link_insertEntry]
  · rw [addEntering_ready i hready]
    by_cases hfade : (pageDefinition r s).fadeIn = 0
    · rw [if_pos hfade, if_pos ⟨hready, hfade⟩, link_turnShown _ (positionOf_insertEntry hentry hi ..)]
      exact pageNotice_link_congr _ _ _ _ (link_insertEntry ..) (disp_insertEntry ..)
        ((cues_of_offExchange (offExchange_insertEntry ..)).trans rfl)
    · rw [if_neg hfade, if_neg fun h => hfade h.2, link_insertEntry]

end Adding

/-! ### An entry is brought back (R70) -/

section Restoring

variable {r : PageRef} {s : State} {e : Entry} (he : entryOf r s = some e)

include he

theorem restoreEntry_eq :
    restoreEntry r s = turnShown r shownRestored (setEntries (closeOrder e s.stack.entries) s) := by
  simp only [restoreEntry, he]

theorem link_restoreEntry {n : Nat} (hn : positionOf r s = some n) :
    (restoreEntry r s).link = (pageNotice .pageShown r n shownRestored s).link := by
  have hpages : (setEntries (closeOrder e s.stack.entries) s).stack.entries.map Entry.page =
      s.stack.entries.map Entry.page := by
    simp only [setEntries, State.setStack, closeOrder_eq, List.map_map]
    refine List.map_congr_left fun x _ => ?_
    simp only [Function.comp]
    split <;> rfl
  rw [restoreEntry_eq he, link_turnShown _ ((positionOf_congr hpages).trans hn)]
  exact pageNotice_link_congr _ _ _ _ rfl rfl rfl

theorem entries_restoreEntry (hst : e.st = .leaving) :
    (restoreEntry r s).stack.entries = s.stack.entries.map (fun x =>
      if x.page = r then { x with
        st := .shown, start := some s.disp.counter, role := .plain
        order := if x.st = .leaving ∧ e.order < x.order then x.order - 1 else x.order }
      else if x.st = .leaving ∧ e.order < x.order then { x with order := x.order - 1 } else x) := by
  rw [restoreEntry_eq he, stack_turnShown]
  simp only [setEntries, State.setStack, closeOrder_eq, hst, true_and, List.map_map]
  refine List.map_congr_left fun x _ => ?_
  simp only [Function.comp, renewedEntry]
  by_cases hlater : x.st = .leaving ∧ e.order < x.order
  · simp only [if_pos hlater]
  · simp only [if_neg hlater]

end Restoring

/-! ### An entry starts leaving (R71) -/

section Leaving

variable {r : PageRef} {s : State}

theorem startLeaving_none (h : entryOf r s = none) : startLeaving r s = s := by
  simp only [startLeaving, h]

variable {e : Entry} (he : entryOf r s = some e)

include he

theorem startLeaving_leaving (hst : e.st = .leaving) : startLeaving r s = s := by
  simp only [startLeaving, he, hst]
  split <;> rfl

theorem startLeaving_entry (hband : e.band ≠ .slide) (hst : e.st ≠ .leaving) : startLeaving r s =
    if e.st = .entering ∧ e.start = none then removeEntry r (some hiddenUnseen) s
    else if (pageDefinition r s).fadeOut = 0 then removeEntry r (some hiddenFaded) s
    else changeEntry r (fun x => { x with
      st := .leaving, start := some s.disp.counter, order := (s.stack.entries.filter isLeaving).length }) s := by
  simp only [startLeaving, he, if_neg hband]
  cases hcase : e.st with
  | leaving => exact absurd hcase hst
  | entering => rfl
  | shown => rfl

/-- An entry that was never seen, or whose fade-out is 0, goes at once. -/
theorem startLeaving_gone (hband : e.band ≠ .slide) (hst : e.st ≠ .leaving)
    (hgone : (e.st = .entering ∧ e.start = none) ∨ (pageDefinition r s).fadeOut = 0) : startLeaving r s =
      removeEntry r (some (if e.st = .entering ∧ e.start = none then hiddenUnseen else hiddenFaded)) s := by
  rw [startLeaving_entry he hband hst]
  by_cases hunseen : e.st = .entering ∧ e.start = none
  · rw [if_pos hunseen, if_pos hunseen]
  · rw [if_neg hunseen, if_neg hunseen, if_pos (hgone.resolve_left hunseen)]

/-- An entry that is not LEAVING leaves no gap in the leaving order. -/
theorem entries_removeEntry_of_not_leaving (code : Option Half) (hst : e.st ≠ .leaving) :
    (removeEntry r code s).stack.entries = s.stack.entries.eraseP (fun x => x.page == r) := by
  rw [stack_removeEntry code he]
  exact closeOrder_of_not_leaving hst _

end Leaving

/-- What starting to leave does to an entry of a menu band (R66, R71). -/
theorem startLeaving_effect (s : State) (r : PageRef) :
    (entryOf r s = none → startLeaving r s = s) ∧
    ∀ e, entryOf r s = some e → e.band ≠ .slide →
      (e.st = .leaving → startLeaving r s = s) ∧
      (e.st ≠ .leaving → ((e.st = .entering ∧ e.start = none) ∨ (pageDefinition r s).fadeOut = 0) →
        (startLeaving r s).stack.entries = s.stack.entries.eraseP (fun x => x.page == r) ∧
        ∀ n, positionOf r s = some n → (startLeaving r s).link =
          (post .pageHidden (some r.owner) (some r.id) (BitVec.ofNat 16 n)
            (if e.st = .entering ∧ e.start = none then 2 else 0) 0 false s).link) ∧
      (e.st ≠ .leaving → ¬ (e.st = .entering ∧ e.start = none) → (pageDefinition r s).fadeOut ≠ 0 →
        (startLeaving r s).link = s.link ∧
        (startLeaving r s).stack.entries = s.stack.entries.map (fun x => if x.page = r then
          { x with st := .leaving, start := some s.disp.counter,
                   order := (s.stack.entries.filter (fun y => y.st == .leaving)).length }
          else x)) := by
  refine ⟨startLeaving_none, fun e he hband =>
    ⟨startLeaving_leaving he, fun hst hgone => ?_, fun hst hseen hfade => ?_⟩⟩
  · rw [startLeaving_gone he hband hst hgone]
    exact ⟨entries_removeEntry_of_not_leaving he _ hst, fun n hn => link_removeEntry _ hn⟩
  · rw [startLeaving_entry he hband hst, if_neg hseen, if_neg hfade]
    exact ⟨link_changeEntry .., by rw [stack_changeEntry]; rfl⟩

end Sys2Proof.Machine

namespace Sys2Proof.Machine

open Sys2Proof

/-! ## SHOW, HIDE and HIDE_BAND (R68 to R73, R77, R186) -/

/-! ### The arguments (R186) -/

theorem decodeOwner_none {owner : Byte} (h : 1 < owner.toNat) : decodeOwner owner = none := by
  unfold decodeOwner
  rw [if_neg (by rintro rfl; exact absurd h (by decide)), if_neg (by rintro rfl; exact absurd h (by decide))]

theorem pageArgument_none {owner page : Byte} (h : 1 < owner.toNat ∨ 32 ≤ page.toNat) :
    pageArgument owner page = none := by
  unfold pageArgument
  rcases h with howner | hpage
  · rw [decodeOwner_none howner]
  · have hnone : pageId? page = none := dif_neg (Nat.not_lt.2 hpage)
    rw [hnone]
    cases decodeOwner owner <;> rfl

theorem onPage_refused {owner page : Byte} (h : 1 < owner.toNat ∨ 32 ≤ page.toNat) (act : PageRef → State → Answer)
    (s : State) : onPage owner page act s = refusedWith .badArgument s := by
  simp only [onPage, pageArgument_none h]

theorem onMenuPage_undefined {r : PageRef} {s : State} (h : (pageEntry r s).defined = false) (act : State → Answer) :
    onMenuPage r act s = refusedWith .notDefined s := if_pos h

theorem onMenuPage_slide {r : PageRef} {s : State} (h : isSlidePage r s = true) (act : State → Answer) :
    onMenuPage r act s = refusedWith .wrongState s := by
  simp only [isSlidePage, Bool.and_eq_true, beq_iff_eq] at h
  obtain ⟨hdefined, hkind⟩ := h
  simp [onMenuPage, hdefined, hkind]

/-! ### What the rows answer -/

/-- What SHOW makes of the stack, by its mode; none where the stack has no room (R69, R77). -/
def shownIn (mode : Byte) (r : PageRef) (s : State) : Option State :=
  if mode = 0 then showEntry r s else showCalling r s

theorem doShow_mode {mode : Byte} (h : mode.toNat ≤ 1) (owner page : Byte) (s : State) : doShow owner page mode s =
    onPage owner page (fun r => onMenuPage r (fun t => shownOr (shownIn mode r t) t)) s := if_neg (Nat.not_lt.2 h)

section Rows

variable {s : State} (hopen : linkOpen s = true)

include hopen

/-- SHOW answers what its body answers. -/
theorem exec_showPage {owner page mode : Byte} {a : Answer} (ha : doShow owner page mode (crossed 3 s) = a) :
    exec (.showPage owner page mode) s = .next (placeReply 0x11 a.code a.data a.state) := by
  rw [exec_of_encodeFrame _ _ rfl, runCommand, runShowPage, command_linkOpen hopen _ _ rfl]
  subst ha
  rfl

/-- HIDE answers what its body answers. -/
theorem exec_hidePage {owner page : Byte} {a : Answer} (ha : doHide owner page (crossed 2 s) = a) :
    exec (.hidePage owner page) s = .next (placeReply 0x12 a.code a.data a.state) := by
  rw [exec_of_encodeFrame _ _ rfl, runCommand, runHidePage, command_linkOpen hopen _ _ rfl]
  subst ha
  rfl

/-- HIDE_BAND answers what its body answers. -/
theorem exec_hideBand {owner : Byte} {a : Answer} (ha : doHideBand owner (crossed 1 s) = a) :
    exec (.hideBand owner) s = .next (placeReply 0x13 a.code a.data a.state) := by
  rw [exec_of_encodeFrame _ _ rfl, runCommand, runHideBand, command_linkOpen hopen _ _ rfl]
  subst ha
  rfl

/-- SHOW of a page that the arguments name. -/
theorem exec_showPage_argument {owner page mode : Byte} {r : PageRef} {a : Answer}
    (harg : pageArgument owner page = some r) (hmode : mode.toNat ≤ 1)
    (ha : onMenuPage r (fun t => shownOr (shownIn mode r t) t) (crossed 3 s) = a) :
    exec (.showPage owner page mode) s = .next (placeReply 0x11 a.code a.data a.state) :=
  exec_showPage hopen ((doShow_mode hmode ..).trans ((onPage_of_argument harg ..).trans ha))

/-- SHOW of a MENU page that comes to stand on the stack. -/
theorem exec_showPage_shown {owner page mode : Byte} {r : PageRef} {t : State}
    (harg : pageArgument owner page = some r) (hmenu : isMenuPage r s = true) (hmode : mode.toNat ≤ 1)
    (ht : shownIn mode r (crossed 3 s) = some t) :
    exec (.showPage owner page mode) s = .next (placeReply 0x11 .ok [] (deliverKeys t)) :=
  exec_showPage_argument hopen (a := done (deliverKeys t)) harg hmode
    (by rw [onMenuPage_of_menu (s := crossed 3 s) hmenu, ht]; rfl)

end Rows

/-- Without room nothing is shown, in either mode (R68). -/
theorem shownIn_none {s : State} {r : PageRef} (mode : Byte) (hentry : entryOf r s = none)
    (hfull : 5 ≤ s.stack.entries.length) (hnone : ∀ e ∈ s.stack.entries, e.st ≠ .leaving) :
    shownIn mode r s = none := by
  have hroom : makeRoom s = none := roomBy_none hfull hnone
  simp [shownIn, showEntry, showCalling, hentry, hroom]

/-- Settles O27: each refusal is the first check that fails, and answers with the state as the frame left it. -/
theorem showAndHideRefusals : Obligations.ShowAndHideRefusals := by
  refine fun s owner page hopen => ⟨fun mode hbad => ?_, fun hbad => ?_, fun r harg => ⟨fun hundefined => ⟨?_, ?_⟩,
    fun hslide => ⟨?_, ?_⟩, fun hmenu hentry hfull hnone mode hmode => ?_⟩⟩
  · refine exec_showPage hopen (a := refusedWith .badArgument (crossed 3 s)) ?_
    by_cases hmode : 1 < mode.toNat
    · exact if_pos hmode
    · rw [doShow_mode (Nat.not_lt.1 hmode), onPage_refused (hbad.resolve_left hmode)]
  · exact exec_hidePage hopen (a := refusedWith .badArgument (crossed 2 s)) (onPage_refused hbad ..)
  · exact exec_hidePage hopen (a := refusedWith .notDefined (crossed 2 s))
      ((onPage_of_argument harg ..).trans (onMenuPage_undefined (s := crossed 2 s) hundefined _))
  · exact fun mode hmode => exec_showPage_argument hopen (a := refusedWith .notDefined (crossed 3 s)) harg hmode
      (onMenuPage_undefined (s := crossed 3 s) hundefined _)
  · exact exec_hidePage hopen (a := refusedWith .wrongState (crossed 2 s))
      ((onPage_of_argument harg ..).trans (onMenuPage_slide (s := crossed 2 s) hslide _))
  · exact fun mode hmode => exec_showPage_argument hopen (a := refusedWith .wrongState (crossed 3 s)) harg hmode
      (onMenuPage_slide (s := crossed 3 s) hslide _)
  · refine exec_showPage_argument hopen (a := refusedWith .stackFull (crossed 3 s)) harg hmode ?_
    rw [onMenuPage_of_menu (s := crossed 3 s) hmenu, shownIn_none (s := crossed 3 s) mode hentry hfull hnone]
    rfl

/-- Settles O28, by what starting to leave makes of an entry. -/
theorem hideMakesEntriesLeave : Obligations.HideMakesEntriesLeave := by
  refine ⟨fun s owner page r hopen harg hmenu => ?_, fun s owner hopen howner => ?_, fun s owner o hopen ho => ?_,
    startLeaving_effect⟩
  · exact exec_hidePage hopen (a := done (deliverKeys (startLeaving r (crossed 2 s))))
      ((onPage_of_argument harg ..).trans (onMenuPage_of_menu (s := crossed 2 s) hmenu _))
  · exact exec_hideBand hopen (a := refusedWith .badArgument (crossed 1 s))
      (by simp only [doHideBand, decodeOwner_none howner])
  · exact exec_hideBand hopen (a := done (deliverKeys (hideBandEntries o (crossed 1 s))))
      (by simp only [doHideBand, ho])

/-- What SHOW of a page without an entry makes of the stack where there is room (R69, R77). -/
theorem shownIn_room {s : State} {r : PageRef} (hentry : entryOf r s = none) (hroom : s.stack.entries.length < 5) :
    shownIn 0 r s = some (addEntering r (topOfBand (menuBand r.owner) s) s) ∧
    shownIn 1 r s = some (addEntering r (topOfBand (menuBand r.owner) s) (match topShown r.owner s with
      | none => s
      | some e => pushFrame r.owner ⟨e.page.id, selectionOf e.page s⟩ s)) := by
  have hmade : makeRoom s = some s := roomBy_room hroom
  refine ⟨by simp [shownIn, showEntry, hentry, hmade], ?_⟩
  have hcalled : shownIn 1 r s = showCalling r s := if_neg (by decide)
  rw [hcalled]
  simp only [showCalling, hentry, hmade, Option.map_some]
  cases topShown r.owner s with
  | none => rfl
  | some e => simp only [topOfBand, entries_pushFrame]

/-- SHOW of a page that has an entry brings it back where it is LEAVING (R70). -/
theorem shownIn_entry {s : State} {r : PageRef} {e : Entry} (mode : Byte) (he : entryOf r s = some e) :
    shownIn mode r s = some (if e.st = .leaving then restoreEntry r s else s) := by
  simp [shownIn, showEntry, showCalling, he, isLeaving]

/-- Settles O26, by the layers above: the row, the room, the addition and what it tells. -/
theorem showPutsThePageOnTheStack : Obligations.ShowPutsThePageOnTheStack := by
  refine ⟨fun s owner page r hopen harg hmenu => ⟨fun hentry hroom => ?_, fun e hentry hfull hold => ?_,
      fun e mode hentry hmode => ?_, fun hkeys hentry hroom hready => ?_⟩,
    fun s r i hentry => ?_, fun s r i => ⟨fun hentry hi => ?_, fun n e hn he => ⟨?_, fun hst => ?_⟩⟩,
    fun s r e he hst => entries_restoreEntry he hst⟩
  · obtain ⟨hplain, hcall⟩ := shownIn_room (s := crossed 3 s) hentry hroom
    exact ⟨exec_showPage_shown hopen harg hmenu (by decide) hplain,
      exec_showPage_shown hopen harg hmenu (by decide) hcall⟩
  · have hmade : makeRoom (crossed 3 s) = some (removeEntry e.page (some hiddenCut) (crossed 3 s)) :=
      roomBy_cut (s := crossed 3 s) hfull hold
    have hnone : entryOf r (crossed 3 s) = none := hentry
    exact exec_showPage_shown hopen harg hmenu (by decide) (by simp [shownIn, showEntry, hnone, hmade])
  · exact exec_showPage_shown hopen harg hmenu (by rcases hmode with rfl | rfl <;> decide)
      (shownIn_entry (s := crossed 3 s) mode hentry)
  · obtain ⟨hplain, -⟩ := shownIn_room (s := crossed 3 s) hentry hroom
    have hidle : deliverKeys (addEntering r (topOfBand (menuBand r.owner) (crossed 3 s)) (crossed 3 s)) =
        addEntering r (topOfBand (menuBand r.owner) (crossed 3 s)) (crossed 3 s) := by
      refine deliverKeys_idle (.inl ?_)
      rw [addEntering_waiting (s := crossed 3 s) _ hready, nav_of_offExchange (offExchange_insertEntry ..)]
      exact hkeys
    refine ⟨_, exec_showPage_shown hopen harg hmenu (by decide) hplain, rfl, ?_⟩
    rw [hidle]
    have hentries := entries_addEntering (s := crossed 3 s) hentry (topOfBand (menuBand r.owner) s)
    rwa [if_pos (show readySlot r (crossed 3 s) = none from hready)] at hentries
  · exact entries_addEntering hentry i
  · exact link_addEntering hentry hi
  · exact link_removeEntry _ hn
  · exact link_restoreEntry he hn

end Sys2Proof.Machine

namespace Sys2Proof.Machine

open Sys2Proof

/-! ## The examination of the entries at a field start (R65) -/

theorem fadeInDue_iff (s : State) (e : Entry) : fadeInDue s e = true ↔ e.band ≠ .slide ∧ e.st = .entering ∧
    readySlot e.page s ≠ none ∧
    ∃ v, e.start = some v ∧ (pageDefinition e.page s).fadeIn ≤ (s.disp.counter - v).toNat := by
  unfold fadeInDue
  cases e.start with
  | none => simp
  | some v =>
    simp only [Bool.and_eq_true, bne_iff_ne, beq_iff_eq, Option.isSome_iff_ne_none, decide_eq_true_eq, and_assoc,
      Option.some.injEq, exists_eq_left']
    rfl

theorem fadeOutDue_iff (s : State) (e : Entry) : fadeOutDue s e = true ↔ e.band ≠ .slide ∧ e.st = .leaving ∧
    ∃ v, e.start = some v ∧ (pageDefinition e.page s).fadeOut ≤ (s.disp.counter - v).toNat := by
  unfold fadeOutDue
  cases e.start with
  | none => simp
  | some v =>
    simp only [Bool.and_eq_true, bne_iff_ne, beq_iff_eq, decide_eq_true_eq, and_assoc, Option.some.injEq,
      exists_eq_left']
    rfl

/-- The examination comes to the lowest entry that is due. -/
theorem nextFade_eq_some (s : State) (e : Entry) : nextFade s = some e ↔ ∃ below above,
    s.stack.entries = below ++ e :: above ∧ (fadeInDue s e = true ∨ fadeOutDue s e = true) ∧
    ∀ x ∈ below, fadeInDue s x = false ∧ fadeOutDue s x = false := by
  unfold nextFade
  rw [List.find?_eq_some_iff_append]
  simp only [Bool.or_eq_true, Bool.not_eq_true', Bool.or_eq_false_iff]
  exact ⟨fun ⟨hdue, below, above, hsplit, hbelow⟩ => ⟨below, above, hsplit, hdue, hbelow⟩,
    fun ⟨below, above, hsplit, hdue, hbelow⟩ => ⟨hdue, below, above, hsplit, hbelow⟩⟩

theorem due_of_nextFade {s : State} {e : Entry} (h : nextFade s = some e) :
    fadeInDue s e = true ∨ fadeOutDue s e = true := by
  obtain ⟨-, -, -, hdue, -⟩ := (nextFade_eq_some s e).1 h
  exact hdue

/-- An entry that is due and ENTERING is due to turn SHOWN. -/
theorem fadeInDue_of_entering {s : State} {e : Entry} (h : nextFade s = some e) (hst : e.st = .entering) :
    fadeInDue s e = true := by
  refine (due_of_nextFade h).resolve_right fun hout => ?_
  obtain ⟨-, hleaving, -⟩ := (fadeOutDue_iff s e).1 hout
  rw [hst] at hleaving
  cases hleaving

/-- An entry that is due and LEAVING is due to be removed. -/
theorem fadeOutDue_of_leaving {s : State} {e : Entry} (h : nextFade s = some e) (hst : e.st = .leaving) :
    fadeInDue s e = false ∧ fadeOutDue s e = true := by
  have hnotIn : ¬ fadeInDue s e = true := fun hin => by
    obtain ⟨-, hentering, -⟩ := (fadeInDue_iff s e).1 hin
    rw [hst] at hentering
    cases hentering
  exact ⟨Bool.eq_false_iff.2 hnotIn, (due_of_nextFade h).resolve_left hnotIn⟩

theorem examineEntry_eq {s : State} {r : PageRef} {e : Entry} (he : entryOf r s = some e) : examineEntry s r =
    if fadeInDue s e = true then turnShown r shownFadeIn s
    else if fadeOutDue s e = true then removeEntry r (some hiddenFaded) s else s := by
  simp only [examineEntry, he]

theorem due_examineEntry (s : State) (r : PageRef) : (examineEntry s r).due = s.due :=
  due_of_clock (clock_of_still (still_examineEntry ..))

/-- The event of an entry that is due takes this entry, and ends the examination where no other fade event stands next
(log 1). -/
theorem fadeEvent_examines {test : State → Entry → Bool} {s : State} {e : Entry}
    (hdue : s.due.contains .pageStack = true) (hnext : nextFade s = some e) (htest : test s e = true) :
    fadeEvent test s = settleField (
      let u := examineEntry s e.page
      if nextEvent u = some .pageStack then u
      else deliverKeys (stackField (u.setDue (u.due.erase .pageStack)))) := by
  have hacts : actBlock (examineEntry s e.page) .pageStack = deliverKeys (stackField
      ((examineEntry s e.page).setDue ((examineEntry s e.page).due.erase .pageStack))) := by
    rw [actBlock, due_examineEntry, if_pos hdue]
    rfl
  simp only [fadeEvent, if_pos hdue, examineNext, hnext, if_pos htest, hacts]

/-- Settles O29, by what the examination does with the entry it comes to. -/
theorem fadesEndAtFieldStarts : Obligations.FadesEndAtFieldStarts := by
  refine ⟨fun s e hreset hdue hnext he => ⟨fun hst => ?_, fun hst => ?_⟩, nextFade_eq_some,
    fun s e => ⟨fadeInDue_iff s e, fadeOutDue_iff s e⟩, fun _ => rfl, fun s r code n e hn he => ?_,
    fun s r code => ?_, fun s r code e he hst => ?_⟩
  · have hin := fadeInDue_of_entering hnext hst
    have hexamined : examineEntry s e.page = turnShown e.page shownFadeIn s := by
      rw [examineEntry_eq he, if_pos hin]
    have hevent := fadeEvent_examines hdue hnext hin
    rw [hexamined] at hevent
    exact congrArg Host.Outcome.next ((awake_of_high hreset _).trans hevent)
  · obtain ⟨hnotIn, hout⟩ := fadeOutDue_of_leaving hnext hst
    have hexamined : examineEntry s e.page = removeEntry e.page (some hiddenFaded) s := by
      rw [examineEntry_eq he, hnotIn, if_neg Bool.false_ne_true, if_pos hout]
    have hevent := fadeEvent_examines hdue hnext hout
    rw [hexamined] at hevent
    exact congrArg Host.Outcome.next ((awake_of_high hreset _).trans hevent)
  · exact ⟨link_turnShown _ hn, link_removeEntry _ hn, examineEntry_eq he⟩
  · rw [stack_turnShown]
    rfl
  · rw [stack_removeEntry code he]
    simp only [closeOrder_eq, hst, true_and]

end Sys2Proof.Machine

namespace Sys2Proof.Machine

open Sys2Proof

/-! ## Return frames (R75 to R78) -/

/-! ### Pushing (R75) -/

section Push

variable {o : Owner} {s : State}

theorem pushFrame_room (f : Frame) (h : (framesOf o s).length < 8) :
    pushFrame o f s = setFrames o (f :: framesOf o s) s := if_pos h

theorem pushFrame_wrap {older : List Frame} {old : Frame} (f : Frame) (h : framesOf o s = older ++ [old])
    (hlength : older.length = 7) : pushFrame o f s =
      post .stackWrap (some o) (some old.page) (buttonField old.button) 0 0 false (setFrames o (f :: older) s) := by
  have hfull : ¬ (older ++ [old]).length < 8 := by simp [hlength]
  simp only [pushFrame, h, if_neg hfull, List.dropLast_concat, List.getLast?_concat]

theorem framesOf_setFrames_same (fs : List Frame) : framesOf o (setFrames o fs s) = fs := by cases o <;> rfl

theorem framesOf_setFrames_other {w : Owner} (hw : w ≠ o) (fs : List Frame) :
    framesOf w (setFrames o fs s) = framesOf w s := by
  cases o with
  | disc =>
    cases w with
    | disc => exact absurd rfl hw
    | player => rfl
  | player =>
    cases w with
    | disc => rfl
    | player => exact absurd rfl hw

end Push

/-! ### What leaves the return stacks alone -/

theorem framesOf_of_entries {s t : State} {es : List Entry} (h : t.stack = { s.stack with entries := es }) (o : Owner) :
    framesOf o t = framesOf o s := by
  cases o <;> simp only [framesOf, h]

section Frames

variable (o : Owner) (s : State)

theorem framesOf_insertEntry (i : Nat) (e : Entry) : framesOf o (insertEntry i e s) = framesOf o s :=
  framesOf_of_entries (stack_insertEntry ..) o

theorem framesOf_turnShown (r : PageRef) (code : Half) : framesOf o (turnShown r code s) = framesOf o s :=
  framesOf_of_entries (stack_turnShown ..) o

theorem framesOf_removeEntry (r : PageRef) (code : Option Half) : framesOf o (removeEntry r code s) = framesOf o s := by
  cases he : entryOf r s with
  | none => rw [removeEntry_none _ he]
  | some e => exact framesOf_of_entries (stack_removeEntry code he) o

theorem framesOf_addEntering (r : PageRef) (i : Nat) : framesOf o (addEntering r i s) = framesOf o s := by
  by_cases hready : readySlot r s = none
  · rw [addEntering_waiting i hready, framesOf_insertEntry]
  · rw [addEntering_ready i hready]
    split
    · rw [framesOf_turnShown, framesOf_insertEntry]
    · exact framesOf_insertEntry ..

theorem framesOf_restoreEntry (r : PageRef) : framesOf o (restoreEntry r s) = framesOf o s := by
  cases he : entryOf r s with
  | none => simp only [restoreEntry, he]
  | some e =>
    rw [restoreEntry_eq he, framesOf_turnShown]
    exact framesOf_of_entries rfl o

theorem framesOf_startLeaving (r : PageRef) : framesOf o (startLeaving r s) = framesOf o s := by
  unfold startLeaving
  split
  · rfl
  split
  · rfl
  split
  · rfl
  split
  · exact framesOf_removeEntry ..
  split
  · exact framesOf_removeEntry ..
  · exact framesOf_of_entries (stack_changeEntry ..) o

theorem framesOf_makeRoom {t : State} (h : makeRoom s = some t) : framesOf o t = framesOf o s := by
  unfold makeRoom roomBy at h
  split at h
  · cases h; rfl
  · obtain ⟨y, -, rfl⟩ := Option.map_eq_some_iff.1 h
    exact framesOf_removeEntry ..

theorem framesOf_replaceBy (acting target : PageRef) : framesOf o (replaceBy acting target s) = framesOf o s := by
  unfold replaceBy
  dsimp only
  split
  · split
    · exact framesOf_startLeaving ..
    · rename_i t hroom
      rw [framesOf_addEntering, framesOf_makeRoom o _ hroom, framesOf_startLeaving]
  · split
    · rw [framesOf_restoreEntry, framesOf_startLeaving]
    · exact framesOf_startLeaving ..

theorem stack_commitButtons (k : Fin 6) (v : Slot) : (commitButtons k v s).stack = s.stack := by
  unfold commitButtons markDirty
  dsimp only
  split <;> rfl

theorem stack_selectIfEnabled (k : Fin 6) (b : Byte) : (selectIfEnabled k b s).stack = s.stack := by
  unfold selectIfEnabled becomeSelection
  split
  · dsimp only
    split
    · split
      · rfl
      · exact stack_commitButtons ..
    · rfl
  · rfl

theorem framesOf_giveReturnSel (r : PageRef) (b : Byte) : framesOf o (giveReturnSel r b s) = framesOf o s := by
  unfold giveReturnSel
  split
  · exact framesOf_of_entries (es := s.stack.entries) (stack_selectIfEnabled ..) o
  · exact framesOf_of_entries rfl o

end Frames

/-! ### GOTO and RETURN (R74, R78) -/

section Goto

variable {s : State} {r target : PageRef}

theorem gotoPage_same (r : PageRef) (s : State) : gotoPage r r s = s := if_pos rfl

theorem gotoPage_other (h : r ≠ target) : gotoPage r target s = replaceBy r target s := if_neg h

theorem replaceBy_known {e : Entry} (he : entryOf target s = some e) : replaceBy r target s =
    if e.st = .leaving then restoreEntry target (startLeaving r s) else startLeaving r s := by
  simp only [replaceBy, he, isLeaving, beq_iff_eq]

theorem replaceBy_new {t : State} (hnone : entryOf target s = none) (hroom : makeRoom (startLeaving r s) = some t) :
    replaceBy r target s = addEntering target (positionAbove (pagesUpTo r s) t) t := by
  simp only [replaceBy, hnone, hroom]

/-- The pages up to an entry are those of the entries below it and its own (R63). -/
theorem pagesUpTo_split {below above : List Entry} {x : Entry} (h : s.stack.entries = below ++ x :: above)
    (hx : x.page = r) (hbelow : ∀ y ∈ below, y.page ≠ r) : pagesUpTo r s = (below ++ [x]).map Entry.page := by
  obtain ⟨hposition, -⟩ := positionOf_split h hx hbelow
  have htake : (below ++ x :: above).take (below.length + 1) = below ++ [x] := by simp [List.take_append]
  simp only [pagesUpTo, hposition, h, htake]

/-- A frame of which RETURN makes use names another page. -/
theorem target_ne_of_usableFrame {f : Frame} (h : usableFrame r s f = true) : r ≠ ⟨r.owner, f.page⟩ := by
  simp only [usableFrame, Bool.and_eq_true, Bool.not_eq_true', beq_eq_false_iff_ne] at h
  obtain ⟨-, hpage⟩ := h
  exact fun hsame => hpage (congrArg PageRef.id hsame).symm

theorem returnFrom_none (h : ∀ f ∈ framesOf r.owner s, usableFrame r s f = false) : returnFrom r s =
    post .returnEmpty (some r.owner) (some r.id) (BitVec.ofNat 16 (framesOf r.owner s).length) 0 0 false
      (setFrames r.owner [] s) := by
  have hnone : (framesOf r.owner s).findIdx? (usableFrame r s) = none := by simpa using h
  simp only [returnFrom, hnone]

variable {skipped rest : List Frame} {f : Frame} (hframes : framesOf r.owner s = skipped ++ f :: rest)
  (hskipped : ∀ x ∈ skipped, usableFrame r s x = false) (husable : usableFrame r s f = true)

include hframes hskipped husable

theorem returnFrom_usable : returnFrom r s = match f.button with
    | none => gotoPage r ⟨r.owner, f.page⟩ (setFrames r.owner rest s)
    | some b => giveReturnSel ⟨r.owner, f.page⟩ b (gotoPage r ⟨r.owner, f.page⟩ (setFrames r.owner rest s)) := by
  have hnone : skipped.findIdx? (usableFrame r s) = none := by simpa using hskipped
  have hfound : (skipped ++ f :: rest).findIdx? (usableFrame r s) = some skipped.length := by
    simp [List.findIdx?_append, hnone, List.findIdx?_cons, husable]
  have hdropped : (skipped ++ f :: rest).drop (skipped.length + 1) = rest := by simp [List.drop_append]
  have htaken : (skipped ++ f :: rest)[skipped.length]? = some f := by simp
  have hother := gotoPage_other (s := setFrames r.owner rest s) (target_ne_of_usableFrame husable)
  cases hbutton : f.button <;> simp only [returnFrom, hframes, hfound, hdropped, htaken, hbutton, hother]

/-- RETURN takes the frame it uses and those above it (R78). -/
theorem framesOf_returnFrom (o : Owner) : framesOf o (returnFrom r s) = framesOf o (setFrames r.owner rest s) := by
  rw [returnFrom_usable hframes hskipped husable, gotoPage_other (target_ne_of_usableFrame husable)]
  cases f.button with
  | none => exact framesOf_replaceBy ..
  | some b => exact (framesOf_giveReturnSel ..).trans (framesOf_replaceBy ..)

end Goto

/-! ### CALL (R76) -/

section Call

variable {s : State} {r target : PageRef}

theorem callPage_same (r : PageRef) (s : State) : callPage r r s = some s := if_pos rfl

theorem callPage_new (hne : r ≠ target) (hnone : entryOf target s = none) : callPage r target s =
    (makeRoom s).map (fun t => addEntering target (topOfBand (menuBand target.owner) t)
      (pushFrame r.owner ⟨r.id, selectionOf r s⟩ t)) := by
  simp only [callPage, if_neg hne, hnone, topOfBand, entries_pushFrame]

theorem callPage_known (hne : r ≠ target) {e : Entry} (he : entryOf target s = some e) : callPage r target s =
    some (if e.st = .leaving then restoreEntry target (pushFrame r.owner ⟨r.id, selectionOf r s⟩ s)
      else pushFrame r.owner ⟨r.id, selectionOf r s⟩ s) := by
  simp only [callPage, if_neg hne, he, isLeaving, beq_iff_eq]

end Call

/-- Settles O31, by the room for the target and the entry it has. -/
theorem returnFramesArePushedAndPopped : Obligations.ReturnFramesArePushedAndPopped := by
  refine ⟨fun o f s => pushFrame_room f, fun o f s older old hframes hlength => ?_, fun r s => returnFrom_none,
    fun r s skipped f rest hframes hskipped husable => ⟨?_, fun o ho => ?_, ?_⟩,
    fun s r target below x above hsplit hx hbelow => ⟨gotoPage_same r s, fun hne hnone => ⟨fun hroom => ?_,
      fun y hfull hold => ?_⟩, fun hne e he => ?_⟩,
    fun s r target => ⟨callPage_same r s, fun hne hnone => ⟨fun hroom => ?_, fun y hfull hold => ?_,
      fun hfull hstay => ?_⟩, fun hne e he => callPage_known hne he⟩⟩
  · exact pushFrame_wrap f hframes hlength
  · rw [framesOf_returnFrom hframes hskipped husable, framesOf_setFrames_same]
  · rw [framesOf_returnFrom hframes hskipped husable, framesOf_setFrames_other ho]
  · exact returnFrom_usable hframes hskipped husable
  · rw [gotoPage_other hne, replaceBy_new hnone (roomBy_room hroom), pagesUpTo_split hsplit hx hbelow]
    rfl
  · rw [gotoPage_other hne, replaceBy_new hnone (roomBy_cut hfull hold), pagesUpTo_split hsplit hx hbelow]
    rfl
  · rw [gotoPage_other hne, replaceBy_known he]
  · rw [callPage_new hne hnone, makeRoom, roomBy_room hroom, Option.map_some]
  · rw [callPage_new hne hnone, makeRoom, roomBy_cut hfull hold, Option.map_some]
  · rw [callPage_new hne hnone, makeRoom, roomBy_none hfull hstay, Option.map_none]

end Sys2Proof.Machine

namespace Sys2Proof.Machine

open Sys2Proof

/-! ## The Slide Sequencer: searches, advances, transitions (R115 to R122) -/

/-! ### Requests leave everything else alone, and make no page READY (R49, R118) -/

theorem residentSlot_takeUp_none {r : PageRef} {s : State} (h : residentSlot r s = none) :
    residentSlot r (takeUp s) = none := by
  rcases takesUp_takeUp s with ⟨rest, ht⟩ | ⟨rest, p, k, -, ht⟩
  · rw [ht]
    exact h
  · rw [ht]
    refine Option.eq_none_iff_forall_ne_some.2 fun j hj => ?_
    have hformer : residentSlot r (s.setExch { s.exch with queue := rest }) = some j :=
      (started_startExchange p k _).resident r j hj
    exact Option.some_ne_none j (hformer.symm.trans h)

theorem residentSlot_requestPage_none {r : PageRef} {s : State} (w : Requester) (p : PageRef)
    (h : residentSlot r s = none) : residentSlot r (requestPage w p s) = none := by
  unfold requestPage
  split
  · exact h
  split
  · exact h
  split
  · exact h
  · exact residentSlot_takeUp_none (s := s.setExch _) h

theorem resident_of_readySlot {r : PageRef} {s : State} (h : readySlot r s ≠ none) : (pageEntry r s).slot ≠ none := by
  obtain ⟨k, hk⟩ := Option.ne_none_iff_exists'.1 h
  obtain ⟨hresident, -⟩ := readySlot_eq_some.1 hk
  rw [show (pageEntry r s).slot = some k from hresident]
  exact Option.some_ne_none k

theorem readySlot_of_not_resident {r : PageRef} {s : State} (h : residentSlot r s = none) : readySlot r s = none := by
  simp only [readySlot, h]

/-- A request brings no page into a READY slot. -/
theorem readySlot_requestPage_none {r : PageRef} {s : State} (w : Requester) (h : readySlot r s = none) :
    readySlot r (requestPage w r s) = none := by
  cases hres : residentSlot r s with
  | none => exact readySlot_of_not_resident (residentSlot_requestPage_none w r hres)
  | some k =>
    have hresident : (pageEntry r s).slot ≠ none := fun hnone => Option.some_ne_none k (hres.symm.trans hnone)
    rwa [requestPage_resident hresident]

theorem isSlidePage_of_offExchange {s t : State} (h : offExchange t = offExchange s) (r : PageRef) :
    isSlidePage r t = isSlidePage r s := by
  obtain ⟨hdefined, hkind, -⟩ := PageEntry.mk.injEq .. ▸ pageEntry_of_offExchange h r
  rw [isSlidePage, isSlidePage, hdefined, hkind]

/-! ### The wanted page (R118) -/

theorem offExchange_unwanted (w : Option PageRef) (s : State) : offExchange (unwanted w s) = offExchange s := by
  cases w with
  | none => rfl
  | some w => exact offExchange_withdrawRequest ..

theorem stack_unwanted (w : Option PageRef) (s : State) : (unwanted w s).stack = s.stack :=
  stack_of_offExchange (offExchange_unwanted w s)

theorem seqr_unwanted (w : Option PageRef) (s : State) : (unwanted w s).seqr = s.seqr :=
  seqr_of_offExchange (offExchange_unwanted w s)

theorem wantNone_setSeqr (q : Sequencer) (s : State) :
    wantNone (s.setSeqr q) = unwanted q.wanted (s.setSeqr { q with wanted := none }) := by
  rw [wantNone_eq, State.setSeqr_seqr]
  cases q.wanted <;> rfl

/-- The page becomes the wanted page: the former one's request is withdrawn first. -/
theorem wantPage_setSeqr (r : PageRef) (q : Sequencer) (s : State) : wantPage r (s.setSeqr q) =
    requestPage .sequencer r ((if q.wanted = some r then id else unwanted q.wanted)
      (s.setSeqr { q with wanted := some r })) := by
  unfold wantPage
  rw [State.setSeqr_seqr]
  cases q.wanted with
  | none => rfl
  | some w =>
    by_cases hw : w = r
    · simp only [if_pos hw, if_pos (congrArg some hw)]
      rfl
    · simp only [if_neg hw, if_neg (fun h => hw (Option.some.inj h))]
      rfl

/-- What changes the wanted page and the requests alone. -/
structure WantsOnly (s t : State) : Prop where
  stack : t.stack = s.stack
  seqr : ∃ w, t.seqr = { s.seqr with wanted := w }

theorem WantsOnly.of_eq {s t u : State} (h : WantsOnly u t) (hstack : u.stack = s.stack) (hseqr : u.seqr = s.seqr) :
    WantsOnly s t := ⟨h.stack.trans hstack, hseqr ▸ h.seqr⟩

theorem seqr_wantPage (r : PageRef) (s : State) : (wantPage r s).seqr = { s.seqr with wanted := some r } := by
  unfold wantPage
  rw [seqr_of_offExchange (offExchange_requestPage ..)]
  dsimp only
  cases s.seqr.wanted with
  | none => rfl
  | some w =>
    dsimp only
    split <;> rfl

theorem seqr_wantNone (s : State) : (wantNone s).seqr = { s.seqr with wanted := none } := by
  rw [wantNone_eq]; rfl

theorem stack_wantNone (s : State) : (wantNone s).stack = s.stack := by
  rw [wantNone_eq]
  exact stack_unwanted ..

theorem wantsOnly_wantNone (s : State) : WantsOnly s (wantNone s) := ⟨stack_wantNone s, none, seqr_wantNone s⟩

theorem wantsOnly_wantPage (r : PageRef) (s : State) : WantsOnly s (wantPage r s) := by
  refine ⟨?_, some r, seqr_wantPage r s⟩
  unfold wantPage
  rw [stack_of_offExchange (offExchange_requestPage ..)]
  split
  · rfl
  · split <;> rfl

/-! ### The prefetch (R120) -/

theorem prefetch_wants {s : State} {j : Nat} {r : PageRef} (hfound : searchFrom false s.seqr.index s = .entry j)
    (hpage : pageAt j s = some r) (hshown : s.seqr.shown ≠ some r) : prefetch s = wantPage r s := by
  simp only [prefetch, hfound, hpage, if_neg hshown]

/-- The prefetch wants the page that the search finds, or none. -/
theorem prefetch_cases (s : State) : prefetch s = wantNone s ∨ ∃ j r, searchFrom false s.seqr.index s = .entry j ∧
    pageAt j s = some r ∧ s.seqr.shown ≠ some r ∧ prefetch s = wantPage r s := by
  cases hfound : searchFrom false s.seqr.index s with
  | entry j =>
    cases hpage : pageAt j s with
    | none => exact .inl (by simp only [prefetch, hfound, hpage])
    | some r =>
      by_cases hshown : s.seqr.shown = some r
      · exact .inl (by simp only [prefetch, hfound, hpage, if_pos hshown])
      · exact .inr ⟨j, r, rfl, hpage, hshown, prefetch_wants hfound hpage hshown⟩
  | offEnd => exact .inl (by simp only [prefetch, hfound])
  | offStart => exact .inl (by simp only [prefetch, hfound])
  | nothing => exact .inl (by simp only [prefetch, hfound])

theorem wantsOnly_prefetch (s : State) : WantsOnly s (prefetch s) := by
  rcases prefetch_cases s with hnone | ⟨-, r, -, -, -, hwants⟩
  · rw [hnone]
    exact wantsOnly_wantNone s
  · rw [hwants]
    exact wantsOnly_wantPage r s

/-! ### An advance completes (R120) -/

/-- The show once an advance has completed: its hold is loaded, the wait and the transition are over. -/
def advanced (q : Sequencer) (hold : Half) (fresh : Bool) : Sequencer :=
  { q with
    latch := hold, counter := hold, latchMark := false, trans := none
    st := if q.pendingPause = true then .paused else .holding
    pendingPause := false, holdFresh := fresh, wanted := none }

section Advance

variable {s : State} {e : SlideEntry} (he : (runningEntries s)[s.seqr.index]? = some e) (code : Half)

include he

theorem completeAdvance_eq : completeAdvance code s = prefetch (post .slideAdvanced (some s.seqr.owner)
    (s.seqr.shown.map PageRef.id) (BitVec.ofNat 16 s.seqr.index) code (BitVec.ofNat 32 s.seqr.list.val) false
    (unwanted s.seqr.wanted (s.setSeqr (advanced s.seqr e.hold (s.due.contains .sequencer))))) := by
  simp only [completeAdvance, he, updateSeq, wantNone_setSeqr, seqNotice, seqr_unwanted]
  rfl

theorem wantsOnly_completeAdvance :
    WantsOnly (s.setSeqr (advanced s.seqr e.hold (s.due.contains .sequencer))) (completeAdvance code s) := by
  rw [completeAdvance_eq he]
  refine (wantsOnly_prefetch _).of_eq ?_ ?_
  · rw [post_eq_setLink]
    exact stack_unwanted ..
  · rw [post_eq_setLink]
    exact seqr_unwanted ..

theorem stack_completeAdvance : (completeAdvance code s).stack = s.stack := (wantsOnly_completeAdvance he code).stack

/-- Of the show only the wanted page, which the prefetch chooses, is left open. -/
theorem seqr_completeAdvance : (completeAdvance code s).seqr =
    { advanced s.seqr e.hold (s.due.contains .sequencer) with wanted := (completeAdvance code s).seqr.wanted } := by
  obtain ⟨-, w, hw⟩ := wantsOnly_completeAdvance he code
  rw [hw]
  rfl

end Advance

end Sys2Proof.Machine

namespace Sys2Proof.Machine

open Sys2Proof

/-! ## Slides on the stack (R79) -/

/-! ### What adding and removing a slide leaves alone -/

/-- The show, the field counter and the blocks that are due stay. -/
structure ShowKept (s t : State) : Prop where
  seqr : t.seqr = s.seqr
  disp : t.disp = s.disp
  due : t.due = s.due

theorem ShowKept.trans {s t u : State} (h : ShowKept s t) (k : ShowKept t u) : ShowKept s u :=
  ⟨k.seqr.trans h.seqr, k.disp.trans h.disp, k.due.trans h.due⟩

theorem ShowKept.of_offExchange {s t : State} (h : offExchange t = offExchange s) : ShowKept s t :=
  ⟨seqr_of_offExchange h, disp_of_offExchange h, view_of_offExchange h State.due fun _ => rfl⟩

theorem showKept_removeEntry (r : PageRef) (code : Option Half) (s : State) : ShowKept s (removeEntry r code s) := by
  obtain ⟨hseqr, hdisp, -⟩ := removeEntry_keeps r code s
  exact ⟨hseqr, hdisp, due_of_clock (clock_of_still (still_removeEntry ..))⟩

theorem showKept_removeBeforeSlide (r : PageRef) (code : Half) (s : State) :
    ShowKept s (removeBeforeSlide r code s) :=
  (showKept_removeEntry r (some code) s).trans (.of_offExchange (offExchange_removeBeforeSlide r code s))

theorem showKept_changeEntry (r : PageRef) (f : Entry → Entry) (s : State) : ShowKept s (changeEntry r f s) := by
  obtain ⟨hseqr, hdisp, hdue⟩ := ShowKept.of_offExchange (offExchange_changeEntry r f s)
  exact ⟨hseqr, hdisp, hdue⟩

theorem showKept_pageNotice (kind : NoticeKind) (r : PageRef) (n : Nat) (code : Half) (s : State) :
    ShowKept s (pageNotice kind r n code s) := by
  rw [pageNotice, post_eq_setLink]
  exact ⟨rfl, rfl, rfl⟩

theorem showKept_turnShown (r : PageRef) (code : Half) (s : State) : ShowKept s (turnShown r code s) :=
  (showKept_changeEntry ..).trans (showKept_pageNotice ..)

theorem offExchange_insertSlide (i : Nat) (e : Entry) (s : State) : offExchange (insertSlide i e s) =
    offExchange (setEntries (s.stack.entries.take i ++ [e] ++ s.stack.entries.drop i) s) :=
  (offExchange_takeUp _).trans (offExchange_insertEntry i e s)

theorem stack_insertSlide (i : Nat) (e : Entry) (s : State) : (insertSlide i e s).stack =
    { s.stack with entries := s.stack.entries.take i ++ [e] ++ s.stack.entries.drop i } :=
  stack_of_offExchange (offExchange_insertSlide i e s)

theorem showKept_insertSlide (i : Nat) (e : Entry) (s : State) : ShowKept s (insertSlide i e s) := by
  obtain ⟨hseqr, hdisp, hdue⟩ := ShowKept.of_offExchange (offExchange_insertSlide i e s)
  exact ⟨hseqr, hdisp, hdue⟩

theorem showKept_endSlideTransition (out r : PageRef) (s : State) : ShowKept s (endSlideTransition out r s) := by
  unfold endSlideTransition
  split
  · exact (showKept_removeEntry ..).trans (showKept_turnShown ..)
  · exact showKept_turnShown ..

/-! ### Room for a slide (R68, R79) -/

section Room

variable {s : State}

theorem slideRoom_room (h : s.stack.entries.length < 5) : slideRoom s = some s := roomBy_room h

theorem slideRoom_none (h : 5 ≤ s.stack.entries.length) (hnone : ∀ y ∈ s.stack.entries, y.st ≠ .leaving) :
    slideRoom s = none := roomBy_none h hnone

/-- After the cut of the oldest LEAVING entry there is room: it is not cut again. -/
theorem slideRoom_cut {y : Entry} (h : s.stack.entries.length = 5) (hy : oldestLeaving s = some y) :
    slideRoom s = slideRoom (removeBeforeSlide y.page hiddenCut s) := by
  obtain ⟨hmem, -⟩ := mem_of_oldestLeaving hy
  obtain ⟨x, hx⟩ := entryOf_of_mem hmem
  have hlength := length_removeBeforeSlide hiddenCut hx
  rw [slideRoom_room (s := removeBeforeSlide y.page hiddenCut s) (by omega)]
  exact roomBy_cut (by omega) hy

end Room

/-! ### A slide at full level (R117) -/

/-- The entries with a slide added on top of its band at full level. -/
def slideAlone (r : PageRef) (now : Word) (es : List Entry) : List Entry :=
  let i := (es.filter (fun x => x.band == .slide)).length
  es.take i ++ [⟨r, .slide, .shown, some now, 0, .plain⟩] ++ es.drop i

theorem topOfBand_slide (s : State) :
    topOfBand .slide s = (s.stack.entries.filter (fun x => x.band == .slide)).length := by
  unfold topOfBand
  congr 1
  refine List.filter_congr fun x _ => ?_
  cases x.band <;> rfl

theorem addSlide_room {s : State} (r : PageRef) (h : s.stack.entries.length < 5) : ∃ t, addSlide r s = some t ∧
    ShowKept s t ∧ t.stack.entries = slideAlone r s.disp.counter s.stack.entries := by
  refine ⟨_, by rw [addSlide, slideRoom_room h]; rfl, (showKept_insertSlide ..).trans (showKept_pageNotice ..), ?_⟩
  rw [stack_pageNotice, stack_insertSlide, topOfBand_slide]
  rfl

/-- The show once a slide has been brought in. -/
def landed (r : PageRef) (e : SlideEntry) (fresh : Bool) (q : Sequencer) : Sequencer :=
  advanced { q with shown := some r } e.hold fresh

section BringIn

variable {s : State} {r : PageRef}

theorem bringInFull_room {e : SlideEntry} (he : (runningEntries s)[s.seqr.index]? = some e)
    (h : s.stack.entries.length < 5) :
    (bringInFull r s).stack.entries = slideAlone r s.disp.counter s.stack.entries ∧
    (bringInFull r s).seqr = { landed r e (s.due.contains .sequencer) s.seqr with
      wanted := (bringInFull r s).seqr.wanted } := by
  obtain ⟨t, ht, ⟨hseqr, -, hdue⟩, hentries⟩ := addSlide_room r h
  have hbring : bringInFull r s = completeAdvance (transCode .cut) (t.setSeqr { s.seqr with shown := some r }) := by
    simp only [bringInFull, ht, updateSeq, hseqr]
  have he' : (runningEntries (t.setSeqr { s.seqr with shown := some r }))[s.seqr.index]? = some e := he
  rw [hbring]
  refine ⟨(congrArg PageStack.entries (stack_completeAdvance he' _)).trans hentries, ?_⟩
  rw [← hdue]
  exact seqr_completeAdvance he' _

theorem bringInFull_full (h : 5 ≤ s.stack.entries.length) (hnone : ∀ y ∈ s.stack.entries, y.st ≠ .leaving) :
    bringInFull r s = s := by
  simp only [bringInFull, addSlide, slideRoom_none h hnone, Option.map_none]

theorem bringInFull_cut {y : Entry} (h : s.stack.entries.length = 5) (hy : oldestLeaving s = some y) :
    bringInFull r s = bringInFull r (removeBeforeSlide y.page hiddenCut s) := by
  obtain ⟨hmem, -⟩ := mem_of_oldestLeaving hy
  obtain ⟨x, hx⟩ := entryOf_of_mem hmem
  have hlength := length_removeBeforeSlide hiddenCut hx
  obtain ⟨t, ht, -⟩ := addSlide_room r (s := removeBeforeSlide y.page hiddenCut s) (by omega)
  have hadd : addSlide r s = some t := by
    rw [← ht, addSlide, addSlide, slideRoom_cut h hy]
  simp only [bringInFull, hadd, ht]

end BringIn

/-! ### The place above an entry (R63) -/

/-- Where no page has two entries, the pages below and above an entry are others. -/
theorem pages_ne_of_split {es below above : List Entry} {x : Entry} {p : PageRef} (hx : x.page = p)
    (hsplit : es = below ++ x :: above) (hnodup : (es.map Entry.page).Nodup) :
    (∀ y ∈ below, y.page ≠ p) ∧ ∀ y ∈ above, y.page ≠ p := by
  rw [hsplit, List.map_append, List.map_cons, List.nodup_middle, List.nodup_cons, hx, List.mem_append, not_or] at hnodup
  obtain ⟨⟨hbelow, habove⟩, -⟩ := hnodup
  exact ⟨fun y hy hp => hbelow (hp ▸ List.mem_map_of_mem hy), fun y hy hp => habove (hp ▸ List.mem_map_of_mem hy)⟩

theorem positionAbove_split {t : State} {p : PageRef} {below above : List Entry} {x : Entry}
    (hsplit : t.stack.entries = below ++ x :: above) (hx : x.page = p)
    (hnodup : (t.stack.entries.map Entry.page).Nodup) : positionAbove (pagesUpTo p t) t = below.length + 1 := by
  obtain ⟨hbelow, -⟩ := pages_ne_of_split hx hsplit hnodup
  have hjoined : t.stack.entries = (below ++ [x]) ++ above := hsplit.trans (List.append_cons ..)
  rw [hjoined, List.map_append, List.nodup_append] at hnodup
  obtain ⟨-, -, hapart⟩ := hnodup
  have hkept : (below ++ [x]).filter (fun e => ((below ++ [x]).map Entry.page).contains e.page) = below ++ [x] :=
    List.filter_eq_self.2 fun y hy => List.contains_iff_mem.2 (List.mem_map_of_mem hy)
  have hothers : above.filter (fun e => ((below ++ [x]).map Entry.page).contains e.page) = [] :=
    List.filter_eq_nil_iff.2 fun y hy hcontains =>
      hapart _ (List.contains_iff_mem.1 hcontains) _ (List.mem_map_of_mem hy) rfl
  rw [positionAbove, pagesUpTo_split hsplit hx hbelow, hjoined, List.filter_append, hkept, hothers]
  simp

/-! ### Transitions start (R119) -/

section Transition

variable {s : State} {p r : PageRef} {e : SlideEntry}

theorem startTransition_cut (h : e.kind = .cut ∨ e.length = 0) : startTransition p r e s = cutTo p r s := if_pos h

/-- A CUT puts the slide in the place of the shown one. -/
theorem cutTo_entries (he : (runningEntries s)[s.seqr.index]? = some e) {x : Entry} (hx : entryOf p s = some x)
    (hst : x.st ≠ .leaving) (hlength : s.stack.entries.length ≤ 5) :
    (cutTo p r s).stack.entries = slideAlone r s.disp.counter (s.stack.entries.eraseP (fun y => y.page == p)) ∧
    (cutTo p r s).seqr =
      { landed r e (s.due.contains .sequencer) s.seqr with wanted := (cutTo p r s).seqr.wanted } := by
  obtain ⟨hseqr, hdisp, hdue⟩ := showKept_removeBeforeSlide p hiddenSlide s
  have hshorter := length_removeBeforeSlide hiddenSlide hx
  have hentries : (removeBeforeSlide p hiddenSlide s).stack.entries =
      s.stack.entries.eraseP (fun y => y.page == p) := by
    rw [stack_removeBeforeSlide hiddenSlide hx]
    exact closeOrder_of_not_leaving hst _
  have hcut : cutTo p r s =
      bringInFull r ((removeBeforeSlide p hiddenSlide s).setSeqr { s.seqr with shown := none }) := by
    simp only [cutTo, updateSeq, hseqr]
  generalize removeBeforeSlide p hiddenSlide s = t at hdisp hdue hshorter hentries hcut
  have he' : (runningEntries (t.setSeqr { s.seqr with shown := none }))[s.seqr.index]? = some e := he
  obtain ⟨halone, hlanded⟩ := bringInFull_room (r := r) he' (show t.stack.entries.length < 5 by omega)
  rw [hcut]
  refine ⟨halone.trans ?_, ?_⟩
  · rw [← hdisp, ← hentries]
    rfl
  · rw [← hdue]
    exact hlanded

section Slow

variable (hkind : e.kind ≠ .cut) (hlen : e.length ≠ 0)

include hkind hlen

theorem startTransition_slow : startTransition p r e s = match addIncoming p r s with
    | none => cutTo p r s
    | some t => wantNone (t.setSeqr { t.seqr with
        st := .transitioning, trans := some ⟨e.kind, e.length, t.disp.counter⟩ }) := by
  rw [startTransition, if_neg (fun h => h.elim hkind hlen)]
  cases addIncoming p r s <;> rfl

theorem startTransition_full (h : 5 ≤ s.stack.entries.length) (hnone : ∀ y ∈ s.stack.entries, y.st ≠ .leaving) :
    startTransition p r e s = startTransition p r { e with kind := .cut } s := by
  rw [startTransition_slow hkind hlen, startTransition_cut (.inl rfl)]
  simp only [addIncoming, slideRoom_none h hnone, Option.map_none]

theorem startTransition_afterCut {y : Entry} (h : s.stack.entries.length = 5) (hy : oldestLeaving s = some y) :
    startTransition p r e s = startTransition p r e (removeBeforeSlide y.page hiddenCut s) := by
  obtain ⟨hmem, -⟩ := mem_of_oldestLeaving hy
  obtain ⟨x, hx⟩ := entryOf_of_mem hmem
  have hlength := length_removeBeforeSlide hiddenCut hx
  have hroom := slideRoom_room (s := removeBeforeSlide y.page hiddenCut s) (by omega)
  simp only [startTransition_slow hkind hlen, addIncoming, (slideRoom_cut h hy).trans hroom, hroom, Option.map_some]

end Slow

/-- The slide that leaves takes the role OUTGOING. -/
theorem entries_outgoing {below above : List Entry} {x : Entry} (hx : x.page = p)
    (hsplit : s.stack.entries = below ++ x :: above) (hnodup : (s.stack.entries.map Entry.page).Nodup) :
    (changeEntry p (fun e => { e with role := .outgoing }) s).stack.entries =
      below ++ { x with role := .outgoing } :: above := by
  obtain ⟨hbelow, habove⟩ := pages_ne_of_split hx hsplit hnodup
  rw [stack_changeEntry]
  simp only [hsplit, List.map_append, List.map_cons, if_pos hx, map_of_page_ne _ hbelow, map_of_page_ne _ habove]

/-- The incoming slide is added right above the outgoing one. -/
theorem addIncoming_eq (r : PageRef) {below above : List Entry} {x : Entry} (hx : x.page = p)
    (hsplit : s.stack.entries = below ++ x :: above) (hnodup : (s.stack.entries.map Entry.page).Nodup)
    (hroom : s.stack.entries.length < 5) : addIncoming p r s = some (insertSlide (below.length + 1)
      ⟨r, .slide, .entering, some s.disp.counter, 0, .incoming⟩
      (changeEntry p (fun e => { e with role := .outgoing }) s)) := by
  have hentries := entries_outgoing hx hsplit hnodup
  have hpages : (below ++ { x with role := .outgoing } :: above).map Entry.page = s.stack.entries.map Entry.page := by
    simp [hsplit]
  have hposition := positionAbove_split hentries hx (by rw [hentries, hpages]; exact hnodup)
  have hdisp := (showKept_changeEntry p (fun e => { e with role := .outgoing }) s).disp
  simp only [addIncoming, slideRoom_room hroom, Option.map_some, hposition, fieldNow, hdisp]

theorem addIncoming_room (r : PageRef) {below above : List Entry} {x : Entry} (hx : x.page = p)
    (hsplit : s.stack.entries = below ++ x :: above) (hnodup : (s.stack.entries.map Entry.page).Nodup)
    (hroom : s.stack.entries.length < 5) : ∃ t, addIncoming p r s = some t ∧ ShowKept s t ∧
      t.stack.entries = below ++ { x with role := .outgoing } ::
        ⟨r, .slide, .entering, some s.disp.counter, 0, .incoming⟩ :: above := by
  refine ⟨_, addIncoming_eq r hx hsplit hnodup hroom, (showKept_changeEntry ..).trans (showKept_insertSlide ..), ?_⟩
  rw [stack_insertSlide, entries_outgoing hx hsplit hnodup]
  simp [List.take_append, List.drop_append, List.take_of_length_le, List.drop_of_length_le]

theorem startTransition_room (hkind : e.kind ≠ .cut) (hlen : e.length ≠ 0) {below above : List Entry} {x : Entry}
    (hx : x.page = p) (hsplit : s.stack.entries = below ++ x :: above)
    (hnodup : (s.stack.entries.map Entry.page).Nodup) (hroom : s.stack.entries.length < 5) :
    (startTransition p r e s).stack.entries = below ++ { x with role := .outgoing } ::
      ⟨r, .slide, .entering, some s.disp.counter, 0, .incoming⟩ :: above ∧
    (startTransition p r e s).seqr = { s.seqr with
      st := .transitioning, trans := some ⟨e.kind, e.length, s.disp.counter⟩, wanted := none } := by
  obtain ⟨t, ht, ⟨hseqr, hdisp, -⟩, hentries⟩ := addIncoming_room r hx hsplit hnodup hroom
  simp only [startTransition_slow hkind hlen, ht, hseqr, hdisp]
  exact ⟨(congrArg PageStack.entries (stack_wantNone _)).trans hentries, seqr_wantNone _⟩

end Transition

end Sys2Proof.Machine

namespace Sys2Proof.Machine

open Sys2Proof

/-! ## Searches and steps (R115, R117, R122) -/

/-! ### What a search finds (R115) -/

section Search

variable {s : State} {j : Nat} {e : SlideEntry}

theorem pageAt_eq (he : (runningEntries s)[j]? = some e) : pageAt j s = some ⟨s.seqr.owner, e.page⟩ := by
  simp only [pageAt, he]
  rfl

/-- A search finds entries of SLIDE pages only. -/
theorem isSlidePage_of_found {back : Bool} {i : Nat} {r : PageRef} (hfound : searchFrom back i s = .entry j)
    (hpage : pageAt j s = some r) : isSlidePage r s = true := by
  unfold searchFrom at hfound
  dsimp only at hfound
  split at hfound
  · rename_i k hk
    cases hfound
    have hplayable := List.find?_some hk
    simpa only [playable, hpage] using hplayable
  · split at hfound
    · cases hfound
    · split at hfound <;> cases hfound

theorem runningEntries_of_seqr {t : State} (hlists : t.seqr.lists = s.seqr.lists) (howner : t.seqr.owner = s.seqr.owner)
    (hlist : t.seqr.list = s.seqr.list) : runningEntries t = runningEntries s := by
  simp only [runningEntries, slideList, hlists, howner, hlist]

end Search

/-! ### The page of the entry found is awaited (R117) -/

section BringIn

variable {s : State} {e : SlideEntry} (he : (runningEntries s)[s.seqr.index]? = some e)

include he

theorem tryBringIn_unready (h : readySlot ⟨s.seqr.owner, e.page⟩ s = none) : tryBringIn s = s := by
  simp [tryBringIn, he, slidePage, slideReady, h]

theorem tryBringIn_ready {r : PageRef} (hr : r = ⟨s.seqr.owner, e.page⟩) (h : readySlot r s ≠ none)
    (hslide : isSlidePage r s = true) : tryBringIn s = match s.seqr.shown with
      | none => bringInFull r s
      | some p => if p = r then completeAdvance advancedNone s else startTransition p r e s := by
  have hpage : slidePage e s = r := hr.symm
  have hready : slideReady r s = true := by simp [slideReady, hslide, Option.isSome_iff_ne_none, h]
  cases hshown : s.seqr.shown <;> simp only [tryBringIn, he, hpage, hready, if_true, hshown]

end BringIn

/-- The show moves to an entry: its page becomes the wanted page, the former one's request is withdrawn (R115, R118). -/
def unrequested (back : Bool) (j : Nat) (r : PageRef) (s : State) : State :=
  (if s.seqr.wanted = some r then id else unwanted s.seqr.wanted)
    (s.setSeqr { s.seqr with index := j, back := back, st := .waiting, wanted := some r })

/-- The show waits for the page of an entry, which is requested. -/
def awaiting (back : Bool) (j : Nat) (r : PageRef) (s : State) : State :=
  requestPage .sequencer r (unrequested back j r s)

section Move

variable {s : State}

theorem offExchange_unrequested (back : Bool) (j : Nat) (r : PageRef) (s : State) :
    offExchange (unrequested back j r s) =
      offExchange (s.setSeqr { s.seqr with index := j, back := back, st := .waiting, wanted := some r }) := by
  unfold unrequested
  split
  · rfl
  · exact offExchange_unwanted ..

theorem seqr_unrequested (back : Bool) (j : Nat) (r : PageRef) (s : State) : (unrequested back j r s).seqr =
    { s.seqr with index := j, back := back, st := .waiting, wanted := some r } :=
  seqr_of_offExchange (offExchange_unrequested back j r s)

theorem seqr_awaiting (back : Bool) (j : Nat) (r : PageRef) (s : State) : (awaiting back j r s).seqr =
    { s.seqr with index := j, back := back, st := .waiting, wanted := some r } :=
  (seqr_of_offExchange (offExchange_requestPage ..)).trans (seqr_unrequested back j r s)

theorem readySlot_unwanted (w : Option PageRef) (r : PageRef) (s : State) :
    readySlot r (unwanted w s) = readySlot r s := by
  cases w <;> rfl

theorem readySlot_unrequested (back : Bool) (j : Nat) (r : PageRef) (s : State) :
    readySlot r (unrequested back j r s) = readySlot r s := by
  unfold unrequested
  split
  · rfl
  · rw [readySlot_unwanted]
    rfl

/-- A READY page is resident: nothing is requested. -/
theorem awaiting_ready (back : Bool) (j : Nat) {r : PageRef} (h : readySlot r s ≠ none) :
    awaiting back j r s = unrequested back j r s :=
  requestPage_resident (resident_of_readySlot (by rwa [readySlot_unrequested]))

theorem moveTo_eq {j : Nat} {r : PageRef} (back : Bool) (hpage : pageAt j s = some r) :
    moveTo j back s = tryBringIn (awaiting back j r s) := by
  simp only [moveTo, hpage, updateSeq, wantPage_setSeqr]
  rfl

variable {back : Bool} {j : Nat} {e : SlideEntry} {r : PageRef} (hfound : searchFrom back s.seqr.index s = .entry j)
  (he : (runningEntries s)[j]? = some e) (hr : r = ⟨s.seqr.owner, e.page⟩)

include hfound he hr

theorem searchMove_entry : searchMove back s = tryBringIn (awaiting back j r s) := by
  simp only [searchMove, hfound]
  exact moveTo_eq back (hr ▸ pageAt_eq he)

omit hfound hr in
theorem entry_awaiting (back : Bool) (r : PageRef) :
    (runningEntries (awaiting back j r s))[(awaiting back j r s).seqr.index]? = some e := by
  rw [runningEntries_of_seqr (s := s) (by rw [seqr_awaiting]) (by rw [seqr_awaiting]) (by rw [seqr_awaiting]),
    seqr_awaiting]
  exact he

theorem searchMove_unready (h : readySlot r s = none) : searchMove back s = awaiting back j r s := by
  rw [searchMove_entry hfound he hr]
  refine tryBringIn_unready (entry_awaiting he back r) ?_
  rw [seqr_awaiting, ← hr]
  exact readySlot_requestPage_none _ (by rwa [readySlot_unrequested])

theorem searchMove_ready (h : readySlot r s ≠ none) : searchMove back s = match s.seqr.shown with
    | none => bringInFull r (awaiting back j r s)
    | some p => if p = r then completeAdvance advancedNone (awaiting back j r s)
        else startTransition p r e (awaiting back j r s) := by
  have hready : readySlot r (awaiting back j r s) ≠ none := by rwa [awaiting_ready back j h, readySlot_unrequested]
  have hslide : isSlidePage r (awaiting back j r s) = true := by
    have hoff : offExchange (awaiting back j r s) = _ :=
      (offExchange_requestPage ..).trans (offExchange_unrequested back j r s)
    rw [isSlidePage_of_offExchange hoff r]
    exact isSlidePage_of_found hfound (hr ▸ pageAt_eq he)
  rw [searchMove_entry hfound he hr,
    tryBringIn_ready (entry_awaiting he back r) (by rw [seqr_awaiting]; exact hr) hready hslide, seqr_awaiting]

end Move

/-! ### Nothing is found (R115, R125) -/

section Off

variable {s : State} {back : Bool}

theorem searchMove_offEnd {p : PageRef} (hfound : searchFrom back s.seqr.index s = .offEnd)
    (hshown : s.seqr.shown = some p) : searchMove back s = post .slideEnd (some s.seqr.owner) (some p.id)
      (BitVec.ofNat 16 s.seqr.index) 0 (BitVec.ofNat 32 s.seqr.list.val) false
      (unwanted s.seqr.wanted (s.setSeqr { s.seqr with st := .ended, wanted := none })) := by
  simp only [searchMove, hfound, hshown, updateSeq, wantNone_setSeqr, seqNotice, seqr_unwanted]
  rfl

theorem searchMove_offStart (hfound : searchFrom back s.seqr.index s = .offStart) (hshown : s.seqr.shown ≠ none) :
    searchMove back s = s := by
  simp [searchMove, hfound, hshown]

theorem searchMove_stops (h : searchFrom back s.seqr.index s = .nothing ∨ s.seqr.shown = none ∧
    (searchFrom back s.seqr.index s = .offEnd ∨ searchFrom back s.seqr.index s = .offStart)) :
    searchMove back s = stopShow stoppedEmpty s := by
  rcases h with hfound | ⟨hshown, hfound | hfound⟩ <;> simp [searchMove, *]

end Off

/-! ### A transition ends (R119) -/

theorem seqr_endTransition {s : State} {tr : TransRec} {out r : PageRef} {e : SlideEntry}
    (htrans : s.seqr.trans = some tr) (hshown : s.seqr.shown = some out)
    (he : (runningEntries s)[s.seqr.index]? = some e) (hr : r = ⟨s.seqr.owner, e.page⟩) :
    (endTransition s).seqr =
      { landed r e (s.due.contains .sequencer) s.seqr with wanted := (endTransition s).seqr.wanted } := by
  obtain ⟨hseqr, -, hdue⟩ := showKept_endSlideTransition out r s
  have hpage : pageAt s.seqr.index s = some r := hr ▸ pageAt_eq he
  have hend : endTransition s = completeAdvance (transCode tr.kind)
      ((endSlideTransition out r s).setSeqr { s.seqr with shown := some r }) := by
    simp only [endTransition, htrans, hshown, hpage, updateSeq, hseqr]
  generalize endSlideTransition out r s = t at hseqr hdue hend
  have he' : (runningEntries (t.setSeqr { s.seqr with shown := some r }))[s.seqr.index]? = some e := he
  rw [hend, ← hdue]
  exact seqr_completeAdvance he' _

/-! ### SLIDE_STEP, HOLD_RUN_OUT, TRANSITION_END (R119, R121, R122) -/

/-- SLIDE_STEP answers what its body answers. -/
theorem exec_slideStep {s : State} (hopen : linkOpen s = true) {step : Byte} {a : Answer}
    (ha : doSlideStep step (crossed 1 s) = a) :
    exec (.slideStep step) s = .next (placeReply 0x34 a.code a.data a.state) := by
  rw [exec_of_encodeFrame _ _ rfl, runCommand, runSlideStep, command_linkOpen hopen _ _ rfl]
  subst ha
  rfl

section Step

variable {s : State} {step : Byte} (hstep : step = 0x01 ∨ step = 0xFF)

include hstep

theorem doSlideStep_stopped (hst : s.seqr.st = .stopped) : doSlideStep step s = refusedWith .wrongState s := by
  rw [doSlideStep, if_neg (fun h => hstep.elim h.1 h.2), if_pos hst]

theorem doSlideStep_transitioning (hst : s.seqr.st = .transitioning) :
    doSlideStep step s = done (stepSettled (step == 0xFF) (endTransition s)) := by
  rw [doSlideStep, if_neg (fun h => hstep.elim h.1 h.2), if_neg (by simp [hst]), stepShow, if_pos hst]

theorem doSlideStep_settled (hrunning : s.seqr.st ≠ .stopped) (hst : s.seqr.st ≠ .transitioning) :
    doSlideStep step s = done (stepSettled (step == 0xFF) s) := by
  rw [doSlideStep, if_neg (fun h => hstep.elim h.1 h.2), if_neg hrunning, stepShow, if_neg hst]

theorem doSlideStep_moves (h : s.seqr.st = .holding ∨ s.seqr.st = .waiting ∨ (s.seqr.st = .ended ∧ step = 0xFF)) :
    doSlideStep step s = done (searchMove (step == 0xFF) s) := by
  have hsettled : doSlideStep step s = done (stepSettled (step == 0xFF) s) :=
    doSlideStep_settled hstep (by rcases h with h | h | ⟨h, -⟩ <;> simp [h])
      (by rcases h with h | h | ⟨h, -⟩ <;> simp [h])
  rw [hsettled]
  rcases h with hholding | hwaiting | ⟨hended, rfl⟩
  · simp only [stepSettled, hholding]
  · simp only [stepSettled, hwaiting]
  · simp only [stepSettled, hended]
    rfl

theorem doSlideStep_ended (hst : s.seqr.st = .ended) (hforward : step = 0x01) : doSlideStep step s = done s := by
  rw [doSlideStep_settled hstep (by simp [hst]) (by simp [hst])]
  subst hforward
  simp only [stepSettled, hst]
  rfl

theorem doSlideStep_paused (hst : s.seqr.st = .paused) : doSlideStep step s = done (
    let u := searchMove (step == 0xFF) (s.setSeqr { s.seqr with pendingPause := true })
    if u.seqr.st = .paused ∨ u.seqr.st = .ended then u.setSeqr { u.seqr with pendingPause := false } else u) := by
  have hpaused (back : Bool) : stepSettled back s =
      let u := searchMove back (updateSeq (fun q => { q with pendingPause := true }) s)
      if u.seqr.st = .paused ∨ u.seqr.st = .ended then
        updateSeq (fun q => { q with pendingPause := false }) u
      else u := by
    simp only [stepSettled, hst]
  rw [doSlideStep_settled hstep (by simp [hst]) (by simp [hst])]
  exact congrArg done (hpaused _)

end Step

section Events

variable {s : State} (hreset : s.resetLow = false) (hdue : s.due.contains .sequencer = true)

/-- A hold that has one field start left runs out. -/
theorem countSlideHold_last {s : State} (hlatch : s.seqr.latch ≠ 0) (hcounter : s.seqr.counter = 1) :
    countSlideHold s = searchMove false (s.setSeqr { s.seqr with counter := 0 }) := by
  have hnonzero : s.seqr.counter ≠ 0 := by rw [hcounter]; decide
  have hcount : s.seqr.counter - 1 = 0 := by rw [hcounter]; decide
  simp only [countSlideHold, if_neg hlatch, if_neg hnonzero, updateSeq, hcount, if_pos hcounter]

theorem actBlock_sequencer (hdue : s.due.contains .sequencer = true) :
    actBlock s .sequencer = sequencerField (s.setDue (s.due.erase .sequencer)) := if_pos hdue

include hreset hdue

theorem exec_holdRunOut (hst : s.seqr.st = .holding) (hfresh : s.seqr.holdFresh = false) (hlatch : s.seqr.latch ≠ 0)
    (hcounter : s.seqr.counter = 1) : exec .holdRunOut s = .next (settleField (searchMove false
      ((s.setDue (s.due.erase .sequencer)).setSeqr { s.seqr with counter := 0 }))) := by
  have hruns : slideHoldDue s = true := by simpa [slideHoldDue, hst, hfresh, hcounter] using hlatch
  have hfield : sequencerField (s.setDue (s.due.erase .sequencer)) = searchMove false
      ((s.setDue (s.due.erase .sequencer)).setSeqr { s.seqr with counter := 0 }) := by
    have hcounts : sequencerField (s.setDue (s.due.erase .sequencer)) =
        countSlideHold (s.setDue (s.due.erase .sequencer)) := by
      simp only [sequencerField, State.setDue_seqr, hst, hfresh]
      rfl
    rw [hcounts]
    exact countSlideHold_last hlatch hcounter
  have hevent : holdRunOutEvent s = settleField (actBlock s .sequencer) := by
    rw [holdRunOutEvent, if_pos ⟨hdue, hruns⟩]
  rw [actBlock_sequencer hdue, hfield] at hevent
  exact congrArg Host.Outcome.next ((awake_of_high hreset _).trans hevent)

theorem exec_transitionEnd {tr : TransRec} (hst : s.seqr.st = .transitioning) (htrans : s.seqr.trans = some tr)
    (hlength : tr.length ≤ (s.disp.counter - tr.start).toNat) : exec .transitionEnd s =
      .next (settleField (endTransition (s.setDue (s.due.erase .sequencer)))) := by
  have hends : transitionDue s = true := by
    simp only [transitionDue, htrans, hst, beq_self_eq_true, Bool.true_and, decide_eq_true_eq]
    exact hlength
  have hfield : sequencerField (s.setDue (s.due.erase .sequencer)) =
      endTransition (s.setDue (s.due.erase .sequencer)) := by
    simp only [sequencerField, State.setDue_seqr, hst, htrans]
    exact if_pos hlength
  have hevent : transitionEvent s = settleField (actBlock s .sequencer) := by
    rw [transitionEvent, if_pos ⟨hdue, hends⟩]
  rw [actBlock_sequencer hdue, hfield] at hevent
  exact congrArg Host.Outcome.next ((awake_of_high hreset _).trans hevent)

end Events

/-- Settles O43, by the rows, the search, the advance and the start of a transition. -/
theorem showsAdvance : Obligations.ShowsAdvance := by
  refine ⟨fun s step hopen => ⟨fun hforward hback => ?_, fun hstep => ⟨fun hst => ?_, fun hst hforward => ?_,
      fun h => ?_, fun hst => ?_, fun hst => ?_⟩⟩,
    fun s hreset hdue hst hfresh hlatch hcounter => exec_holdRunOut hreset hdue hst hfresh hlatch hcounter,
    fun s tr hreset hdue hst htrans hlength => exec_transitionEnd hreset hdue hst htrans hlength,
    fun s tr out r e htrans hshown he hr => seqr_endTransition htrans hshown he hr,
    fun s back => ⟨fun j r e hfound he hr => ⟨searchMove_unready hfound he hr, fun hready => ?_⟩,
      fun p => searchMove_offEnd, searchMove_offStart, fun h => ?_, fun code e he => completeAdvance_eq he code⟩,
    fun s => ⟨fun j r hfound hpage hshown => ?_, fun hall => ?_⟩,
    fun s r e he => ⟨bringInFull_room he, bringInFull_full, fun y => bringInFull_cut, fun p x hx hst hlength =>
      ⟨fun hcut => ?_, fun hkind hlen => ⟨fun below above hsplit hnodup hroom => ?_, startTransition_full hkind hlen,
        fun y => startTransition_afterCut hkind hlen⟩⟩⟩,
    fun s r code x hx => ?_⟩
  · exact exec_slideStep hopen (a := refusedWith .badArgument (crossed 1 s)) (if_pos ⟨hforward, hback⟩)
  · exact exec_slideStep hopen (doSlideStep_stopped (s := crossed 1 s) hstep hst)
  · exact exec_slideStep hopen (doSlideStep_ended (s := crossed 1 s) hstep hst hforward)
  · exact exec_slideStep hopen (doSlideStep_moves (s := crossed 1 s) hstep h)
  · exact exec_slideStep hopen (doSlideStep_paused (s := crossed 1 s) hstep hst)
  · exact exec_slideStep hopen (doSlideStep_transitioning (s := crossed 1 s) hstep hst)
  · rw [searchMove_ready hfound he hr hready]
    cases s.seqr.shown <;> rfl
  · rw [searchMove_stops h, stopShow_eq]
    rfl
  · rw [prefetch_wants hfound hpage hshown]
    exact ⟨rfl, congrArg Sequencer.wanted (seqr_wantPage r s)⟩
  · rcases prefetch_cases s with hnone | ⟨j, r, hfound, hpage, hshown, -⟩
    · rw [hnone, seqr_wantNone]
    · exact absurd (hall j r hfound hpage) hshown
  · rw [startTransition_cut hcut]
    exact cutTo_entries he hx hst hlength
  · obtain ⟨-, hpage⟩ := mem_of_entryOf hx
    exact startTransition_room hkind hlen hpage hsplit hnodup hroom
  · rw [stack_removeBeforeSlide code hx]
    exact closeOrder_eq ..

end Sys2Proof.Machine

namespace Sys2Proof.Machine

open Sys2Proof

/-! ## The neighbour walk (R90, R91) -/

/-- The first of n links is the link from where the walk stands (R90). -/
theorem linkPath_succ (d : PageDef) (dir : Direction) (n cur : Nat) :
    linkPath d dir (n + 1) cur = (linkTarget d dir cur).bind (linkPath d dir n) := by
  induction n with
  | zero => exact (Option.bind_fun_some _).symm
  | succ n ih =>
    rw [linkPath, ih, Option.bind_assoc]
    rfl

/-- The n-th candidate from a button is c, enabled and not the selection i; those before it are DISABLED and not the
selection either (R90, R91). -/
def FirstEnabled (d : PageDef) (sl : Slot) (dir : Direction) (i c n cur : Nat) : Prop :=
  linkPath d dir n cur = some c ∧ c ≠ i ∧ enabledAt sl c = true ∧
    ∀ m x, 1 ≤ m → m < n → linkPath d dir m cur = some x → x ≠ i ∧ enabledAt sl x = false

section Walk

variable {d : PageDef} {sl : Slot} {dir : Direction} {i c : Nat}

theorem firstEnabled_one {cur : Nat} : FirstEnabled d sl dir i c 1 cur ↔
    linkTarget d dir cur = some c ∧ c ≠ i ∧ enabledAt sl c = true := by
  have hpath : linkPath d dir 1 cur = linkTarget d dir cur := rfl
  rw [FirstEnabled, hpath]
  constructor
  · rintro ⟨hlink, hne, hon, -⟩
    exact ⟨hlink, hne, hon⟩
  · rintro ⟨hlink, hne, hon⟩
    exact ⟨hlink, hne, hon, fun m x hm hlt => absurd hm (Nat.not_le.2 hlt)⟩

/-- A candidate further on is reached over the first one, a DISABLED button. -/
theorem firstEnabled_succ {n cur : Nat} (hn : 1 ≤ n) : FirstEnabled d sl dir i c (n + 1) cur ↔
    ∃ x, linkTarget d dir cur = some x ∧ x ≠ i ∧ enabledAt sl x = false ∧ FirstEnabled d sl dir i c n x := by
  constructor
  · rintro ⟨hpath, hne, hon, hbefore⟩
    rw [linkPath_succ] at hpath
    obtain ⟨x, hx, hpath⟩ := Option.bind_eq_some_iff.1 hpath
    obtain ⟨hxi, hoff⟩ := hbefore 1 x (Nat.le_refl 1) (by omega) hx
    refine ⟨x, hx, hxi, hoff, hpath, hne, hon, fun m y hm hlt hy => hbefore (m + 1) y (by omega) (by omega) ?_⟩
    rw [linkPath_succ, hx, Option.bind_some, hy]
  · rintro ⟨x, hx, hxi, hoff, hpath, hne, hon, hbefore⟩
    have hfrom (m : Nat) : linkPath d dir (m + 1) cur = linkPath d dir m x := by
      rw [linkPath_succ, hx, Option.bind_some]
    refine ⟨(hfrom n).trans hpath, hne, hon, fun m y hm hlt hy => ?_⟩
    obtain ⟨m, rfl⟩ := Nat.exists_eq_add_of_le' hm
    rw [hfrom] at hy
    rcases Nat.eq_zero_or_pos m with rfl | hm
    · cases hy
      exact ⟨hxi, hoff⟩
    · exact hbefore m y hm (by omega) hy

/-- One candidate of the walk. -/
theorem walkFrom_succ_eq_some {n cur : Nat} : walkFrom d sl dir i (n + 1) cur = some c ↔
    ∃ x, linkTarget d dir cur = some x ∧ x ≠ i ∧
      if enabledAt sl x = true then x = c else walkFrom d sl dir i n x = some c := by
  rw [walkFrom]
  cases linkTarget d dir cur with
  | none => simp
  | some x =>
    by_cases hx : x = i
    · simp [hx]
    · cases hon : enabledAt sl x <;> simp [hx, hon]

/-- The walk ends at the first enabled candidate, if it may look so far. -/
theorem walkFrom_eq_some (n : Nat) : ∀ cur, walkFrom d sl dir i n cur = some c ↔
    ∃ m, 1 ≤ m ∧ m ≤ n ∧ FirstEnabled d sl dir i c m cur := by
  induction n with
  | zero =>
    intro cur
    constructor
    · intro h
      cases h
    · rintro ⟨m, hmin, hmax, -⟩
      omega
  | succ n ih =>
    intro cur
    rw [walkFrom_succ_eq_some]
    constructor
    · rintro ⟨x, hx, hxi, hthen⟩
      split at hthen
      · rename_i hon
        subst hthen
        exact ⟨1, Nat.le_refl 1, by omega, firstEnabled_one.2 ⟨hx, hxi, hon⟩⟩
      · rename_i hoff
        obtain ⟨m, hmin, hmax, hfirst⟩ := (ih x).1 hthen
        exact ⟨m + 1, by omega, by omega, (firstEnabled_succ hmin).2 ⟨x, hx, hxi, by simpa using hoff, hfirst⟩⟩
    · rintro ⟨m, hmin, hmax, hfirst⟩
      obtain ⟨m, rfl⟩ := Nat.exists_eq_add_of_le' hmin
      rcases Nat.eq_zero_or_pos m with rfl | hm
      · obtain ⟨hx, hxi, hon⟩ := firstEnabled_one.1 hfirst
        exact ⟨c, hx, hxi, by rw [if_pos hon]⟩
      · obtain ⟨x, hx, hxi, hoff, hfirst⟩ := (firstEnabled_succ hm).1 hfirst
        refine ⟨x, hx, hxi, ?_⟩
        rw [if_neg (by simp [hoff])]
        exact (ih x).2 ⟨m, hm, by omega, hfirst⟩

end Walk

/-- Settles O33, by induction on the number of candidates that the walk may look at. -/
theorem neighbourWalkFindsTheButton : Obligations.NeighbourWalkFindsTheButton :=
  fun _ _ _ i _ => walkFrom_eq_some 8 i

end Sys2Proof.Machine

namespace Sys2Proof.Machine

open Sys2Proof

/-! ## Tests of buttons (R96) -/

section Bits

variable (v : Word) (w : Nat)

/-- The bits of the lowest w bits. -/
theorem testBit_lowest (j : Nat) : (v.toNat % 2 ^ w).testBit j = (decide (j < w) && v.getLsbD j) :=
  Nat.testBit_mod_two_pow ..

theorem lowest_eq_zero : v.toNat % 2 ^ w = 0 ↔ ∀ j, j < w → v.getLsbD j = false := by
  constructor
  · intro h j hj
    have hbit := testBit_lowest v w j
    rw [h, Nat.zero_testBit, decide_eq_true hj, Bool.true_and] at hbit
    exact hbit.symm
  · intro h
    refine Nat.zero_of_testBit_eq_false fun j => ?_
    rw [testBit_lowest]
    by_cases hj : j < w
    · rw [h j hj, Bool.and_false]
    · rw [decide_eq_false hj, Bool.false_and]

theorem lowest_eq_ones : v.toNat % 2 ^ w = 2 ^ w - 1 ↔ ∀ j, j < w → v.getLsbD j = true := by
  constructor
  · intro h j hj
    have hbit := testBit_lowest v w j
    rw [h, Nat.testBit_two_pow_sub_one, decide_eq_true hj, Bool.true_and] at hbit
    exact hbit.symm
  · intro h
    refine Nat.eq_of_testBit_eq fun j => ?_
    rw [testBit_lowest, Nat.testBit_two_pow_sub_one]
    by_cases hj : j < w
    · rw [h j hj, Bool.and_true]
    · rw [decide_eq_false hj, Bool.false_and]

variable {w} (hw : 1 ≤ w)

include hw

/-- The highest of the lowest w bits is set in the upper half of their values. -/
theorem half_le_lowest : 2 ^ (w - 1) ≤ v.toNat % 2 ^ w ↔ v.getLsbD (w - 1) = true := by
  have hbit := testBit_lowest v w (w - 1)
  rw [decide_eq_true (by omega), Bool.true_and] at hbit
  have hlt : v.toNat % 2 ^ w < 2 ^ (w - 1) * 2 := by
    rw [← Nat.pow_succ, Nat.succ_eq_add_one, Nat.sub_add_cancel hw]
    exact Nat.mod_lt _ (Nat.two_pow_pos w)
  rw [← hbit]
  constructor
  · intro h
    exact Nat.testBit_of_two_pow_le_and_two_pow_add_one_gt h (by rwa [Nat.pow_succ])
  · exact Nat.ge_two_pow_of_testBit

theorem lowest_odd : v.toNat % 2 ^ w % 2 = 1 ↔ v.getLsbD 0 = true := by
  have hbit := testBit_lowest v w 0
  rw [decide_eq_true (by omega), Bool.true_and, Nat.testBit_zero] at hbit
  rw [← hbit, decide_eq_true_eq]

end Bits

/-- Settles O34, kind by kind, by what the bits say of the value of the lowest w bits. -/
theorem buttonTestsReadTheirBits : Obligations.ButtonTestsReadTheirBits := by
  intro t v hwidth top zero ones
  have hw : 1 ≤ t.width := by omega
  have htop := half_le_lowest v hw
  have hzero := lowest_eq_zero v t.width
  have hones := lowest_eq_ones v t.width
  have hodd := lowest_odd v hw
  unfold testResult
  dsimp only
  cases t.kind with
  | always => simp
  | high => simp only [decide_eq_true_eq]; exact htop
  | highOrZero => simp only [Bool.or_eq_true, decide_eq_true_eq, beq_iff_eq]; exact or_congr htop hzero
  | notHigh =>
    simp only [Bool.not_eq_true', decide_eq_false_iff_not]
    exact htop.not.trans (Bool.not_eq_true _).to_iff
  | notHighOrOnes =>
    simp only [Bool.or_eq_true, Bool.not_eq_true', decide_eq_false_iff_not, beq_iff_eq]
    exact or_congr (htop.not.trans (Bool.not_eq_true _).to_iff) hones
  | low => simp only [beq_iff_eq]; exact hodd
  | lowOrZero => simp only [Bool.or_eq_true, beq_iff_eq]; exact or_congr hodd hzero
  | zero => simp only [beq_iff_eq]; exact hzero

end Sys2Proof.Machine

namespace Sys2Proof.Machine

open Sys2Proof

/-! ## The default rule and the change of selection (R87 to R89) -/

section Default

variable {d : PageDef} {bs : List ButtonLive}

/-- The enable states that the default rule looks at. -/
def enabledIn (bs : List ButtonLive) (i : Nat) : Bool :=
  match bs[i]? with
  | some b => b.st != .disabled
  | none => false

theorem enabledIn_iff {i : Nat} : enabledIn bs i = true ↔ ∃ b, bs[i]? = some b ∧ b.st ≠ .disabled := by
  unfold enabledIn
  cases bs[i]? <;> simp

/-- The page's default button, where it holds it and the button is enabled (R88). -/
theorem defaultChoice_wanted {id : Byte} {i : Nat} (hid : d.defaultButton = some id)
    (hindex : buttonIndexOf d id = some i) (hon : enabledIn bs i = true) : defaultChoice d bs = some i := by
  have hwanted : d.defaultButton.bind (buttonIndexOf d) = some i := by rw [hid, Option.bind_some, hindex]
  simp only [defaultChoice, hwanted]
  exact if_pos hon

/-- Without an enabled default button the list order decides (R88). -/
theorem defaultChoice_first
    (h : ∀ id i, d.defaultButton = some id → buttonIndexOf d id = some i → enabledIn bs i = false) :
    defaultChoice d bs = (List.range d.buttons.length).find? (enabledIn bs) := by
  cases hwanted : d.defaultButton.bind (buttonIndexOf d) with
  | none =>
    simp only [defaultChoice, hwanted]
    rfl
  | some i =>
    obtain ⟨id, hid, hindex⟩ := Option.bind_eq_some_iff.1 hwanted
    simp only [defaultChoice, hwanted]
    exact if_neg (Bool.eq_false_iff.1 (h id i hid hindex))

end Default

theorem enabledAt_iff {sl : Slot} {i : Nat} :
    enabledAt sl i = true ↔ ∃ b, sl.buttons[i]? = some b ∧ b.st ≠ .disabled := enabledIn_iff (bs := sl.buttons)

/-! ### The buttons of a sound slot (R43, R87) -/

section Sound

variable {sl : Slot} {c : Nat}

/-- Ids that differ name different buttons. -/
theorem buttonIndexOf_of_nodup {d : PageDef} {b : Button} (hids : (d.buttons.map Button.id).Nodup)
    (hb : d.buttons[c]? = some b) : buttonIndexOf d b.id = some c := by
  obtain ⟨hlt, hb⟩ := List.getElem?_eq_some_iff.1 hb
  refine List.findIdx?_eq_some_iff_getElem.2 ⟨hlt, by simp [hb], fun j hj hsame => ?_⟩
  have hsame : (d.buttons.map Button.id)[j]'(by simpa using hj.trans hlt) =
      (d.buttons.map Button.id)[c]'(by simpa using hlt) := by simpa [hb] using hsame
  exact absurd ((List.Nodup.getElem_inj_iff hids).1 hsame) (Nat.ne_of_lt hj)

theorem slotSound_iff {d : PageDef} (hd : sl.defn = some d) : slotSound sl ↔
    sl.buttons.length = d.buttons.length ∧ (d.buttons.map Button.id).Nodup ∧
    (∀ id, sl.selection = some id → ∃ i, slotButton sl id = some i) ∧
    ∀ i, (∃ b, sl.buttons[i]? = some b ∧ isChosen b = true) ↔ selectionIndex sl = some i := by
  unfold slotSound
  rw [hd]

/-- A sound slot that holds a button holds its page, and the button's id leads back to it. -/
theorem slotSound_button (h : slotSound sl) (hc : c < sl.buttons.length) :
    ∃ d b, sl.defn = some d ∧ d.buttons[c]? = some b ∧ slotButtonId sl c = some b.id ∧
      slotButton sl b.id = some c := by
  cases hd : sl.defn with
  | none =>
    simp only [slotSound, hd] at h
    simp [h.1] at hc
  | some d =>
    obtain ⟨hlength, hids, -, -⟩ := (slotSound_iff hd).1 h
    have hb := List.getElem?_eq_getElem (hlength ▸ hc)
    refine ⟨d, _, rfl, hb, ?_, ?_⟩
    · simp only [slotButtonId, hd, hb, Option.map_some]
    · simp only [slotButton, hd]
      exact buttonIndexOf_of_nodup hids hb

end Sound

/-! ### The change of selection (R89) -/

section Select

variable (now : Word) (c : Nat) (sl : Slot)

theorem selectIn_defn : (selectIn now c sl).defn = sl.defn := by
  unfold selectIn
  split <;> rfl

theorem selectIn_selection : (selectIn now c sl).selection = slotButtonId sl c := rfl

/-- The former selection turns NORMAL, the new one SELECTED. -/
theorem selectIn_buttons : (selectIn now c sl).buttons = (match selectionIndex sl with
    | none => sl.buttons
    | some i => sl.buttons.set i ⟨.normal, now⟩).set c ⟨.selected, now⟩ := by
  unfold selectIn
  split <;> simp_all [putButton]

theorem length_selectIn : (selectIn now c sl).buttons.length = sl.buttons.length := by
  rw [selectIn_buttons, List.length_set]
  split <;> simp

variable {c sl}

theorem selectIn_button_self (hc : c < sl.buttons.length) :
    (selectIn now c sl).buttons[c]? = some ⟨.selected, now⟩ := by
  rw [selectIn_buttons, List.getElem?_set_self]
  split <;> simpa

theorem selectIn_button_other {j : Nat} (hj : j ≠ c)
    (hformer : ∀ i, selectionIndex sl = some i → i < sl.buttons.length) :
    (selectIn now c sl).buttons[j]? =
      if selectionIndex sl = some j then some ⟨.normal, now⟩ else sl.buttons[j]? := by
  rw [selectIn_buttons, List.getElem?_set_ne (Ne.symm hj)]
  cases hi : selectionIndex sl with
  | none => simp
  | some i =>
    by_cases hij : i = j
    · subst hij
      simp [hformer i hi]
    · simp [hij, List.getElem?_set_ne hij]

variable (hsound : slotSound sl) (hc : c < sl.buttons.length)

include hsound

/-- In a sound slot the selection is one of the buttons. -/
theorem selectionIndex_lt {i : Nat} (hi : selectionIndex sl = some i) : i < sl.buttons.length := by
  cases hd : sl.defn with
  | none =>
    simp only [slotSound, hd] at hsound
    simp [selectionIndex, hsound.2] at hi
  | some d =>
    obtain ⟨-, -, -, hchosen⟩ := (slotSound_iff hd).1 hsound
    obtain ⟨b, hb, -⟩ := (hchosen i).2 hi
    exact (List.getElem?_eq_some_iff.1 hb).1

include hc

theorem selectionIndex_selectIn : selectionIndex (selectIn now c sl) = some c := by
  obtain ⟨d, b, hd, -, hid, hback⟩ := slotSound_button hsound hc
  have hslot : slotButton (selectIn now c sl) b.id = slotButton sl b.id := by
    simp only [slotButton, selectIn_defn]
  simp only [selectionIndex, selectIn_selection, hid, hslot, hback]

/-- The new selection is the one chosen button of the slot (R87). -/
theorem slotSound_selectIn : slotSound (selectIn now c sl) := by
  have hselected := selectionIndex_selectIn now hsound hc
  obtain ⟨d, b, hd, -, hid, hback⟩ := slotSound_button hsound hc
  obtain ⟨hlength, hids, -, hchosen⟩ := (slotSound_iff hd).1 hsound
  refine (slotSound_iff ((selectIn_defn ..).trans hd)).2
    ⟨(length_selectIn ..).trans hlength, hids, fun id hsel => ?_, fun i => ?_⟩
  · refine ⟨c, ?_⟩
    rwa [selectionIndex, hsel] at hselected
  · rw [hselected]
    by_cases hi : i = c
    · subst hi
      simp [selectIn_button_self now hc, isChosen]
    · rw [selectIn_button_other now hi fun i => selectionIndex_lt hsound]
      refine iff_of_false ?_ fun h => hi (Option.some.inj h).symm
      split
      · simp [isChosen]
      · rename_i hother
        exact (hchosen i).not.2 hother

end Select

/-- Settles O35: the default rule by whether the default button is enabled, then the buttons of the slot one by one. -/
theorem selectionRulesHold : Obligations.SelectionRulesHold := by
  refine ⟨fun d bs => ?_, fun now c sl hsound hon hmoves => ?_⟩
  · intro enabled wanted
    refine ⟨fun i ⟨id, hid, hindex, hon⟩ => defaultChoice_wanted hid hindex (enabledIn_iff.2 hon), fun hnone i => ?_⟩
    have hoff : ∀ id i, d.defaultButton = some id → buttonIndexOf d id = some i → enabledIn bs i = false :=
      fun id i hid hindex => Bool.eq_false_iff.2 fun hon => hnone i ⟨id, hid, hindex, enabledIn_iff.1 hon⟩
    rw [defaultChoice_first hoff]
    simp only [List.find?_range_eq_some, List.mem_range, Bool.not_eq_true', ← Bool.not_eq_true, enabledIn_iff]
    exact and_left_comm
  · obtain ⟨b, hb, -⟩ := enabledAt_iff.1 hon
    have hc := (List.getElem?_eq_some_iff.1 hb).1
    exact ⟨slotSound_selectIn now hsound hc, selectionIndex_selectIn now hsound hc, selectIn_button_self now hc,
      fun j hj => selectIn_button_other now hj fun i => selectionIndex_lt hsound⟩

end Sys2Proof.Machine

namespace Sys2Proof.Machine

open Sys2Proof

/-! ## Enabling and disabling a button (R87, R103) -/

section Enable

variable {k : Fin 6} {i : Nat} {s : State}

theorem changeEnable_on_same (hon : enabledAt (slotAt k s) i = true) : changeEnable k i true s = s := if_pos hon

theorem changeEnable_off_same (hoff : enabledAt (slotAt k s) i = false) : changeEnable k i false s = s := by
  simp [changeEnable, disableButton, hoff]

/-- Without a selection the enabled button becomes it. -/
theorem changeEnable_on_selects (hoff : enabledAt (slotAt k s) i = false) (hnone : (slotAt k s).selection = none) :
    changeEnable k i true s = commitButtons k { slotAt k s with
      buttons := (slotAt k s).buttons.set i ⟨.selected, s.disp.counter⟩
      selection := slotButtonId (slotAt k s) i } s := by
  simp only [changeEnable, enableButton, hoff, hnone]
  rfl

theorem changeEnable_on_normal (hoff : enabledAt (slotAt k s) i = false) (hsome : (slotAt k s).selection ≠ none) :
    changeEnable k i true s = commitButtons k { slotAt k s with
      buttons := (slotAt k s).buttons.set i ⟨.normal, s.disp.counter⟩ } s := by
  have henable : changeEnable k i true s = enableButton k i s := rfl
  rw [henable, enableButton, if_neg (by simp [hoff])]
  split
  · exact absurd ‹_› hsome
  · rfl

variable (hon : enabledAt (slotAt k s) i = true)

include hon

theorem changeEnable_off_other (hother : selectionIndex (slotAt k s) ≠ some i) :
    changeEnable k i false s = commitButtons k { slotAt k s with
      buttons := (slotAt k s).buttons.set i ⟨.disabled, s.disp.counter⟩ } s := by
  simp only [changeEnable, disableButton, hon, if_neg hother]
  rfl

/-- A slot whose selection has just been disabled: its activation is cancelled, it has no selection (R103). -/
def disabledSelection (now : Word) (i : Nat) (sl : Slot) : Slot :=
  { sl with
    buttons := sl.buttons.set i ⟨.disabled, now⟩, selection := none, hold := if holdRunning sl then 0 else sl.hold }

/-- In place of a disabled selection the default rule chooses. -/
theorem changeEnable_off_selection (hsel : selectionIndex (slotAt k s) = some i) : changeEnable k i false s =
    applyDefault k (commitButtons k (disabledSelection s.disp.counter i (slotAt k s)) s) := by
  simp only [changeEnable, disableButton, hon, hsel]
  rfl

end Enable

/-- The default rule in a slot without a selection: its choice turns SELECTED, without one nothing changes (R88). -/
theorem applyDefault_unselected {k : Fin 6} {s : State} {d : PageDef} (hd : (slotAt k s).defn = some d)
    (hsel : (slotAt k s).selection = none) : applyDefault k s = match defaultChoice d (slotAt k s).buttons with
      | none => s
      | some c => commitButtons k { slotAt k s with
          buttons := (slotAt k s).buttons.set c ⟨.selected, s.disp.counter⟩
          selection := slotButtonId (slotAt k s) c } s := by
  have hindex : selectionIndex (slotAt k s) = none := by simp only [selectionIndex, hsel]
  cases hc : defaultChoice d (slotAt k s).buttons with
  | none => rw [applyDefault_none hd hc, if_pos hsel]
  | some c =>
    rw [applyDefault_some hd hc, becomeSelection_moves (by simp [hindex])]
    simp only [selectIn, hindex]
    rfl

theorem disp_commitButtons (k : Fin 6) (v : Slot) (s : State) : (commitButtons k v s).disp = s.disp := by
  unfold commitButtons markDirty
  dsimp only
  split <;> rfl

/-- Settles O37, by what SET_BUTTON asks for and by the button that it asks it for. -/
theorem enablingChangesButtonStates : Obligations.EnablingChangesButtonStates := by
  intro k i s d hd _ sl now off
  refine ⟨changeEnable_on_same, changeEnable_off_same, fun hoff hnone => ?_, fun hoff hsome => ?_,
    fun hon hother => ?_, fun hon hsel => ?_⟩
  · rw [changeEnable_on_selects hoff hnone]
    exact ⟨slotAt_commitButtons .., recompose_commitButtons ..⟩
  · rw [changeEnable_on_normal hoff hsome]
    exact ⟨slotAt_commitButtons .., recompose_commitButtons ..⟩
  · rw [changeEnable_off_other hon hother]
    exact ⟨slotAt_commitButtons .., recompose_commitButtons ..⟩
  · have hslot := slotAt_commitButtons k (disabledSelection now i sl) s
    have hdisp := disp_commitButtons k (disabledSelection now i sl) s
    have hraised := recompose_commitButtons k (disabledSelection now i sl) s
    rw [changeEnable_off_selection hon hsel]
    generalize commitButtons k (disabledSelection now i sl) s = u at hslot hdisp hraised ⊢
    have hdefn : (slotAt k u).defn = some d := by rw [hslot]; exact hd
    have hnone : (slotAt k u).selection = none := by rw [hslot]; rfl
    have hbuttons : (slotAt k u).buttons = off := by rw [hslot]; rfl
    have hid (c : Nat) : slotButtonId (slotAt k u) c = slotButtonId sl c := by rw [hslot]; rfl
    rw [applyDefault_unselected hdefn hnone, hbuttons]
    cases defaultChoice d off with
    | none => exact ⟨by rw [hslot], hraised, hbuttons, hnone⟩
    | some c =>
      dsimp only
      rw [slotAt_commitButtons, hid, hdisp]
      exact ⟨rfl, recompose_commitButtons .., rfl, rfl⟩

end Sys2Proof.Machine

namespace Sys2Proof.Machine

open Sys2Proof

/-! ## Settings, page timeouts and READ_PAGE (R109, R110, R130, R163, R184, R187) -/

/-- A command row whose frame has n payload bytes answers what its body answers to the state as the frame left
it. -/
theorem exec_answers {s : State} (hopen : linkOpen s = true) {i : Instr} {cmd : Byte} {payload : List Byte}
    {act : State → Answer} {n : Nat} {a : Answer} (hrow : exec i s = .next (command cmd payload act s))
    (hcmd : isReadCode cmd = false) (hlength : payload.length = n) (ha : act (crossed n s) = a) :
    exec i s = .next (placeReply cmd a.code a.data a.state) := by
  rw [hrow, command_linkOpen hopen payload act hcmd, hlength, ha]

/-! ### The settings (R110, R163) -/

theorem doOutput_refused {v : Byte} (h : 2 ≤ v.toNat) (s : State) : doOutput v s = refusedWith .badArgument s := by
  have h0 : v ≠ 0 := by rintro rfl; exact absurd h (by decide)
  have h1 : v ≠ 1 := by rintro rfl; exact absurd h (by decide)
  rw [doOutput, if_neg h0, if_neg h1]

/-- OUTPUT 1 asks for a recomposition where the output was off (R145, R163). -/
theorem doOutput_on (s : State) : doOutput 1 s = done ((s.setDisp { s.disp with output := true }).setComp
    { s.comp with recompose := s.comp.recompose || !s.disp.output }) := by
  have hon : doOutput 1 s = done (if s.disp.output = true then s.setDisp { s.disp with output := true }
    else raiseRecompose (s.setDisp { s.disp with output := true })) := rfl
  rw [hon]
  cases s.disp.output with
  | false => simp [raiseRecompose]
  | true =>
    simp only [if_true, Bool.not_true, Bool.or_false]
    rfl

/-- The variable that a number below 16 names (R110). -/
theorem ofNat_variable {n : Nat} (h : n < 16) : Fin.ofNat 16 n = ⟨n, h⟩ := Fin.ext (Nat.mod_eq_of_lt h)

theorem doSetVar_variable {num : Byte} (h : num.toNat < 16) (value : Word) (s : State) :
    doSetVar num value s = done (s.setNav { s.nav with vars := s.nav.vars.set num.toNat value h }) := by
  rw [doSetVar, if_neg (Nat.not_le.2 h), ofNat_variable h]
  rfl

theorem doGetVar_variable {num : Byte} (h : num.toNat < 16) (s : State) :
    doGetVar num s = ⟨s, .ok, wordBytes s.nav.vars[num.toNat]⟩ := by
  rw [doGetVar, if_neg (Nat.not_le.2 h), ofNat_variable h]
  rfl

/-- Settles O9, by what each body answers behind its frame. -/
theorem settingsAreWritten : Obligations.SettingsAreWritten := by
  refine fun s hopen => ⟨?_, ?_, fun v hv => ?_, ?_, ?_, fun num value h => ?_, fun num value h => ?_,
    fun num h => ?_, fun num h => ?_⟩
  · exact exec_answers hopen (a := done ((crossed 1 s).setDisp { s.disp with output := false })) rfl rfl rfl rfl
  · exact exec_answers hopen (n := 1) rfl rfl rfl (doOutput_on _)
  · exact exec_answers hopen (n := 1) rfl rfl rfl (doOutput_refused hv _)
  · exact exec_answers hopen (a := done (setRunning true (crossed 0 s))) rfl rfl rfl rfl
  · exact exec_answers hopen (a := done (setRunning false (crossed 0 s))) rfl rfl rfl rfl
  · exact exec_answers hopen (n := 5) rfl rfl rfl (doSetVar_variable h value _)
  · exact exec_answers hopen (n := 5) (a := refusedWith .badArgument _) rfl rfl rfl (if_pos h)
  · exact exec_answers hopen (n := 1) rfl rfl rfl (doGetVar_variable h _)
  · exact exec_answers hopen (n := 1) (a := refusedWith .badArgument _) rfl rfl rfl (if_pos h)

/-! ### SET_TIMEOUT and READ_PAGE (R109, R187) -/

section Page

variable {owner page : Byte} {r : PageRef} (harg : pageArgument owner page = some r) {s : State}

include harg

theorem doReadPage_undefined (h : (pageEntry r s).defined = false) :
    doReadPage owner page s = refusedWith .notDefined s := by
  rw [doReadPage, onPage_of_argument harg, if_pos h]

theorem doReadPage_notReady (h : (pageEntry r s).defined = true) (hk : readySlot r s = none) :
    doReadPage owner page s = refusedWith .wrongState s := by
  rw [doReadPage, onPage_of_argument harg, if_neg (by simp [h]), hk]

theorem doReadPage_ready (h : (pageEntry r s).defined = true) {k : Fin 6} (hk : readySlot r s = some k) :
    doReadPage owner page s = ⟨s, .ok, readPageData r k s⟩ := by
  rw [doReadPage, onPage_of_argument harg, if_neg (by simp [h]), hk]

variable (v : Half) (restart : Byte)

theorem doSetTimeout_undefined (h : (pageEntry r s).defined = false) :
    doSetTimeout owner page v restart s = refusedWith .notDefined s := by
  rw [doSetTimeout, onPage_of_argument harg, onMenuPage_undefined h]

theorem doSetTimeout_slide (h : isSlidePage r s = true) :
    doSetTimeout owner page v restart s = refusedWith .wrongState s := by
  rw [doSetTimeout, onPage_of_argument harg, onMenuPage_slide h]

variable (hmenu : isMenuPage r s = true)

include hmenu

theorem doSetTimeout_notReady (hk : readySlot r s = none) :
    doSetTimeout owner page v restart s = refusedWith .wrongState s := by
  rw [doSetTimeout, onPage_of_argument harg, onMenuPage_of_menu hmenu, hk]

/-- The latch is written; with restart the counter too, else the mark where the counter is not counting (R109). -/
theorem doSetTimeout_ready {k : Fin 6} (hk : readySlot r s = some k) :
    doSetTimeout owner page v restart s = done (setSlot k
      (if restart = 0 then
        { slotAt k s with latch := v, mark := (slotAt k s).mark || !timerCounts k s }
      else { slotAt k s with latch := v, timer := v, mark := false }) s) := by
  rw [doSetTimeout, onPage_of_argument harg, onMenuPage_of_menu hmenu, hk]

end Page

/-- Settles O38: the checks of each body in their order, then what it writes or answers. -/
theorem timeoutIsSetAndPageRead : Obligations.TimeoutIsSetAndPageRead := by
  intro s owner page r hopen harg
  have hread {a : Answer} (ha : doReadPage owner page (crossed 2 s) = a) :
      exec (.readPage owner page) s = .next (placeReply 0x17 a.code a.data a.state) :=
    exec_answers hopen rfl rfl rfl ha
  have hset {v : Half} {restart : Byte} {a : Answer} (ha : doSetTimeout owner page v restart (crossed 5 s) = a) :
      exec (.setTimeout owner page v restart) s = .next (placeReply 0x16 a.code a.data a.state) :=
    exec_answers hopen rfl rfl rfl ha
  refine ⟨fun hundefined => ⟨?_, fun v restart => ?_⟩, fun hslide v restart => ?_, fun hdefined hnone => ?_,
    fun hmenu hnone v restart => ?_, fun k hk => ⟨fun hdefined => ?_, fun hmenu v restart hrestart => ?_,
      fun hmenu v => ?_⟩⟩
  · exact hread (doReadPage_undefined harg (s := crossed 2 s) hundefined)
  · exact hset (doSetTimeout_undefined harg (s := crossed 5 s) v restart hundefined)
  · exact hset (doSetTimeout_slide harg (s := crossed 5 s) v restart hslide)
  · exact hread (doReadPage_notReady harg (s := crossed 2 s) hdefined hnone)
  · exact hset (doSetTimeout_notReady harg (s := crossed 5 s) v restart hmenu hnone)
  · exact hread (doReadPage_ready harg (s := crossed 2 s) hdefined hk)
  · rw [hset (doSetTimeout_ready harg (s := crossed 5 s) v restart hmenu hk), if_neg hrestart]
    rfl
  · exact hset (doSetTimeout_ready harg (s := crossed 5 s) v 0 hmenu hk)

end Sys2Proof.Machine

namespace Sys2Proof.Machine

open Sys2Proof

/-! ## Activations and page timeouts at a field start (R93 to R95, R107, R108) -/

/-! ### The rows (log 1) -/

section Rows

variable {s : State}

theorem actBlock_navigation (hdue : s.due.contains .navigation = true) :
    actBlock s .navigation = navigationField (s.setDue (s.due.erase .navigation)) := if_pos hdue

/-- A hold runs out at a field start at which the Navigation Unit has still to act: it acts. -/
theorem exec_activationComplete_due {k : Fin 6} (hreset : s.resetLow = false)
    (hdue : s.due.contains .navigation = true) (hk : holdDue s k = true) :
    exec .activationComplete s =
      .next (settleField (navigationField (s.setDue (s.due.erase .navigation)))) := by
  have hall : ∀ j : Fin 6, j ∈ allSlots := by decide
  have hany : allSlots.any (holdDue s) = true := List.any_eq_true.2 ⟨k, hall k, hk⟩
  have hevent : activationEvent s = settleField (actBlock s .navigation) := by
    rw [activationEvent, if_pos ⟨hdue, hany⟩]
  rw [actBlock_navigation hdue] at hevent
  exact congrArg Host.Outcome.next ((awake_of_high hreset _).trans hevent)

/-- A hold of 0 completes at once (R93). -/
theorem exec_activationComplete_over {k : Fin 6} (hreset : s.resetLow = false)
    (hdue : s.due.contains .navigation = false) (hk : allSlots.find? (holdOver s) = some k) :
    exec .activationComplete s = .next (settleField (deliverKeys (completeActivation k s))) := by
  have hevent : activationEvent s = settleField (deliverKeys (completeActivation k s)) := by
    rw [activationEvent, if_neg (by simp only [hdue, Bool.false_eq_true, false_and, not_false_eq_true]), hk]
  exact congrArg Host.Outcome.next ((awake_of_high hreset _).trans hevent)

theorem exec_pageTimeoutExpiry_due (hreset : s.resetLow = false) (hdue : s.due.contains .navigation = true)
    (hout : timeoutDue s = true) : exec .pageTimeoutExpiry s =
      .next (settleField (navigationField (s.setDue (s.due.erase .navigation)))) := by
  have hevent : timeoutEvent s = settleField (actBlock s .navigation) := by rw [timeoutEvent, if_pos ⟨hdue, hout⟩]
  rw [actBlock_navigation hdue] at hevent
  exact congrArg Host.Outcome.next ((awake_of_high hreset _).trans hevent)

end Rows

/-! ### Running holds (R94, R95) -/

section Hold

variable {s : State} {k : Fin 6}

theorem completeActivation_none (h : activatedIndex (slotAt k s) = none) : completeActivation k s = s := by
  simp only [completeActivation, h]

theorem countHold_none (h : activatedIndex (slotAt k s) = none) : countHold s k = s := by
  simp only [countHold, h]

variable {i : Nat} (hi : activatedIndex (slotAt k s) = some i)

include hi

theorem completeActivation_some : completeActivation k s = finishActivation k i s := by
  simp only [completeActivation, hi]

/-- A running hold in a READY slot goes down by 1, but for one that began at this field start, and ends at 0. -/
theorem countHold_some {b : ButtonLive} (hb : (slotAt k s).buttons[i]? = some b) :
    countHold s k = if (slotAt k s).st ≠ .ready ∨ b.since = s.disp.counter then s
      else if (slotAt k s).hold ≤ 1 then
        finishActivation k i (setSlot k { slotAt k s with hold := (slotAt k s).hold - 1 } s)
      else setSlot k { slotAt k s with hold := (slotAt k s).hold - 1 } s := by
  simp only [countHold, hi, hb, fieldNow, beq_iff_eq]

end Hold

/-- An activation that completes: the button returns to SELECTED, the outcome of its branch runs, the report follows
(R95, R98). -/
theorem finishActivation_eq {s : State} {k : Fin 6} {i : Nat} {d : PageDef} {r : PageRef} {b : Button}
    (hpage : (slotAt k s).page = some r) (hd : (slotAt k s).defn = some d) (hb : d.buttons[i]? = some b) :
    finishActivation k i s =
      (let branch := testResult b.test (s.nav.vars[b.test.var])
       let x := if branch = true then b.onTrue else b.onFalse
       let u := runOutcome ⟨r, b.id.setWidth 16⟩ x (raiseRecompose (setSlot k { slotAt k s with
         buttons := (slotAt k s).buttons.set i ⟨.selected, s.disp.counter⟩, hold := 0 } s))
       reportOutcome ⟨r, b.id.setWidth 16⟩ x branch u.nav.vars[b.test.var] u) := by
  have hbutton : (slotAt k s).defn.bind (fun d => d.buttons[i]?) = some b := by rw [hd, Option.bind_some, hb]
  unfold finishActivation
  dsimp only
  split
  · rename_i hr hfound
    cases hpage.symm.trans hr
    cases hbutton.symm.trans hfound
    rfl
  · rename_i hno
    exact absurd hbutton (hno r b hpage)

/-! ### The page timeout of the focus (R107, R108) -/

section Timeout

variable {s : State} {k : Fin 6}

theorem focusSlot_eq_some : focusSlot s = some k ↔
    ∃ e, focusEntry s = some e ∧ e.st = .shown ∧ readySlot e.page s = some k := by
  unfold focusSlot
  cases focusEntry s <;> simp

/-- The counter of the focus page counts while no hold runs and the latch is not 0. -/
theorem timerCounts_iff : timerCounts k s = true ↔
    (∃ e, focusEntry s = some e ∧ e.st = .shown ∧ readySlot e.page s = some k) ∧
      activatedIndex (slotAt k s) = none ∧ (slotAt k s).latch ≠ 0 := by
  rw [← focusSlot_eq_some]
  simp [timerCounts, holdRunning, and_assoc]

theorem countTimeout_off (h : timerCounts k s = false) : countTimeout s k = s := by
  rw [countTimeout, if_neg (by simp [h])]

variable (h : timerCounts k s = true)

include h

theorem countTimeout_reloads (hreload : (slotAt k s).mark = true ∨ (slotAt k s).timer = 0) :
    countTimeout s k = setSlot k { slotAt k s with timer := (slotAt k s).latch, mark := false } s := by
  rw [countTimeout, if_pos h]
  dsimp only
  split
  · rfl
  · rename_i hmark
    rw [if_pos (hreload.resolve_left hmark)]
    rfl

variable (hmark : (slotAt k s).mark = false)

include hmark

theorem countTimeout_down (htimer : 2 ≤ (slotAt k s).timer.toNat) : countTimeout s k =
    setSlot k { slotAt k s with timer := (slotAt k s).timer - 1, mark := false } s := by
  have h0 : (slotAt k s).timer ≠ 0 := fun hzero => absurd htimer (by rw [hzero]; decide)
  have h1 : (slotAt k s).timer ≠ 1 := fun hone => absurd htimer (by rw [hone]; decide)
  rw [countTimeout, if_pos h]
  dsimp only
  rw [if_neg (by simp [hmark]), if_neg h0, if_neg h1]
  rfl

theorem countTimeout_expires (htimer : (slotAt k s).timer = 1) : countTimeout s k =
    expireTimeout k (setSlot k { slotAt k s with timer := 0, mark := false } s) := by
  have h0 : (slotAt k s).timer ≠ 0 := by rw [htimer]; decide
  have hlast : (slotAt k s).timer - 1 = 0 := by rw [htimer]; decide
  rw [countTimeout, if_pos h]
  dsimp only
  rw [if_neg (by simp [hmark]), if_neg h0, if_pos htimer, hlast]
  rfl

end Timeout

/-- A timeout that expires runs its outcome, reports it, and reloads the counter of the page where it still is
(R108). -/
theorem expireTimeout_eq {s : State} {k : Fin 6} {d : PageDef} {r : PageRef} (hpage : (slotAt k s).page = some r)
    (hd : (slotAt k s).defn = some d) : expireTimeout k s =
      (let w := reportOutcome ⟨r, indexTimeout⟩ d.timeoutAct true 0 (runOutcome ⟨r, indexTimeout⟩ d.timeoutAct s)
       match readySlot r w with
       | none => w
       | some j => setSlot j { slotAt j w with timer := (slotAt j w).latch } w) := by
  unfold expireTimeout
  dsimp only
  split
  · rename_i hr hdefn
    cases hpage.symm.trans hr
    cases hd.symm.trans hdefn
    rfl
  · rename_i hno
    exact absurd hd (hno r d hpage)

end Sys2Proof.Machine

namespace Sys2Proof.Machine

open Sys2Proof

/-! ## Outcomes (R99 to R102) -/

section Outcome

variable {s : State} {x : Action} {a : Acting}

/-- A page id in range names the target where a MENU page of that id is defined (R99). -/
theorem targetPage_menu {t : Int} {o : Owner} {p : Fin 32} (ht : (p.val : Int) = t)
    (hmenu : isMenuPage ⟨o, p⟩ s = true) : targetPage t o s = some ⟨o, p⟩ := by
  subst ht
  have hp : Fin.ofNat 32 (p.val : Int).toNat = p := Fin.ext (Nat.mod_eq_of_lt p.isLt)
  have hrange : 0 ≤ (p.val : Int) ∧ (p.val : Int) < 32 := by omega
  rw [targetPage, if_pos hrange, hp]
  exact if_pos hmenu

/-- Out of range, or without such a page, there is no target. -/
theorem targetPage_none {t : Int} {o : Owner}
    (h : ∀ p : Fin 32, (p.val : Int) = t → isMenuPage ⟨o, p⟩ s = false) : targetPage t o s = none := by
  unfold targetPage
  split
  · rename_i hrange
    have hp : ((Fin.ofNat 32 t.toNat).val : Int) = t := by
      rw [Fin.val_ofNat]
      omega
    exact if_neg (Bool.eq_false_iff.1 (h _ hp))
  · rfl

/-- GOTO and CALL to a target: CALL without room is STACK_FULL (R100, R102). -/
theorem runOutcome_target (hkind : x.kind = .goto ∨ x.kind = .call) {target : PageRef}
    (h : targetPage (resolveTarget x a.page) a.page.owner s = some target) : runOutcome a x s =
      if x.kind = .goto then gotoPage a.page target s
      else (callPage a.page target s).getD (pageFaultNotice a outcomeStackFull 0 s) := by
  rcases hkind with hkind | hkind <;> simp [runOutcome, hkind, h]

theorem runOutcome_badTarget (hkind : x.kind = .goto ∨ x.kind = .call)
    (h : targetPage (resolveTarget x a.page) a.page.owner s = none) : runOutcome a x s =
      pageFaultNotice a outcomeBadTarget (BitVec.ofInt 32 (resolveTarget x a.page)) s := by
  rcases hkind with hkind | hkind <;> simp [runOutcome, hkind, h]

theorem runOutcome_nothing (h : x.kind = .nothing) : runOutcome a x s = s := by simp only [runOutcome, h]

theorem runOutcome_goBack (h : x.kind = .goBack) : runOutcome a x s = returnFrom a.page s := by
  simp only [runOutcome, h]

theorem runOutcome_hide (h : x.kind = .hide) : runOutcome a x s = startLeaving a.page s := by
  simp only [runOutcome, h]

theorem runOutcome_select (h : x.kind = .select) : runOutcome a x s = match readySlot a.page s with
    | none => s
    | some k => selectButton k (x.target.setWidth 8) s := by
  cases hk : readySlot a.page s <;> simp only [runOutcome, h, hk]

section Setvar

variable (h : x.kind = .setvar)

include h

theorem runOutcome_setvar {v : Fin 16} (hv : x.target.toNat = v.val) (hlow : v.val < 12) :
    runOutcome a x s = s.setNav { s.nav with vars := s.nav.vars.set v x.value } := by
  have hnum : Fin.ofNat 16 v.val = v := Fin.ext (Nat.mod_eq_of_lt v.isLt)
  simp only [runOutcome, h, hv, if_pos hlow, hnum]
  rfl

theorem runOutcome_readOnly (hhigh : 12 ≤ x.target.toNat) :
    runOutcome a x s = pageFaultNotice a outcomeReadOnly (x.target.setWidth 32) s := by
  simp only [runOutcome, h, if_neg (Nat.not_lt.2 hhigh)]

end Setvar

theorem slidesRunFor_iff {o : Owner} : slidesRunFor o s = true ↔ s.seqr.st ≠ .stopped ∧ s.seqr.owner = o := by
  simp [slidesRunFor]

section Slide

variable (h : x.kind = .slide)

include h

theorem runOutcome_slide (hst : s.seqr.st ≠ .stopped) (howner : s.seqr.owner = a.page.owner) :
    runOutcome a x s = slideOperation x.target.toNat s := by
  simp only [runOutcome, h, if_pos (slidesRunFor_iff.2 ⟨hst, howner⟩)]

theorem runOutcome_noSlides (hno : s.seqr.st = .stopped ∨ s.seqr.owner ≠ a.page.owner) :
    runOutcome a x s = pageFaultNotice a outcomeNoSlides (x.target.setWidth 32) s := by
  have hruns : ¬ slidesRunFor a.page.owner s = true := by
    rw [slidesRunFor_iff]
    tauto
  simp only [runOutcome, h, if_neg hruns]

end Slide

end Outcome

/-- Settles O39: the rows, the counters slot by slot, what completes or expires, and the outcomes by kind. -/
theorem activationsAndTimeoutsRunOut : Obligations.ActivationsAndTimeoutsRunOut := by
  refine ⟨fun s k => exec_activationComplete_due, fun s k => exec_activationComplete_over,
    fun s => exec_pageTimeoutExpiry_due, fun s => ?_,
    fun s k => ⟨fun hnone => ⟨countHold_none hnone, completeActivation_none hnone⟩, fun i b hi hb => ?_⟩,
    fun s k => ⟨timerCounts_iff, countTimeout_off, countTimeout_reloads, countTimeout_down, countTimeout_expires⟩,
    fun s k i d r b hpage hd hb => finishActivation_eq hpage hd hb,
    fun s k d r hpage hd => expireTimeout_eq hpage hd, fun s r index x => ?_⟩
  · unfold navigationField timeoutsField
    generalize allSlots.foldl countHold s = u
    rfl
  · intro counted
    rw [countHold_some hi hb]
    refine ⟨completeActivation_some hi, fun hstays => if_pos hstays, fun hst hsince => ?_⟩
    have hcounts : ¬ ((slotAt k s).st ≠ .ready ∨ b.since = s.disp.counter) := not_or.2 ⟨not_not.2 hst, hsince⟩
    rw [if_neg hcounts]
    exact ⟨fun hmore => if_neg (Nat.not_le.2 hmore), fun hlast => if_pos hlast⟩
  · intro target run fault
    refine ⟨runOutcome_nothing, fun hkind => ⟨fun p hp hmenu => ?_, fun hbad => ?_⟩, runOutcome_goBack,
      runOutcome_hide, runOutcome_select, fun hkind => ⟨fun v => runOutcome_setvar hkind, runOutcome_readOnly hkind⟩,
      fun hkind => ⟨fun hst howner => ?_, runOutcome_noSlides (a := ⟨r, index⟩) hkind⟩⟩
    · exact runOutcome_target hkind (targetPage_menu hp hmenu)
    · exact runOutcome_badTarget hkind (targetPage_none hbad)
    · have hrun := runOutcome_slide (a := ⟨r, index⟩) hkind hst howner
      refine ⟨fun hop => ?_, fun hop => ?_, fun hop => ?_, fun hop => ?_⟩ <;>
      · rw [hop] at hrun
        exact hrun

end Sys2Proof.Machine

namespace Sys2Proof.Machine

open Sys2Proof

/-! ## SLIDE_PAUSE, SLIDE_RESUME, SET_HOLD (R123, R124) -/

theorem pausable_eq_false_iff {s : State} : pausable s = false ↔ s.seqr.st = .stopped ∨ s.seqr.st = .ended := by
  unfold pausable
  cases s.seqr.st <;> decide

section Hold

variable {s : State}

theorem doSlidePause_refused (h : s.seqr.st = .stopped ∨ s.seqr.st = .ended) :
    doSlidePause s = refusedWith .wrongState s :=
  if_neg (by simp [pausable_eq_false_iff.2 h])

theorem doSlideResume_refused (h : s.seqr.st = .stopped ∨ s.seqr.st = .ended) :
    doSlideResume s = refusedWith .wrongState s :=
  if_neg (by simp [pausable_eq_false_iff.2 h])

theorem pausable_of_st {st : SeqState} (h : s.seqr.st = st) (hst : st ≠ .stopped ∧ st ≠ .ended) :
    pausable s = true := by
  simp [pausable, h, hst]

/-- A slide that is held is PAUSED at once, one that is awaited or brought in once it is held (R123). -/
theorem doSlidePause_holding (h : s.seqr.st = .holding) :
    doSlidePause s = done (updateSeq (fun q => { q with st := .paused }) s) := by
  rw [doSlidePause, if_pos (pausable_of_st h (by decide))]
  simp only [pauseShow, h]

theorem doSlidePause_awaiting (h : s.seqr.st = .waiting ∨ s.seqr.st = .transitioning) :
    doSlidePause s = done (updateSeq (fun q => { q with pendingPause := true }) s) := by
  rcases h with h | h <;>
  · rw [doSlidePause, if_pos (pausable_of_st h (by decide))]
    simp only [pauseShow, h]

theorem doSlidePause_paused (h : s.seqr.st = .paused) : doSlidePause s = done s := by
  rw [doSlidePause, if_pos (pausable_of_st h (by decide))]
  simp only [pauseShow, h]

theorem doSlideResume_holding (h : s.seqr.st = .holding) : doSlideResume s = done s := by
  rw [doSlideResume, if_pos (pausable_of_st h (by decide))]
  simp only [resumeShow, h]

theorem doSlideResume_awaiting (h : s.seqr.st = .waiting ∨ s.seqr.st = .transitioning) :
    doSlideResume s = done (updateSeq (fun q => { q with pendingPause := false }) s) := by
  rcases h with h | h <;>
  · rw [doSlideResume, if_pos (pausable_of_st h (by decide))]
    simp only [resumeShow, h]

/-- The hold goes on from its counter, or from the latch where that was written meanwhile (R123, R124). -/
theorem doSlideResume_paused (h : s.seqr.st = .paused) : doSlideResume s = done (updateSeq (fun q => { q with
    st := .holding
    counter := if q.latchMark then q.latch else q.counter
    latchMark := false
    holdFresh := s.due.contains .sequencer }) s) := by
  rw [doSlideResume, if_pos (pausable_of_st h (by decide))]
  simp only [resumeShow, h]

theorem doSetHold_running (h : s.seqr.st ≠ .stopped) (v : Half) (restart : Byte) :
    doSetHold v restart s = done (s.setSeqr (
      if restart ≠ 0 then { s.seqr with latch := v, counter := v, latchMark := false }
      else { s.seqr with latch := v, latchMark := s.seqr.latchMark || s.seqr.st == .paused })) := by
  rw [doSetHold, if_neg h, ite_not]
  rfl

end Hold

/-- Settles O42, by what each body answers in each state of the Sequencer. -/
theorem holdsPauseAndResume : Obligations.HoldsPauseAndResume := by
  intro s hopen
  have hpause {a : Answer} (ha : doSlidePause (crossed 0 s) = a) :
      exec .slidePause s = .next (placeReply 0x32 a.code a.data a.state) := exec_answers hopen rfl rfl rfl ha
  have hresume {a : Answer} (ha : doSlideResume (crossed 0 s) = a) :
      exec .slideResume s = .next (placeReply 0x33 a.code a.data a.state) := exec_answers hopen rfl rfl rfl ha
  have hset {v : Half} {restart : Byte} {a : Answer} (ha : doSetHold v restart (crossed 3 s) = a) :
      exec (.setHold v restart) s = .next (placeReply 0x35 a.code a.data a.state) := exec_answers hopen rfl rfl rfl ha
  refine ⟨fun h => ⟨?_, ?_⟩, fun h => ⟨?_, ?_⟩, fun h => ⟨?_, ?_⟩, fun h => ⟨?_, ?_⟩, fun h v restart => ?_,
    fun h v restart => ?_⟩
  · exact hpause (doSlidePause_refused (s := crossed 0 s) h)
  · exact hresume (doSlideResume_refused (s := crossed 0 s) h)
  · exact hpause (doSlidePause_holding (s := crossed 0 s) h)
  · exact hresume (doSlideResume_holding (s := crossed 0 s) h)
  · exact hpause (doSlidePause_paused (s := crossed 0 s) h)
  · exact hresume (doSlideResume_paused (s := crossed 0 s) h)
  · exact hpause (doSlidePause_awaiting (s := crossed 0 s) h)
  · exact hresume (doSlideResume_awaiting (s := crossed 0 s) h)
  · exact hset (a := refusedWith .wrongState (crossed 3 s)) (if_pos h)
  · exact hset (doSetHold_running (s := crossed 3 s) h v restart)

/-! ## SLIDE_START and SLIDE_STOP (R116, R117, R125) -/

section Start

variable {s : State}

theorem doSlideStart_badArgument {owner list : Byte} (h : 1 < owner.toNat ∨ 2 ≤ list.toNat) (index : Byte) :
    doSlideStart owner list index s = refusedWith .badArgument s := by
  unfold doSlideStart
  cases howner : decodeOwner owner with
  | none => rfl
  | some o =>
    rcases h with hlow | hlist
    · cases (decodeOwner_none hlow).symm.trans howner
    · exact if_pos hlist

variable {owner list : Byte} {o : Owner} {q : Fin 2} (howner : decodeOwner owner = some o) (hlist : list.toNat = q.val)

include howner hlist

theorem doSlideStart_undefined (h : slideList o q s = none) (index : Byte) :
    doSlideStart owner list index s = refusedWith .notDefined s := by
  have hq : Fin.ofNat 2 list.toNat = q := by simp [hlist]
  simp only [doSlideStart, howner, if_neg (show ¬ 2 ≤ list.toNat by omega), hq, h]

theorem doSlideStart_defined {l : SlideList} (h : slideList o q s = some l) (index : Byte) :
    doSlideStart owner list index s = if l.entries.length ≤ index.toNat then refusedWith .badArgument s
      else done (startShow o q index.toNat s) := by
  have hq : Fin.ofNat 2 list.toNat = q := by simp [hlist]
  simp only [doSlideStart, howner, if_neg (show ¬ 2 ≤ list.toNat by omega), hq, h]

end Start

/-- The show from the index given, before its first page is sought (R116). -/
def showBegun (o : Owner) (q : Fin 2) (i : Nat) (s : State) : State :=
  s.setSeqr { s.seqr with
    st := .waiting, owner := o, list := q, index := i, back := false, shown := none, pendingPause := false }

section Begun

variable {s : State} {o : Owner} {q : Fin 2} {l : SlideList} {i : Nat} {e : SlideEntry}
  (hl : slideList o q s = some l) (he : l.entries[i]? = some e)

theorem startShow_stopped (hst : s.seqr.st = .stopped) : startShow o q i s =
    if playable (showBegun o q i s) i = true then moveTo i false (showBegun o q i s)
    else searchMove false (showBegun o q i s) := by
  simp only [startShow, if_pos hst]
  rfl

include hl he

theorem entry_showBegun : (runningEntries (showBegun o q i s))[i]? = some e := by
  have hl' : slideList (showBegun o q i s).seqr.owner (showBegun o q i s).seqr.list (showBegun o q i s) = some l := hl
  simp only [runningEntries, hl', he]

/-- A playable page that is not READY is awaited and becomes the wanted page (R117). -/
theorem startShow_waits (hst : s.seqr.st = .stopped) (hslide : isSlidePage ⟨o, e.page⟩ s = true)
    (hready : readySlot ⟨o, e.page⟩ s = none) :
    startShow o q i s = awaiting false i ⟨o, e.page⟩ (showBegun o q i s) := by
  have hentry := entry_showBegun hl he
  have hpage : pageAt i (showBegun o q i s) = some ⟨o, e.page⟩ := pageAt_eq hentry
  have hplayable : playable (showBegun o q i s) i = true := by
    simp only [playable, hpage]
    exact hslide
  rw [startShow_stopped hst, if_pos hplayable, moveTo_eq false hpage]
  refine tryBringIn_unready (entry_awaiting hentry false _) ?_
  have hwaits : readySlot ⟨o, e.page⟩ (unrequested false i ⟨o, e.page⟩ (showBegun o q i s)) = none := by
    rw [readySlot_unrequested]
    exact hready
  rw [seqr_awaiting]
  exact readySlot_requestPage_none .sequencer hwaits

end Begun

/-- Settles O41: the refusals of SLIDE_START in their order, the page that a new show waits for, and what a stop
leaves. -/
theorem showsStartAndStop : Obligations.ShowsStartAndStop := by
  refine ⟨fun s owner list index hopen => ?_, fun s hopen => ⟨fun hst => ?_, fun hst => ?_⟩⟩
  · have hstart {a : Answer} (ha : doSlideStart owner list index (crossed 3 s) = a) :
        exec (.slideStart owner list index) s = .next (placeReply 0x30 a.code a.data a.state) :=
      exec_answers hopen rfl rfl rfl ha
    refine ⟨fun hbad => hstart (doSlideStart_badArgument hbad index), fun o q howner hlist => ?_⟩
    refine ⟨fun hnone => hstart (doSlideStart_undefined (s := crossed 3 s) howner hlist hnone index), fun l hl => ?_⟩
    have hrow := doSlideStart_defined (s := crossed 3 s) howner hlist hl index
    have hruns (hindex : index.toNat < l.entries.length) : exec (.slideStart owner list index) s =
        .next (placeReply 0x30 .ok [] (startShow o q index.toNat (crossed 3 s))) :=
      hstart (hrow.trans (if_neg (Nat.not_le.2 hindex)))
    refine ⟨fun hindex => hstart (hrow.trans (if_pos hindex)), hruns, fun e he hst hslide hready => ?_⟩
    obtain ⟨hindex, -⟩ := List.getElem?_eq_some_iff.1 he
    refine ⟨_, hruns hindex, ?_⟩
    rw [startShow_waits (s := crossed 3 s) hl he hst hslide hready]
    exact seqr_awaiting ..
  · have hstop : doSlideStop (crossed 0 s) = done (crossed 0 s) := congrArg done (if_pos hst)
    exact exec_answers hopen (n := 0) rfl rfl rfl hstop
  · have hstop : doSlideStop (crossed 0 s) = done (stopShow stoppedCommand (crossed 0 s)) := congrArg done (if_neg hst)
    have hexec := exec_answers (i := .slideStop) (n := 0) hopen rfl rfl rfl hstop
    refine ⟨_, hexec, ?_, rfl, stillOffLink_interactive rfl hexec⟩
    rw [stopShow_eq]
    rfl

end Sys2Proof.Machine

namespace Sys2Proof.Machine

open Sys2Proof

/-! ## The search for a playable entry (R115) -/

/-- Of a list in the order of a key, the first element of a kind is that of the least key. -/
theorem find?_eq_some_iff_least {l : List Nat} {p : Nat → Bool} {key : Nat → Nat}
    (h : l.Pairwise (fun a b => key a < key b)) (j : Nat) :
    l.find? p = some j ↔ j ∈ l ∧ p j = true ∧ ∀ x ∈ l, p x = true → key j ≤ key x := by
  induction l with
  | nil => simp
  | cons a l ih =>
    obtain ⟨hless, hl⟩ := List.pairwise_cons.1 h
    cases ha : p a with
    | true =>
      rw [List.find?_cons_of_pos ha, Option.some.injEq]
      refine ⟨fun e => ?_, fun ⟨hmem, _, hleast⟩ => ?_⟩
      · subst e
        exact ⟨List.mem_cons_self, ha, fun x hx _ => (List.mem_cons.1 hx).elim (fun e => e ▸ Nat.le_refl _)
          fun hx => (hless x hx).le⟩
      · rcases List.mem_cons.1 hmem with e | hj
        · exact e.symm
        · exact absurd (hleast a List.mem_cons_self ha) (Nat.not_le.2 (hless j hj))
    | false =>
      rw [List.find?_cons_of_neg (by simp [ha]), ih hl]
      refine ⟨fun ⟨hmem, hj, hleast⟩ => ⟨List.mem_cons_of_mem a hmem, hj, fun x hx hpx => ?_⟩,
        fun ⟨hmem, hj, hleast⟩ => ⟨?_, hj, fun x hx => hleast x (List.mem_cons_of_mem a hx)⟩⟩
      · rcases List.mem_cons.1 hx with rfl | hx
        · cases ha.symm.trans hpx
        · exact hleast x hx hpx
      · rcases List.mem_cons.1 hmem with rfl | hmem
        · cases ha.symm.trans hj
        · exact hmem

/-! ### The orders in which a search looks (R115) -/

/-- A number that lies at most twice round a list beyond an index leaves that index. -/
theorem mod_of_rounds {a len n : Nat} (h : a = n ∨ a = n + len ∨ a = n + 2 * len) (hn : n < len) : a % len = n := by
  rcases h with rfl | rfl | rfl <;> simp [Nat.mod_eq_of_lt hn]

section Orders

variable {len i n x : Nat} (hi : i < len)

include hi

/-- How far an entry lies ahead of entry i, going round; entry i itself is farthest. -/
theorem ahead_of_step (hn : n < len) : ((i + 1 + n) % len + len - 1 - i) % len = n := by
  rcases Nat.lt_or_ge (i + 1 + n) len with hlow | hhigh
  · have hstep : (i + 1 + n) % len = i + 1 + n := Nat.mod_eq_of_lt hlow
    exact mod_of_rounds (by omega) hn
  · have hstep : (i + 1 + n) % len = i + 1 + n - len := mod_of_rounds (by omega) (by omega)
    exact mod_of_rounds (by omega) hn

theorem step_of_ahead (hx : x < len) : (i + 1 + (x + len - 1 - i) % len) % len = x := by
  rcases Nat.lt_or_ge i x with hix | hxi
  · have hahead : (x + len - 1 - i) % len = x - 1 - i := mod_of_rounds (by omega) (by omega)
    exact mod_of_rounds (by omega) hx
  · have hahead : (x + len - 1 - i) % len = x + len - 1 - i := Nat.mod_eq_of_lt (by omega)
    exact mod_of_rounds (by omega) hx

/-- How far an entry lies behind entry i, going round; entry i itself is farthest. -/
theorem behind_of_step (hn : n < len) : (i + len - 1 - (i + 2 * len - 1 - n) % len) % len = n := by
  rcases Nat.lt_or_ge n i with hlow | hhigh
  · have hstep : (i + 2 * len - 1 - n) % len = i - 1 - n := mod_of_rounds (by omega) (by omega)
    exact mod_of_rounds (by omega) hn
  · have hstep : (i + 2 * len - 1 - n) % len = i + len - 1 - n := mod_of_rounds (by omega) (by omega)
    exact mod_of_rounds (by omega) hn

theorem step_of_behind (hx : x < len) : (i + 2 * len - 1 - (i + len - 1 - x) % len) % len = x := by
  rcases Nat.lt_or_ge x i with hxi | hix
  · have hbehind : (i + len - 1 - x) % len = i - 1 - x := mod_of_rounds (by omega) (by omega)
    exact mod_of_rounds (by omega) hx
  · have hbehind : (i + len - 1 - x) % len = i + len - 1 - x := Nat.mod_eq_of_lt (by omega)
    exact mod_of_rounds (by omega) hx

omit hi in
/-- A way round visits every entry once, in the order of the steps it takes. -/
theorem round_order {f d : Nat → Nat} (hd : ∀ n, n < len → d (f n) = n) (hf : ∀ n, f n < len)
    (hback : ∀ x, x < len → d x < len ∧ f (d x) = x) :
    ((List.range len).map f).Pairwise (fun a b => d a < d b) ∧ ∀ x, x ∈ (List.range len).map f ↔ x < len := by
  refine ⟨?_, fun x => ?_⟩
  · rw [List.pairwise_map]
    refine List.Pairwise.imp_of_mem (fun ha hb hless => ?_) List.pairwise_lt_range
    rwa [hd _ (List.mem_range.1 ha), hd _ (List.mem_range.1 hb)]
  · rw [List.mem_map]
    refine ⟨fun ⟨n, _, e⟩ => e ▸ hf n, fun hx => ⟨d x, List.mem_range.2 (hback x hx).1, (hback x hx).2⟩⟩

theorem forwardOrder_loop :
    (forwardOrder true len i).Pairwise (fun a b => (a + len - 1 - i) % len < (b + len - 1 - i) % len) ∧
      ∀ x, x ∈ forwardOrder true len i ↔ x < len :=
  round_order (fun _ hn => ahead_of_step hi hn) (fun _ => Nat.mod_lt _ (by omega))
    fun _ hx => ⟨Nat.mod_lt _ (by omega), step_of_ahead hi hx⟩

theorem backOrder_loop :
    (backOrder true len i).Pairwise (fun a b => (i + len - 1 - a) % len < (i + len - 1 - b) % len) ∧
      ∀ x, x ∈ backOrder true len i ↔ x < len :=
  round_order (fun _ hn => behind_of_step hi hn) (fun _ => Nat.mod_lt _ (by omega))
    fun _ hx => ⟨Nat.mod_lt _ (by omega), step_of_behind hi hx⟩

omit hi in
theorem forwardOrder_ends : (forwardOrder false len i).Pairwise (fun a b => a < b) ∧
    ∀ x, x ∈ forwardOrder false len i ↔ x < len ∧ i < x := by
  refine ⟨List.pairwise_lt_range.filter _, fun x => ?_⟩
  simp [forwardOrder]

theorem backOrder_ends : (backOrder false len i).Pairwise (fun a b => i - a < i - b) ∧
    ∀ x, x ∈ backOrder false len i ↔ x < i := by
  have hmem : ∀ x, x ∈ backOrder false len i ↔ x < i := fun x => by
    simp only [backOrder, Bool.false_eq_true, if_false, List.mem_reverse, List.mem_filter, List.mem_range,
      decide_eq_true_eq]
    omega
  have hfalling : (backOrder false len i).Pairwise (fun a b => b < a) :=
    List.pairwise_reverse.2 (List.pairwise_lt_range.filter _)
  exact ⟨hfalling.imp_of_mem fun ha hb hless => by rw [hmem] at ha hb; omega, hmem⟩

end Orders

/-! ### What is found (R115) -/

/-- Entries beyond the list are not playable. -/
theorem lt_length_of_playable {s : State} {x : Nat} (h : playable s x = true) : x < (runningEntries s).length := by
  by_contra hx
  have hnone : pageAt x s = none := by simp [pageAt, Nat.not_lt.1 hx]
  simp [playable, hnone] at h

/-- The indexes that a search in a direction looks at (R115). -/
def searchOrder (back : Bool) (i : Nat) (s : State) : List Nat :=
  if back then backOrder (runningLoops s) (runningEntries s).length i
  else forwardOrder (runningLoops s) (runningEntries s).length i

theorem searchOrder_forward (i : Nat) (s : State) :
    searchOrder false i s = forwardOrder (runningLoops s) (runningEntries s).length i := rfl

theorem searchOrder_back (i : Nat) (s : State) :
    searchOrder true i s = backOrder (runningLoops s) (runningEntries s).length i := rfl

/-- What a search answers where no entry that it looks at is playable (R115). -/
def missed (back loop : Bool) : Found := if loop then .nothing else if back then .offStart else .offEnd

section Searching

variable {s : State} {back : Bool} {i : Nat}

theorem searchFrom_eq : searchFrom back i s =
    (((searchOrder back i s).find? (playable s)).map Found.entry).getD (missed back (runningLoops s)) := by
  unfold searchFrom searchOrder missed
  dsimp only
  split
  · rename_i k hk
    rw [hk]
    rfl
  · rename_i hnone
    rw [hnone]
    rfl

theorem missed_ne_entry (back loop : Bool) (j : Nat) : missed back loop ≠ .entry j := by
  cases back <;> cases loop <;> exact Found.noConfusion

theorem searchFrom_eq_entry_iff (j : Nat) :
    searchFrom back i s = .entry j ↔ (searchOrder back i s).find? (playable s) = some j := by
  rw [searchFrom_eq]
  cases (searchOrder back i s).find? (playable s) with
  | none => simp [missed_ne_entry]
  | some k => simp

/-- A search finds nothing where nothing that it looks at is playable. -/
theorem searchFrom_eq_missed_iff :
    searchFrom back i s = missed back (runningLoops s) ↔ ∀ x ∈ searchOrder back i s, playable s x = false := by
  have hnone : (∀ x ∈ searchOrder back i s, playable s x = false) ↔
      (searchOrder back i s).find? (playable s) = none := by simp
  rw [hnone, searchFrom_eq]
  cases (searchOrder back i s).find? (playable s) with
  | none => simp
  | some k => simp [(missed_ne_entry back (runningLoops s) k).symm]

/-- A search that looks at its entries in the order of a key finds the playable one of the least key. -/
theorem searchFrom_least {key : Nat → Nat} (hsorted : (searchOrder back i s).Pairwise (fun a b => key a < key b))
    (j : Nat) : searchFrom back i s = .entry j ↔ j ∈ searchOrder back i s ∧ playable s j = true ∧
      ∀ x ∈ searchOrder back i s, playable s x = true → key j ≤ key x := by
  rw [searchFrom_eq_entry_iff, find?_eq_some_iff_least hsorted]

/-- A search that goes round looks at every entry, and only entries are playable. -/
theorem searchFrom_round {key : Nat → Nat} (hsorted : (searchOrder back i s).Pairwise (fun a b => key a < key b))
    (hall : ∀ x, x ∈ searchOrder back i s ↔ x < (runningEntries s).length) (j : Nat) :
    searchFrom back i s = .entry j ↔ playable s j = true ∧ ∀ x, playable s x = true → key j ≤ key x := by
  rw [searchFrom_least hsorted]
  simp only [hall]
  exact ⟨fun ⟨_, hj, hleast⟩ => ⟨hj, fun x hx => hleast x (lt_length_of_playable hx) hx⟩,
    fun ⟨hj, hleast⟩ => ⟨lt_length_of_playable hj, hj, fun x _ hx => hleast x hx⟩⟩

end Searching

section Loop

variable {s : State} {i : Nat} (hi : i < (runningEntries s).length) (hloop : runningLoops s = true)

include hi hloop

theorem mem_searchOrder_loop (back : Bool) (x : Nat) :
    x ∈ searchOrder back i s ↔ x < (runningEntries s).length := by
  cases back with
  | false =>
    rw [searchOrder_forward, hloop]
    exact (forwardOrder_loop hi).2 x
  | true =>
    rw [searchOrder_back, hloop]
    exact (backOrder_loop hi).2 x

theorem searchFrom_loop_nothing (back : Bool) : searchFrom back i s = .nothing ↔ ∀ x, playable s x = false := by
  have hmissed := searchFrom_eq_missed_iff (s := s) (back := back) (i := i)
  rw [hloop] at hmissed
  refine hmissed.trans ⟨fun h x => Bool.eq_false_iff.2 fun hx => ?_, fun h x _ => h x⟩
  have hfalse := h x ((mem_searchOrder_loop hi hloop back x).2 (lt_length_of_playable hx))
  exact Bool.false_ne_true (hfalse.symm.trans hx)

theorem searchFrom_loop_forward (j : Nat) : searchFrom false i s = .entry j ↔ playable s j = true ∧
    ∀ x, playable s x = true → (j + (runningEntries s).length - 1 - i) % (runningEntries s).length ≤
      (x + (runningEntries s).length - 1 - i) % (runningEntries s).length := by
  obtain ⟨hsorted, -⟩ := forwardOrder_loop hi
  rw [← hloop, ← searchOrder_forward] at hsorted
  exact searchFrom_round hsorted (mem_searchOrder_loop hi hloop false) j

theorem searchFrom_loop_back (j : Nat) : searchFrom true i s = .entry j ↔ playable s j = true ∧
    ∀ x, playable s x = true → (i + (runningEntries s).length - 1 - j) % (runningEntries s).length ≤
      (i + (runningEntries s).length - 1 - x) % (runningEntries s).length := by
  obtain ⟨hsorted, -⟩ := backOrder_loop hi
  rw [← hloop, ← searchOrder_back] at hsorted
  exact searchFrom_round hsorted (mem_searchOrder_loop hi hloop true) j

end Loop

section Ends

variable {s : State} {i : Nat} (hends : runningLoops s = false)

include hends

theorem searchFrom_ends_forward (j : Nat) : searchFrom false i s = .entry j ↔
    i < j ∧ playable s j = true ∧ ∀ x, i < x → x < j → playable s x = false := by
  obtain ⟨hsorted, hmem⟩ := forwardOrder_ends (len := (runningEntries s).length) (i := i)
  rw [← hends, ← searchOrder_forward] at hsorted hmem
  rw [searchFrom_least (key := id) hsorted]
  simp only [hmem]
  refine ⟨fun ⟨⟨_, hij⟩, hj, hleast⟩ => ⟨hij, hj, fun x hix hxj => Bool.eq_false_iff.2 fun hx => ?_⟩,
    fun ⟨hij, hj, hbefore⟩ => ⟨⟨lt_length_of_playable hj, hij⟩, hj, fun x hx hplays => ?_⟩⟩
  · exact absurd (hleast x ⟨lt_length_of_playable hx, hix⟩ hx) (Nat.not_le.2 hxj)
  · exact Nat.le_of_not_lt fun hxj => Bool.false_ne_true ((hbefore x hx.2 hxj).symm.trans hplays)

theorem searchFrom_offEnd : searchFrom false i s = .offEnd ↔ ∀ x, i < x → playable s x = false := by
  have hmissed := searchFrom_eq_missed_iff (s := s) (back := false) (i := i)
  obtain ⟨-, hmem⟩ := forwardOrder_ends (len := (runningEntries s).length) (i := i)
  rw [searchOrder_forward, hends] at hmissed
  simp only [hmem] at hmissed
  refine hmissed.trans ⟨fun h x hix => Bool.eq_false_iff.2 fun hx => ?_, fun h x hx => h x hx.2⟩
  exact Bool.false_ne_true ((h x ⟨lt_length_of_playable hx, hix⟩).symm.trans hx)

variable (hi : i < (runningEntries s).length)

include hi

theorem searchFrom_ends_back (j : Nat) : searchFrom true i s = .entry j ↔
    j < i ∧ playable s j = true ∧ ∀ x, j < x → x < i → playable s x = false := by
  obtain ⟨hsorted, hmem⟩ := backOrder_ends hi
  rw [← hends, ← searchOrder_back] at hsorted hmem
  rw [searchFrom_least hsorted]
  simp only [hmem]
  refine ⟨fun ⟨hji, hj, hleast⟩ => ⟨hji, hj, fun x hjx hxi => Bool.eq_false_iff.2 fun hx => ?_⟩,
    fun ⟨hji, hj, hafter⟩ => ⟨hji, hj, fun x hxi hplays => ?_⟩⟩
  · have := hleast x hxi hx
    omega
  · have hxj : ¬ j < x := fun hjx => Bool.false_ne_true ((hafter x hjx hxi).symm.trans hplays)
    omega

theorem searchFrom_offStart : searchFrom true i s = .offStart ↔ ∀ x, x < i → playable s x = false := by
  have hmissed := searchFrom_eq_missed_iff (s := s) (back := true) (i := i)
  obtain ⟨-, hmem⟩ := backOrder_ends hi
  rw [searchOrder_back, hends] at hmissed
  simp only [hmem] at hmissed
  exact hmissed

end Ends

/-- Settles O40: each direction and mode looks at its entries in the order of a key, and the first playable one is that
of the least key. -/
theorem searchFindsTheFirstPlayable : Obligations.SearchFindsTheFirstPlayable :=
  fun _ _ hi => ⟨fun hloop => ⟨searchFrom_loop_forward hi hloop, searchFrom_loop_back hi hloop,
      searchFrom_loop_nothing hi hloop⟩,
    fun hends => ⟨searchFrom_ends_forward hends, searchFrom_ends_back hends hi, searchFrom_offEnd hends,
      searchFrom_offStart hends hi⟩⟩

end Sys2Proof.Machine

namespace Sys2Proof.Machine

open Sys2Proof

/-! ## CUE and SLIDELIST segments (R113, R126, R134, R135) -/

/-! ### The checks of a CUE payload (R134) -/

theorem condKind?_isNone_iff (b : Byte) : (condKind? b).isNone = true ↔ 6 ≤ b.toNat := by
  unfold condKind?
  split <;> simp_all
  omega

theorem mem_condChecks (p : List Byte) (a o : Nat) (level1 : Bool) : (true, o) ∈ condChecks p a level1 ↔
    (o = a ∧ (6 ≤ (byteAt p a).toNat ∨ (level1 = true ∧ byteAt p a = 0))) ∨
    (o = a + 1 ∧ (byteAt p a = 4 ∨ byteAt p a = 5) ∧ 16 ≤ (byteAt p (a + 1)).toNat) := by
  simp only [condChecks, List.mem_cons, List.not_mem_nil, or_false, failing_iff, Bool.or_eq_true, Bool.and_eq_true,
    beq_iff_eq, decide_eq_true_eq, condKind?_isNone_iff]

/-- The codes of the kinds that a cue's action may have with a target (R188). -/
theorem cueActionKind_iff (p : List Byte) (a : Nat) :
    ((parseAction p a).kind = .hide ↔ (byteAt p a).toNat = 4) ∧
    ((parseAction p a).kind = .bringUp ↔ (byteAt p a).toNat = 8) := by
  simp only [parseAction, actionKind?]
  split <;> simp_all

theorem cueActionKindOk_eq_false_iff (b : Byte) :
    (!cueActionKindOk b) = true ↔ b.toNat ∉ [0, 4, 5, 6, 7, 8] := by
  simp [cueActionKindOk]
  omega

theorem mem_cueActionChecks (p : List Byte) (a o : Nat) : (true, o) ∈ cueActionChecks p a ↔
    (o = a ∧ (byteAt p a).toNat ∉ [0, 4, 5, 6, 7, 8]) ∨
    (o = a + 2 ∧ (((byteAt p a).toNat ∈ [4, 5, 8] ∧ 32 ≤ (halfAt p (a + 2)).toNat) ∨
      ((byteAt p a).toNat = 6 ∧ 16 ≤ (halfAt p (a + 2)).toNat) ∨
      ((byteAt p a).toNat = 7 ∧ 4 ≤ (halfAt p (a + 2)).toNat))) ∨
    (o = a + 4 ∧ (byteAt p a).toNat = 5 ∧ 64 ≤ (wordAt p (a + 4)).toNat) := by
  obtain ⟨hselect, hsetvar, hslide⟩ := pageAction_kind_iff p a
  obtain ⟨hhide, hshow⟩ := cueActionKind_iff p a
  simp only [cueActionChecks, List.mem_cons, List.not_mem_nil, or_false, failing_iff, cueActionKindOk_eq_false_iff,
    Bool.and_eq_true, beq_iff_eq, decide_eq_true_eq, hselect]
  refine or_congr Iff.rfl (or_congr (and_congr_right fun _ => ?_) Iff.rfl)
  rw [← hselect, ← hsetvar, ← hslide, ← hhide, ← hshow]
  cases (parseAction p a).kind <;> simp <;> rfl

/-- The variable that a condition on variables names stands behind its kind (R133). -/
theorem variableBad_iff (p : List Byte) (o : Nat) :
    ((o = 3 ∨ o = 13) ∧ (byteAt p (o - 1) = 4 ∨ byteAt p (o - 1) = 5) ∧ 16 ≤ (byteAt p o).toNat) ↔
    (o = 3 ∧ (byteAt p 2 = 4 ∨ byteAt p 2 = 5) ∧ 16 ≤ (byteAt p 3).toNat) ∨
    (o = 13 ∧ (byteAt p 12 = 4 ∨ byteAt p 12 = 5) ∧ 16 ≤ (byteAt p 13).toNat) := by
  rw [or_and_right]
  exact or_congr (and_congr_right fun e => by rw [e]) (and_congr_right fun e => by rw [e])

/-- The checks of a CUE payload fail at its bad fields (R134). -/
theorem mem_cueChecks (p : List Byte) (o : Nat) :
    (true, o) ∈ [(decide (8 ≤ (byteAt p 0).toNat), 0)] ++ condChecks p 2 true ++ condChecks p 12 false ++
      cueActionChecks p 22 ↔ cueBad p o := by
  simp only [List.mem_append, mem_condChecks, mem_cueActionChecks, List.mem_cons, List.not_mem_nil, or_false,
    failing_iff, decide_eq_true_eq, cueBad, variableBad_iff, Bool.false_eq_true, false_and, true_and]
  refine iff_of_eq ?_
  ac_rfl

theorem risingChecks_cueChecks (p : List Byte) : risingChecks 0 32
    ([(decide (8 ≤ (byteAt p 0).toNat), 0)] ++ condChecks p 2 true ++ condChecks p 12 false ++
      cueActionChecks p 22) := by
  simp [condChecks, cueActionChecks, risingChecks]

theorem cueFault_badLength {p : List Byte} (h : p.length ≠ 32) : cueFault p = some (0x02, 0) := if_pos h

theorem cueFault_badField {p : List Byte} (h : p.length = 32) : refusedAtFirst (cueBad p) (cueFault p) := by
  rw [cueFault, if_neg (not_not.2 h)]
  exact refusedAtFirst_firstFault (risingChecks_cueChecks p) (mem_cueChecks p)

/-! ### The checks of a SLIDELIST payload (R113) -/

theorem mem_slideEntryChecks (p : List Byte) (i o : Nat) : (true, o) ∈ slideEntryChecks p i ↔
    (o = 3 + 5 * i ∧ 32 ≤ (byteAt p o).toNat) ∨ (o = 6 + 5 * i ∧ 4 ≤ (byteAt p o).toNat) := by
  have hkind : 3 + 5 * i + 3 = 6 + 5 * i := by omega
  simp only [slideEntryChecks, List.mem_cons, List.not_mem_nil, or_false, failing_iff, decide_eq_true_eq, hkind]
  exact or_congr (and_congr_right fun e => by rw [e]) (and_congr_right fun e => by rw [e])

/-- The checks of a SLIDELIST payload fail at its bad fields (R113). -/
theorem mem_slideListChecks (p : List Byte) (n o : Nat) :
    (true, o) ∈ [(decide (2 ≤ (byteAt p 0).toNat), 0), (decide (2 ≤ (byteAt p 1).toNat), 1)] ++
      (List.range n).flatMap (slideEntryChecks p) ↔ slideListBad p n o := by
  simp only [List.mem_append, List.mem_flatMap, List.mem_range, mem_slideEntryChecks, List.mem_cons, List.not_mem_nil,
    or_false, failing_iff, decide_eq_true_eq, slideListBad, or_and_right]
  exact or_congr (or_congr (and_congr_right fun e => by rw [e]) (and_congr_right fun e => by rw [e])) Iff.rfl

theorem risingChecks_slideListChecks (p : List Byte) (n : Nat) : risingChecks 0 (3 + 5 * n)
    ([(decide (2 ≤ (byteAt p 0).toNat), 0), (decide (2 ≤ (byteAt p 1).toNat), 1)] ++
      (List.range n).flatMap (slideEntryChecks p)) := by
  refine risingChecks_append (risingChecks_flatMap n fun i _ => ?_) (by simp [risingChecks])
  simp only [slideEntryChecks, risingChecks]
  omega

/-- The entry count is checked first, then the length, then every field in payload order (R113). -/
theorem slideListFault_order (p : List Byte) :
    let n := (byteAt p 2).toNat
    (n = 0 ∨ 128 < n → slideListFault p = some (0x03, 2)) ∧
    (1 ≤ n → n ≤ 128 → p.length ≠ 3 + 5 * n → slideListFault p = some (0x02, 0)) ∧
    (1 ≤ n → n ≤ 128 → p.length = 3 + 5 * n → refusedAtFirst (slideListBad p n) (slideListFault p)) := by
  intro n
  have hcount (h1 : 1 ≤ n) (h128 : n ≤ 128) : ¬ (n = 0 ∨ 128 < n) := by omega
  refine ⟨fun h => if_pos h, fun h1 h128 hl => (if_neg (hcount h1 h128)).trans (if_pos hl), fun h1 h128 hl => ?_⟩
  rw [show slideListFault p = _ from (if_neg (hcount h1 h128)).trans (if_neg (not_not.2 hl))]
  exact refusedAtFirst_firstFault (risingChecks_slideListChecks p n) (mem_slideListChecks p n)

/-! ### What the segments leave (R113, R126, R135) -/

theorem wholeSegment_cue (lane : Owner) (p : List Byte) (s : State) :
    wholeSegment lane kindCue p s = takeCue lane p s := by
  have hjudged : headerFault lane kindCue p.length = none := by
    simp [headerFault, isKind, kindCue, kindEdition, kindTime, kindPage, kindMinimum, kindPalette, kindObject,
      kindSlideList]
  simp only [wholeSegment, hjudged]
  simp [handSegment, kindCue, kindPage, kindPalette, kindEdition, kindTime, kindObject, kindSlideList]

theorem wholeSegment_slideList (lane : Owner) {p : List Byte} (s : State) (h : 3 ≤ p.length) :
    wholeSegment lane kindSlideList p s = takeSlideList lane p s := by
  have hjudged : headerFault lane kindSlideList p.length = none := by
    simp [headerFault, isKind, kindEdition, kindTime, kindPage, kindMinimum, kindPalette, kindObject,
      kindSlideList, h]
  simp only [wholeSegment, hjudged]
  simp [handSegment, kindPage, kindPalette, kindEdition, kindTime, kindObject, kindSlideList]

section Segments

variable {s : State} (hopen : laneOpen s = true) (lane : Owner) {p : List Byte}

include hopen

theorem exec_cue : exec (.cue lane p) s = .next (takeCue lane p s) := by
  simp only [exec, execCue, awake_arriveSegment hopen, wholeSegment_cue]

theorem exec_slidelist (h : 3 ≤ p.length) : exec (.slidelist lane p) s = .next (takeSlideList lane p s) := by
  simp only [exec, execSlidelist, awake_arriveSegment hopen, wholeSegment_slideList lane s h]

end Segments

section Taken

variable {lane : Owner} {p : List Byte} (s : State)

theorem takeCue_refused {code : Byte} {detail : Nat} (h : cueFault p = some (code, detail)) :
    takeCue lane p s = segmentFaultNotice lane 0x14 code ((byteAt p 0).setWidth 16) detail s := by
  simp only [takeCue, h]
  rfl

theorem takeCue_accepted {id : Fin 8} (h : cueFault p = none) (hid : (byteAt p 0).toNat = id.val) :
    takeCue lane p s = setCueSlot (cueIndex lane id) ⟨.watching, some (parseCue p)⟩ s := by
  have hq : Fin.ofNat 8 (byteAt p 0).toNat = id := by simp [hid]
  simp only [takeCue, h, hq]

theorem takeSlideList_refused {code : Byte} {detail : Nat} (h : slideListFault p = some (code, detail)) :
    takeSlideList lane p s = segmentFaultNotice lane 0x13 code ((byteAt p 0).setWidth 16) detail s := by
  simp only [takeSlideList, h]
  rfl

theorem takeSlideList_accepted {id : Fin 2} (h : slideListFault p = none) (hid : (byteAt p 0).toNat = id.val) :
    takeSlideList lane p s = changeList lane id (some (parseSlideList p)) s := by
  have hq : Fin.ofNat 2 (byteAt p 0).toNat = id := by simp [hid]
  simp only [takeSlideList, h, hq]

end Taken

section Change

variable {o : Owner} {q : Fin 2} (l : Option SlideList) {s : State}

theorem changeList_idle (h : ¬ (s.seqr.st ≠ .stopped ∧ s.seqr.owner = o ∧ s.seqr.list = q)) :
    changeList o q l s = s.setSeqr { s.seqr with lists := s.seqr.lists.set (listIndex o q) l } := by
  rw [changeList, if_neg (fun hrun => h ((isRunningList_iff ..).1 hrun))]
  rfl

/-- A show that runs the list stops: every field of R114 takes its reset value (R113). -/
theorem seqr_changeList_running (h : s.seqr.st ≠ .stopped ∧ s.seqr.owner = o ∧ s.seqr.list = q) :
    (changeList o q l s).seqr = sequencerReset (s.seqr.lists.set (listIndex o q) l) := by
  rw [changeList, if_pos ((isRunningList_iff ..).2 h), stopShow_eq]
  rfl

end Change

/-- Settles O17: the checks field by field, then the record or the list that an accepted segment defines. -/
theorem cueAndSlideListSegmentsDefine : Obligations.CueAndSlideListSegmentsDefine := by
  refine ⟨fun p => ⟨cueFault_badLength, cueFault_badField⟩, slideListFault_order, fun lane p s hopen => ?_,
    fun lane p s hopen hlen => ?_⟩
  · rw [exec_cue hopen]
    exact ⟨fun code detail h => congrArg Host.Outcome.next (takeCue_refused s h),
      fun id h hid => congrArg Host.Outcome.next (takeCue_accepted s h hid)⟩
  · rw [exec_slidelist hopen lane hlen]
    refine ⟨fun code detail h => congrArg Host.Outcome.next (takeSlideList_refused s h), fun id h hid => ?_⟩
    rw [takeSlideList_accepted s h hid]
    exact ⟨fun hidle => congrArg Host.Outcome.next (changeList_idle _ hidle),
      fun hst howner hlist => ⟨_, rfl, seqr_changeList_running _ ⟨hst, howner, hlist⟩⟩⟩

end Sys2Proof.Machine

namespace Sys2Proof.Machine

open Sys2Proof

/-! ## What leaves the slide show alone: all but the Slide Sequencer and the definitions of slide lists -/

section ShowLeft

variable {s : State}

theorem seqr_foldl {α : Type} (f : State → α → State) (hf : ∀ t a, (f t a).seqr = t.seqr) (l : List α) :
    (l.foldl f s).seqr = s.seqr := by
  induction l generalizing s with
  | nil => rfl
  | cons a l ih => exact ih.trans (hf s a)

/-! ### Single updates -/

@[simp] theorem seqr_post (kind : NoticeKind) (owner : Option Owner) (page : Option (Fin 32)) (index code : Half)
    (detail : Word) (flag : Bool) : (post kind owner page index code detail flag s).seqr = s.seqr := by
  rw [post_eq_setLink]
  rfl

@[simp] theorem seqr_setSlot (k : Fin 6) (v : Slot) : (setSlot k v s).seqr = s.seqr := rfl
@[simp] theorem seqr_setPageEntry (r : PageRef) (e : PageEntry) : (setPageEntry r e s).seqr = s.seqr := rfl
@[simp] theorem seqr_setEntries (es : List Entry) : (setEntries es s).seqr = s.seqr := rfl
@[simp] theorem seqr_setObjEntry (i : Fin 512) (e : ObjEntry) : (setObjEntry i e s).seqr = s.seqr := rfl
@[simp] theorem seqr_setCueSlot (i : Fin 16) (v : CueSlot) : (setCueSlot i v s).seqr = s.seqr := rfl
@[simp] theorem seqr_setLane (l : LaneState) : (setLane l s).seqr = s.seqr := rfl
@[simp] theorem seqr_withConditions (f : Conditions → Conditions) : (withConditions f s).seqr = s.seqr := rfl
@[simp] theorem seqr_raiseRecompose : (raiseRecompose s).seqr = s.seqr := rfl
@[simp] theorem seqr_setVariable (v : Fin 16) (w : Word) : (setVariable v w s).seqr = s.seqr := rfl
@[simp] theorem seqr_setTimer (k : Fin 6) (timer : Half) (mark : Bool) : (setTimer k timer mark s).seqr = s.seqr := rfl
@[simp] theorem seqr_dropHeld : (dropHeld s).seqr = s.seqr := rfl
@[simp] theorem seqr_dropReturnSel (test : PageRef → Bool) : (dropReturnSel test s).seqr = s.seqr := rfl

@[simp] theorem seqr_setFrames (o : Owner) (fs : List Frame) : (setFrames o fs s).seqr = s.seqr := by
  cases o <;> rfl

@[simp] theorem seqr_segmentFault (lane : Owner) (kind code : Byte) (id : Half) (detail : Nat) :
    (segmentFault lane kind code id detail s).seqr = s.seqr := seqr_post ..

@[simp] theorem seqr_objectFault (i : Fin 512) (code : Half) (detail : Nat) :
    (objectFault i code detail s).seqr = s.seqr := seqr_post ..

/-! ### Page Exchange -/

@[simp] theorem seqr_takeUp : (takeUp s).seqr = s.seqr := seqr_of_offExchange (offExchange_takeUp s)

@[simp] theorem seqr_handOn : (handOn s).seqr = s.seqr := seqr_of_offExchange (offExchange_handOn s)

@[simp] theorem seqr_cancelActivation (k : Fin 6) : (cancelActivation k s).seqr = s.seqr :=
  seqr_of_offExchange (offExchange_cancelActivation k s)

@[simp] theorem seqr_leaveSave (x : Transfer) : (leaveSave x s).seqr = s.seqr :=
  seqr_of_offExchange (offExchange_leaveSave x s)

@[simp] theorem seqr_abandonSave (test : PageRef → Bool) : (abandonSave test s).seqr = s.seqr :=
  seqr_of_offExchange (offExchange_abandonSave test s)

@[simp] theorem seqr_dropControllerRequest (test : PageRef → Bool) : (dropControllerRequest test s).seqr = s.seqr := by
  rw [dropControllerRequest_eq]
  rfl

@[simp] theorem seqr_exchangeRedefined (r : PageRef) : (exchangeRedefined r s).seqr = s.seqr := by
  simp only [exchangeRedefined]
  (repeat' split) <;> simp

@[simp] theorem seqr_exchangeDrop (test : PageRef → Bool) : (exchangeDrop test s).seqr = s.seqr :=
  (seqr_of_offExchange (offExchange_exchangeDrop test s)).trans rfl

@[simp] theorem seqr_completeSave : (completeSave s).seqr = s.seqr := by
  simp only [completeSave]
  (repeat' split) <;> simp

/-! ### Buttons -/

@[simp] theorem seqr_markDirty (k : Fin 6) : (markDirty k s).seqr = s.seqr := by
  simp only [markDirty]
  (repeat' split) <;> simp

@[simp] theorem seqr_commitButtons (k : Fin 6) (sl : Slot) : (commitButtons k sl s).seqr = s.seqr := by
  simp [commitButtons]

@[simp] theorem seqr_becomeSelection (k : Fin 6) (c : Nat) : (becomeSelection k c s).seqr = s.seqr := by
  simp only [becomeSelection]
  (repeat' split) <;> simp

@[simp] theorem seqr_applyDefault (k : Fin 6) : (applyDefault k s).seqr = s.seqr := by
  simp only [applyDefault]
  (repeat' split) <;> simp

@[simp] theorem seqr_selectButton (k : Fin 6) (id : Byte) : (selectButton k id s).seqr = s.seqr := by
  simp only [selectButton]
  (repeat' split) <;> simp

@[simp] theorem seqr_selectIfEnabled (k : Fin 6) (id : Byte) : (selectIfEnabled k id s).seqr = s.seqr := by
  simp only [selectIfEnabled]
  (repeat' split) <;> simp

@[simp] theorem seqr_changeEnable (k : Fin 6) (i : Nat) (enable : Bool) :
    (changeEnable k i enable s).seqr = s.seqr := by
  simp only [changeEnable, enableButton, disableButton]
  (repeat' split) <;> simp

@[simp] theorem seqr_activateButton (k : Fin 6) (i : Nat) : (activateButton k i s).seqr = s.seqr := by
  simp only [activateButton]
  (repeat' split) <;> simp

/-! ### Page Stack -/

@[simp] theorem seqr_insertEntry (i : Nat) (e : Entry) : (insertEntry i e s).seqr = s.seqr :=
  (seqr_of_offExchange (offExchange_insertEntry i e s)).trans rfl

@[simp] theorem seqr_removeEntry (r : PageRef) (code : Option Half) : (removeEntry r code s).seqr = s.seqr :=
  (showKept_removeEntry r code s).seqr

@[simp] theorem seqr_changeEntry (r : PageRef) (f : Entry → Entry) : (changeEntry r f s).seqr = s.seqr :=
  (showKept_changeEntry r f s).seqr

@[simp] theorem seqr_turnShown (r : PageRef) (code : Half) : (turnShown r code s).seqr = s.seqr :=
  (showKept_turnShown r code s).seqr

@[simp] theorem seqr_addEntering (r : PageRef) (i : Nat) : (addEntering r i s).seqr = s.seqr := by
  simp only [addEntering]
  (repeat' split) <;> simp

theorem seqr_roomBy {cut : PageRef → State → State} (hcut : ∀ r, (cut r s).seqr = s.seqr) {t : State}
    (ht : roomBy cut s = some t) : t.seqr = s.seqr := by
  unfold roomBy at ht
  split at ht
  · cases ht; rfl
  · obtain ⟨e, -, rfl⟩ := Option.map_eq_some_iff.1 ht
    exact hcut e.page

theorem seqr_makeRoom {t : State} (ht : makeRoom s = some t) : t.seqr = s.seqr :=
  seqr_roomBy (fun r => seqr_removeEntry r _) ht

@[simp] theorem seqr_restoreEntry (r : PageRef) : (restoreEntry r s).seqr = s.seqr := by
  simp only [restoreEntry]
  (repeat' split) <;> simp

theorem seqr_showEntry {r : PageRef} {t : State} (ht : showEntry r s = some t) : t.seqr = s.seqr := by
  unfold showEntry at ht
  split at ht
  · obtain ⟨u, hu, rfl⟩ := Option.map_eq_some_iff.1 ht
    simp [seqr_makeRoom hu]
  · cases ht; split <;> simp

@[simp] theorem seqr_startLeaving (r : PageRef) : (startLeaving r s).seqr = s.seqr := by
  simp only [startLeaving]
  (repeat' split) <;> simp

@[simp] theorem seqr_hideBandEntries (o : Owner) : (hideBandEntries o s).seqr = s.seqr :=
  seqr_foldl _ (fun _ r => seqr_startLeaving r) _

@[simp] theorem seqr_replaceBy (acting target : PageRef) : (replaceBy acting target s).seqr = s.seqr := by
  simp only [replaceBy]
  split
  · split
    · simp
    · rename_i hroom
      simp [seqr_makeRoom hroom]
  · split <;> simp

@[simp] theorem seqr_gotoPage (acting target : PageRef) : (gotoPage acting target s).seqr = s.seqr := by
  simp only [gotoPage]
  (repeat' split) <;> simp

@[simp] theorem seqr_pushFrame (o : Owner) (f : Frame) : (pushFrame o f s).seqr = s.seqr := by
  simp only [pushFrame]
  (repeat' split) <;> simp

theorem seqr_callPage {acting target : PageRef} {t : State} (ht : callPage acting target s = some t) :
    t.seqr = s.seqr := by
  simp only [callPage] at ht
  split at ht
  · cases ht; rfl
  · split at ht
    · obtain ⟨u, hu, rfl⟩ := Option.map_eq_some_iff.1 ht
      simp [seqr_makeRoom hu]
    · cases ht; split <;> simp

theorem seqr_showCalling {r : PageRef} {t : State} (ht : showCalling r s = some t) : t.seqr = s.seqr := by
  simp only [showCalling] at ht
  split at ht
  · exact seqr_showEntry ht
  · obtain ⟨u, hu, rfl⟩ := Option.map_eq_some_iff.1 ht
    rw [seqr_addEntering]
    split <;> simp [seqr_makeRoom hu]

@[simp] theorem seqr_giveReturnSel (r : PageRef) (b : Byte) : (giveReturnSel r b s).seqr = s.seqr := by
  simp only [giveReturnSel]
  (repeat' split) <;> simp

@[simp] theorem seqr_returnFrom (acting : PageRef) : (returnFrom acting s).seqr = s.seqr := by
  simp only [returnFrom]
  (repeat' split) <;> simp

theorem seqr_slideRoom {t : State} (ht : slideRoom s = some t) : t.seqr = s.seqr :=
  seqr_roomBy (fun r => (showKept_removeBeforeSlide r _ s).seqr) ht

@[simp] theorem seqr_insertSlide (i : Nat) (e : Entry) : (insertSlide i e s).seqr = s.seqr :=
  (showKept_insertSlide i e s).seqr

theorem seqr_addSlide {r : PageRef} {t : State} (ht : addSlide r s = some t) : t.seqr = s.seqr := by
  obtain ⟨u, hu, rfl⟩ := Option.map_eq_some_iff.1 ht
  simp [seqr_slideRoom hu, seqr_pageNotice]

theorem seqr_addIncoming {current r : PageRef} {t : State} (ht : addIncoming current r s = some t) :
    t.seqr = s.seqr := by
  obtain ⟨u, hu, rfl⟩ := Option.map_eq_some_iff.1 ht
  simp [seqr_slideRoom hu]

@[simp] theorem seqr_endSlideTransition (outgoing incoming : PageRef) :
    (endSlideTransition outgoing incoming s).seqr = s.seqr := (showKept_endSlideTransition ..).seqr

@[simp] theorem seqr_renewSlide (r : PageRef) : (renewSlide r s).seqr = s.seqr := (renewSlide_stack_seqr r s).2

@[simp] theorem seqr_examineEntry (r : PageRef) : (examineEntry s r).seqr = s.seqr := by
  simp only [examineEntry]
  (repeat' split) <;> simp

@[simp] theorem seqr_stackField : (stackField s).seqr = s.seqr := seqr_foldl _ (fun _ r => seqr_examineEntry r) _

@[simp] theorem seqr_stackLoaded (r : PageRef) : (stackLoaded r s).seqr = s.seqr := by
  simp only [stackLoaded]
  (repeat' split) <;> simp

@[simp] theorem seqr_eraseStack (o : Owner) : (eraseStack o s).seqr = s.seqr :=
  (seqr_foldl _ (fun _ r => seqr_removeEntry r _) _).trans (seqr_setFrames o [])

/-! ### Load done -/

@[simp] theorem seqr_makeHeldEnables (k : Fin 6) (held : List (Byte × Bool)) :
    (makeHeldEnables k held s).seqr = s.seqr := by
  refine seqr_foldl _ (fun t i => ?_) _
  simp only [makeHeldEnable]
  (repeat' split) <;> simp

@[simp] theorem seqr_loadDoneChanges (k : Fin 6) (r : PageRef) (asked : Bool) :
    (loadDoneChanges k r asked s).seqr = s.seqr := by
  have hreturn (t : State) : (makeReturnSel k r t).seqr = t.seqr := by
    simp only [makeReturnSel]
    (repeat' split) <;> simp
  have hselect (held : Option Byte) (t : State) : (makeHeldSelect k held t).seqr = t.seqr := by
    simp only [makeHeldSelect]
    (repeat' split) <;> simp
  simp only [loadDoneChanges]
  (repeat' split) <;> simp [hreturn, hselect]

@[simp] theorem seqr_placeLoaded (k : Fin 6) (r : PageRef) : (placeLoaded k r s).seqr = s.seqr := rfl

/-! ### Objects, passes, palettes -/

@[simp] theorem seqr_releaseOpt (r : Option Region) : (releaseOpt r s).seqr = s.seqr := by
  rw [releaseOpt_eq]
  rfl

@[simp] theorem seqr_feedByte (i : Fin 512) (b : Byte) : (feedByte i b s).seqr = s.seqr := by
  simp only [feedByte]
  (repeat' split) <;> rfl

@[simp] theorem seqr_feedBytes (i : Fin 512) (bs : List Byte) : (feedBytes i bs s).seqr = s.seqr :=
  seqr_foldl _ (fun _ b => seqr_feedByte i b) bs

@[simp] theorem seqr_abandonDecode (i : Fin 512) : (abandonDecode i s).seqr = s.seqr := by
  simp only [abandonDecode]
  split <;> simp [releaseRegion_eq]

@[simp] theorem seqr_completeObject (i : Fin 512) : (completeObject i s).seqr = s.seqr := by
  simp only [completeObject]
  (repeat' split) <;> simp

@[simp] theorem seqr_beginPart (lane : Owner) (h : PartHead) : (beginPart lane h s).1.seqr = s.seqr := by
  have hfirst (i : Fin 512) : (firstPart i h s).1.seqr = s.seqr := by
    simp only [firstPart, setHeapFull]
    (repeat' split) <;> simp
  have hlater (i : Fin 512) : (laterPart i h s).1.seqr = s.seqr := by
    simp only [laterPart]
    (repeat' split) <;> simp
  simp only [beginPart]
  (repeat' split) <;> simp [hfirst, hlater]

@[simp] theorem seqr_takePart (lane : Owner) (p : List Byte) : (takePart lane p s).seqr = s.seqr := by
  have hbegin := seqr_beginPart (s := s) lane (parsePart p)
  unfold takePart
  dsimp only
  split
  · simp
  split
  case h_1 hs1 => rwa [hs1] at hbegin
  case h_2 hs1 =>
    rw [hs1] at hbegin
    split <;> simpa using hbegin

@[simp] theorem seqr_overrunPart (i : Fin 512) : (overrunPart i s).seqr = s.seqr := by
  simp only [overrunPart]
  split <;> simp

@[simp] theorem seqr_deleteObject (i : Fin 512) : (deleteObject i s).seqr = s.seqr := by
  simp only [deleteObject]
  (repeat' split) <;> simp

@[simp] theorem seqr_beforeLiveChange : (beforeLiveChange s).seqr = s.seqr := by
  unfold beforeLiveChange
  split
  · rw [drawAhead_eq]; rfl
  · rfl

@[simp] theorem seqr_eraseObjects (o : Owner) : (eraseObjects o s).seqr = s.seqr := by
  have hreleased := seqr_foldl (s := s) (fun t r => releaseRegion r t)
    (fun t r => seqr_releaseOpt (s := t) (some r)) ((ownerEntries o s).flatMap entryRegions)
  simp only [eraseObjects]
  (repeat' split) <;> simp [hreleased]

@[simp] theorem seqr_takePalette (lane : Owner) (p : List Byte) : (takePalette lane p s).seqr = s.seqr := by
  simp only [takePalette]
  (repeat' split) <;> simp

@[simp] theorem seqr_deletePalette (i : Fin 16) : (deletePalette i s).seqr = s.seqr := by
  simp [deletePalette]

@[simp] theorem seqr_erasePalettes (o : Owner) : (erasePalettes o s).seqr = s.seqr := by
  simp [erasePalettes]

@[simp] theorem seqr_composerField : (composerField s).seqr = s.seqr := by
  have hstart (t : State) : (startPassIfNeeded t).seqr = t.seqr := by
    unfold startPassIfNeeded
    (repeat' split) <;> rfl
  unfold composerField
  split
  · exact hstart (swapPlanes s)
  · exact hstart s
  · rfl

@[simp] theorem seqr_completePass : (completePass s).seqr = s.seqr := by
  unfold completePass
  split
  · rw [drawToEnd_eq]; rfl
  · rfl

@[simp] theorem seqr_composerSetup (f : PlaneFormat) : (composerSetup f s).seqr = s.seqr := by
  simp only [composerSetup]
  split <;> rfl

/-! ### Pages, the clock, cues, lanes, the link -/

@[simp] theorem seqr_autoShowPage (r : PageRef) : (autoShowPage r s).seqr = s.seqr := by
  unfold autoShowPage
  cases hshow : showEntry r s with
  | none => simp
  | some t => exact seqr_showEntry hshow

@[simp] theorem seqr_definePage (r : PageRef) (p : List Byte) : (definePage r p s).seqr = s.seqr := by
  simp only [definePage, writeImage]
  split <;> simp

@[simp] theorem seqr_stackRedefined (r : PageRef) (former : PageKind) :
    (stackRedefined r former s).seqr = s.seqr := by
  simp only [stackRedefined]
  (repeat' split) <;> simp

@[simp] theorem seqr_takeTime (lane : Owner) (p : List Byte) : (takeTime lane p s).seqr = s.seqr := by
  unfold takeTime
  split <;> simp

@[simp] theorem seqr_takeCue (lane : Owner) (p : List Byte) : (takeCue lane p s).seqr = s.seqr := by
  unfold takeCue
  split <;> simp

@[simp] theorem seqr_receiverFault (lane : Owner) (kind code : Byte) (len : Nat) :
    (receiverFault lane kind code len s).seqr = s.seqr := seqr_segmentFault ..

@[simp] theorem seqr_inSkip (kind : Byte) (len left : Nat) (badKind : Bool) :
    (inSkip kind len left badKind s).seqr = s.seqr := by
  unfold inSkip endSkip
  (repeat' split) <;> simp

@[simp] theorem seqr_abandonLane : (abandonLane s).seqr = s.seqr := by
  simp only [abandonLane, seqr_setLane]
  split <;> simp

@[simp] theorem seqr_receiveFrame (bytes : List Byte) : (receiveFrame bytes s).seqr = s.seqr := by
  rw [receiveFrame_eq]
  rfl

@[simp] theorem seqr_frameCrosses (bytes : List Byte) : (frameCrosses bytes s).seqr = s.seqr :=
  seqr_receiveFrame bytes

@[simp] theorem seqr_placeReply (cmd : Byte) (code : ReplyCode) (data : List Byte) :
    (placeReply cmd code data s).seqr = s.seqr := rfl

end ShowLeft

end Sys2Proof.Machine

namespace Sys2Proof.Machine

open Sys2Proof

/-! ## The show stays inside its list: the Slide Sequencer (R113 to R128) -/

/-- What says where in a list a show stands. -/
def place (q : Sequencer) : Vector (Option SlideList) 4 × Owner × Fin 2 × Nat := (q.lists, q.owner, q.list, q.index)

/-- The index lies inside a defined list. -/
def placed (q : Sequencer) : Prop :=
  ∃ l, q.lists[listIndex q.owner q.list] = some l ∧ q.index < l.entries.length

/-- A show is stopped or placed. -/
def soundShow (q : Sequencer) : Prop := q.st = .stopped ∨ placed q

theorem showSound_iff (s : State) : showSound s ↔ soundShow s.seqr := or_iff_not_imp_left.symm

theorem placed_congr {p q : Sequencer} (h : place p = place q) : placed p ↔ placed q := by
  simp only [place, Prod.mk.injEq] at h
  obtain ⟨hlists, howner, hlist, hindex⟩ := h
  simp only [placed, hlists, howner, hlist, hindex]

theorem placed.sound {q : Sequencer} (h : placed q) : soundShow q := .inr h

theorem soundShow_of_stopped {q : Sequencer} (h : q.st = .stopped) : soundShow q := .inl h

theorem soundShow_congr {p q : Sequencer} (hst : p.st = q.st) (h : place p = place q) : soundShow p ↔ soundShow q := by
  unfold soundShow
  rw [hst, placed_congr h]

section Place

variable {s : State}

theorem placed_of_st {st : SeqState} (h : soundShow s.seqr) (hst : s.seqr.st = st) (hrun : st ≠ .stopped) :
    placed s.seqr := h.resolve_left (hst ▸ hrun)

theorem place_updateSeq {f : Sequencer → Sequencer} {t : State} (hseqr : t.seqr = s.seqr)
    (hf : ∀ q, place (f q) = place q := by exact fun _ => rfl) : place (updateSeq f t).seqr = place s.seqr :=
  (hf t.seqr).trans (congrArg place hseqr)

theorem placed_updateSeq {f : Sequencer → Sequencer} {t : State} (hseqr : t.seqr = s.seqr) (h : placed s.seqr)
    (hf : ∀ q, place (f q) = place q := by exact fun _ => rfl) : placed (updateSeq f t).seqr :=
  (placed_congr (place_updateSeq hseqr hf)).2 h

/-! ### What leaves the show where it is -/

theorem place_wantPage (r : PageRef) : place (wantPage r s).seqr = place s.seqr := by
  rw [seqr_wantPage]
  rfl

theorem place_wantNone : place (wantNone s).seqr = place s.seqr := by
  rw [seqr_wantNone]
  rfl

theorem place_prefetch : place (prefetch s).seqr = place s.seqr := by
  obtain ⟨-, w, hw⟩ := wantsOnly_prefetch s
  rw [hw]
  rfl

@[simp] theorem seqr_seqNotice (kind : NoticeKind) (page : Option PageRef) (code : Half) :
    (seqNotice kind page code s).seqr = s.seqr := seqr_post ..

theorem place_completeAdvance (code : Half) : place (completeAdvance code s).seqr = place s.seqr := by
  simp only [completeAdvance, place_prefetch, seqr_seqNotice, place_wantNone]
  rfl

theorem place_bringInFull (r : PageRef) : place (bringInFull r s).seqr = place s.seqr := by
  unfold bringInFull
  split
  · rfl
  · rename_i hadded
    rw [place_completeAdvance]
    exact place_updateSeq (seqr_addSlide hadded)

theorem place_cutTo (shown r : PageRef) : place (cutTo shown r s).seqr = place s.seqr := by
  rw [cutTo, place_bringInFull]
  exact place_updateSeq (showKept_removeBeforeSlide shown hiddenSlide s).seqr

theorem place_startTransition (shown r : PageRef) (e : SlideEntry) :
    place (startTransition shown r e s).seqr = place s.seqr := by
  unfold startTransition
  split
  · exact place_cutTo shown r
  split
  · exact place_cutTo shown r
  · rename_i hadded
    rw [place_wantNone]
    exact place_updateSeq (seqr_addIncoming hadded)

theorem place_tryBringIn : place (tryBringIn s).seqr = place s.seqr := by
  unfold tryBringIn
  split
  · rfl
  · rename_i e _
    dsimp only
    split
    · split
      · exact place_bringInFull _
      · split
        · exact place_completeAdvance _
        · exact place_startTransition _ _ e
    · rfl

theorem place_endTransition : place (endTransition s).seqr = place s.seqr := by
  unfold endTransition
  split
  · rename_i t out r _ _ _
    rw [place_completeAdvance]
    exact place_updateSeq (seqr_endSlideTransition out r)
  · rfl

/-! ### Moves and the end of a show -/

/-- A move goes to an entry of the list. -/
theorem placed_moveTo (j : Nat) (back : Bool) (h : placed s.seqr) : placed (moveTo j back s).seqr := by
  unfold moveTo
  split
  · exact h
  · rename_i r hpage
    rw [placed_congr place_tryBringIn, placed_congr (place_wantPage r)]
    obtain ⟨l, hl, -⟩ := h
    obtain ⟨e, he, -⟩ := Option.map_eq_some_iff.1 hpage
    obtain ⟨hj, -⟩ := List.getElem?_eq_some_iff.1 he
    have hentries : runningEntries s = l.entries := by simp only [runningEntries, slideList, hl]
    exact ⟨l, hl, hentries ▸ hj⟩

theorem soundShow_stopShow (reason : Half) (s : State) : soundShow (stopShow reason s).seqr := by
  rw [stopShow_eq]
  exact soundShow_of_stopped rfl

theorem lists_stopShow (reason : Half) (s : State) : (stopShow reason s).seqr.lists = s.seqr.lists := by
  rw [stopShow_eq]
  rfl

/-- A search moves to the entry that it finds, ends the show where it stands, leaves it, or stops it. -/
theorem soundShow_searchMove (back : Bool) (h : placed s.seqr) : soundShow (searchMove back s).seqr := by
  unfold searchMove
  split
  · exact (placed_moveTo _ back h).sound
  · split
    · exact soundShow_stopShow ..
    · refine placed.sound ?_
      dsimp only
      rw [seqr_seqNotice, placed_congr place_wantNone]
      exact h
  · split
    · exact soundShow_stopShow ..
    · exact h.sound
  · exact soundShow_stopShow ..

/-! ### Steps (R122) -/

theorem soundShow_stepSettled (back : Bool) (h : soundShow s.seqr) : soundShow (stepSettled back s).seqr := by
  unfold stepSettled
  split
  case h_1 hst => exact soundShow_searchMove back (placed_of_st h hst nofun)
  case h_2 hst =>
    have hmoved := soundShow_searchMove back (placed_updateSeq (f := fun q => { q with pendingPause := true })
      rfl (placed_of_st h hst nofun))
    dsimp only
    split
    · exact hmoved
    · exact hmoved
  case h_3 hst => exact soundShow_searchMove back (placed_of_st h hst nofun)
  case h_4 hst =>
    split
    · exact soundShow_searchMove true (placed_of_st h hst nofun)
    · exact h
  all_goals exact h

@[simp] theorem soundShow_stepShow (back : Bool) (h : soundShow s.seqr) : soundShow (stepShow back s).seqr := by
  unfold stepShow
  split
  case isTrue hst =>
    have hplaced := placed_of_st h hst nofun
    exact soundShow_stepSettled back ((placed_congr place_endTransition).2 hplaced).sound
  case isFalse => exact soundShow_stepSettled back h

/-! ### Pause and resume (R123) -/

@[simp] theorem soundShow_pauseShow (h : soundShow s.seqr) : soundShow (pauseShow s).seqr := by
  unfold pauseShow
  split
  case h_1 hst => exact placed.sound (placed_updateSeq rfl (placed_of_st h hst nofun))
  all_goals exact h

@[simp] theorem soundShow_resumeShow (h : soundShow s.seqr) : soundShow (resumeShow s).seqr := by
  unfold resumeShow
  split
  case h_1 hst => exact placed.sound (placed_updateSeq rfl (placed_of_st h hst nofun))
  all_goals exact h

@[simp] theorem soundShow_togglePause (h : soundShow s.seqr) : soundShow (togglePause s).seqr := by
  unfold togglePause
  split
  · exact soundShow_pauseShow h
  · exact soundShow_resumeShow h
  all_goals exact h

@[simp] theorem soundShow_slideOperation (op : Nat) (h : soundShow s.seqr) :
    soundShow (slideOperation op s).seqr := by
  unfold slideOperation
  split <;> simp [h]

/-! ### Field starts and load done (R117, R119, R121) -/

theorem soundShow_countSlideHold (h : placed s.seqr) : soundShow (countSlideHold s).seqr := by
  simp only [countSlideHold]
  split
  · exact h.sound
  split
  · exact placed.sound h
  split
  · exact soundShow_searchMove false h
  · exact placed.sound h

theorem placed_waitField (h : placed s.seqr) : placed (waitField s).seqr := by
  unfold waitField
  split
  · exact h
  · split
    · rwa [placed_congr place_tryBringIn, placed_congr (place_wantPage _)]
    · exact h

@[simp] theorem soundShow_sequencerField (h : soundShow s.seqr) : soundShow (sequencerField s).seqr := by
  unfold sequencerField
  split
  case h_1 hst =>
    split
    · exact h
    · exact soundShow_countSlideHold (placed_of_st h hst nofun)
  case h_2 hst =>
    have hplaced := placed_of_st h hst nofun
    split
    · exact h
    · split
      · exact ((placed_congr place_endTransition).2 hplaced).sound
      · exact h
  case h_3 hst => exact (placed_waitField (placed_of_st h hst nofun)).sound
  all_goals exact h

@[simp] theorem soundShow_sequencerLoaded (r : PageRef) (h : soundShow s.seqr) :
    soundShow (sequencerLoaded r s).seqr := by
  unfold sequencerLoaded
  split
  · rename_i hwaits
    exact ((placed_congr place_tryBringIn).2 (placed_of_st h hwaits.1 nofun)).sound
  · exact h

/-! ### A page that goes (R128) -/

theorem soundShow_heldPageGone (p : PageRef) (h : placed s.seqr) : soundShow (heldPageGone p s).seqr := by
  unfold heldPageGone
  split
  · exact soundShow_searchMove false h
  · split
    · exact ((placed_congr place_prefetch).2 h).sound
    · exact h.sound

theorem soundShow_waitPageGone (p : PageRef) (h : placed s.seqr) : soundShow (waitPageGone p s).seqr := by
  unfold waitPageGone
  extract_lets s1
  have hplaced : placed s1.seqr := by
    unfold s1
    split <;> exact h
  split
  · exact soundShow_searchMove _ hplaced
  · exact hplaced.sound

theorem soundShow_transPageGone (p : PageRef) (h : placed s.seqr) : soundShow (transPageGone p s).seqr := by
  unfold transPageGone
  split
  · exact ((placed_congr place_endTransition).2 h).sound
  split
  · split
    · exact h.sound
    · rename_i out _
      exact soundShow_searchMove _ (placed_updateSeq (seqr_renewSlide out) h)
  · exact h.sound

@[simp] theorem soundShow_sequencerPageChanged (p : PageRef) (h : soundShow s.seqr) :
    soundShow (sequencerPageChanged p s).seqr := by
  unfold sequencerPageChanged
  split
  · unfold slideGone
    split
    case h_1 hst => exact soundShow_heldPageGone p (placed_of_st h hst nofun)
    case h_2 hst => exact soundShow_heldPageGone p (placed_of_st h hst nofun)
    case h_3 hst => exact soundShow_heldPageGone p (placed_of_st h hst nofun)
    case h_4 hst => exact soundShow_waitPageGone p (placed_of_st h hst nofun)
    case h_5 hst => exact soundShow_transPageGone p (placed_of_st h hst nofun)
    case h_6 => exact h
  · exact h

/-! ### Lists come and go (R113, R126, R127) -/

theorem listIndex_inj {o w : Owner} {i j : Fin 2} (h : listIndex o i = listIndex w j) : o = w ∧ i = j := by
  have hval := congrArg Fin.val h
  cases o <;> cases w <;> simp only [listIndex] at hval
  · exact ⟨rfl, Fin.ext hval⟩
  · omega
  · omega
  · exact ⟨rfl, Fin.ext (by omega)⟩

/-- A list that does not run may change: the show's own list stays. -/
theorem placed_setList {o : Owner} {i : Fin 2} (l : Option SlideList)
    (hother : ¬ (s.seqr.owner = o ∧ s.seqr.list = i)) (h : placed s.seqr) :
    placed { s.seqr with lists := s.seqr.lists.set (listIndex o i) l } := by
  obtain ⟨own, hown, hindex⟩ := h
  have hne : (listIndex o i).val ≠ (listIndex s.seqr.owner s.seqr.list).val := fun hsame => by
    obtain ⟨ho, hi⟩ := listIndex_inj (Fin.ext hsame)
    exact hother ⟨ho.symm, hi.symm⟩
  refine ⟨own, ?_, hindex⟩
  have hkept : (s.seqr.lists.set (listIndex o i) l)[listIndex s.seqr.owner s.seqr.list] =
      s.seqr.lists[listIndex s.seqr.owner s.seqr.list] := Vector.getElem_set_ne _ _ hne
  exact hkept.trans hown

@[simp] theorem soundShow_changeList (o : Owner) (i : Fin 2) (l : Option SlideList) (h : soundShow s.seqr) :
    soundShow (changeList o i l s).seqr := by
  by_cases hruns : s.seqr.st ≠ .stopped ∧ s.seqr.owner = o ∧ s.seqr.list = i
  · rw [seqr_changeList_running l hruns]
    exact soundShow_of_stopped rfl
  · rw [changeList_idle l hruns]
    exact or_iff_not_imp_left.2 fun hst => placed_setList l (fun hsame => hruns ⟨hst, hsame⟩) (h.resolve_left hst)

@[simp] theorem soundShow_eraseSlides (o : Owner) (h : soundShow s.seqr) : soundShow (eraseSlides o s).seqr := by
  rw [seqr_eraseSlides]
  split
  · exact soundShow_of_stopped rfl
  · rename_i hother
    refine or_iff_not_imp_left.2 fun hst => ?_
    obtain ⟨l, hl, hindex⟩ := h.resolve_left hst
    have howner : s.seqr.owner ≠ o := fun hsame => hother (slidesRunFor_iff.2 ⟨hst, hsame⟩)
    exact ⟨l, (slideList_listsErased o _ _ s).trans ((if_neg howner).trans hl), hindex⟩

/-! ### SLIDE_START (R116) -/

theorem soundShow_startShow {o : Owner} {list : Fin 2} {i : Nat} {l : SlideList} (hl : slideList o list s = some l)
    (hi : i < l.entries.length) : soundShow (startShow o list i s).seqr := by
  unfold startShow
  extract_lets s1 s2
  have hlists : s1.seqr.lists = s.seqr.lists := by
    unfold s1
    split
    · rfl
    · exact lists_stopShow ..
  have hplaced : placed s2.seqr := ⟨l, (congrArg (·[listIndex o list]) hlists).trans hl, hi⟩
  split
  · exact (placed_moveTo i false hplaced).sound
  · exact soundShow_searchMove false hplaced

end Place

end Sys2Proof.Machine

namespace Sys2Proof.Machine

open Sys2Proof

/-! ## The show stays inside its list: the interactive blocks

What these blocks do to the show they do by the operations of the Slide Sequencer; the rest leaves it alone. -/

section ShowKeeping

variable {s : State}

theorem soundShow_of_seqr {t : State} (hseqr : t.seqr = s.seqr) (h : soundShow s.seqr) : soundShow t.seqr :=
  hseqr.symm ▸ h

theorem soundShow_foldl {α : Type} (f : State → α → State) (hf : ∀ t a, soundShow t.seqr → soundShow (f t a).seqr)
    (l : List α) (h : soundShow s.seqr) : soundShow (l.foldl f s).seqr := by
  induction l generalizing s with
  | nil => exact h
  | cons a l ih => exact ih (hf s a h)

/-! ### Outcomes and activations -/

@[simp] theorem soundShow_runOutcome (a : Acting) (x : Action) (h : soundShow s.seqr) :
    soundShow (runOutcome a x s).seqr := by
  have hcall (r : PageRef) (t : State) (ht : soundShow t.seqr) : soundShow ((callPage a.page r s).getD t).seqr := by
    cases hc : callPage a.page r s with
    | none => exact ht
    | some u => exact soundShow_of_seqr (seqr_callPage hc) h
  simp only [runOutcome, pageFaultNotice]
  (repeat' split) <;> simp [h, hcall]

@[simp] theorem seqr_reportOutcome (a : Acting) (x : Action) (branch : Bool) (detail : Word) :
    (reportOutcome a x branch detail s).seqr = s.seqr := by
  simp only [reportOutcome]
  (repeat' split) <;> simp

theorem soundShow_finishActivation (k : Fin 6) (i : Nat) (h : soundShow s.seqr) :
    soundShow (finishActivation k i s).seqr := by
  simp only [finishActivation]
  split
  · rw [seqr_reportOutcome]
    exact soundShow_runOutcome _ _ (soundShow_of_seqr rfl h)
  · exact h

@[simp] theorem soundShow_completeActivation (k : Fin 6) (h : soundShow s.seqr) :
    soundShow (completeActivation k s).seqr := by
  unfold completeActivation
  split
  · exact h
  · exact soundShow_finishActivation k _ h

@[simp] theorem soundShow_beginActivation (k : Fin 6) (i : Nat) (h : soundShow s.seqr) :
    soundShow (beginActivation k i s).seqr := by
  simp only [beginActivation]
  (repeat' split) <;> simp [h]

@[simp] theorem soundShow_countHold (k : Fin 6) (h : soundShow s.seqr) : soundShow (countHold s k).seqr := by
  have hslot (sl : Slot) : soundShow (setSlot k sl s).seqr := h
  simp only [countHold]
  (repeat' split) <;> simp only [hslot, h, soundShow_finishActivation]

@[simp] theorem soundShow_expireTimeout (k : Fin 6) (h : soundShow s.seqr) : soundShow (expireTimeout k s).seqr := by
  simp only [expireTimeout]
  (repeat' split) <;> simp [h]

@[simp] theorem soundShow_countTimeout (k : Fin 6) (h : soundShow s.seqr) : soundShow (countTimeout s k).seqr := by
  have htimer (timer : Half) : soundShow (setTimer k timer false s).seqr := h
  simp only [countTimeout]
  (repeat' split) <;> simp only [htimer, h, soundShow_expireTimeout]

@[simp] theorem soundShow_timeoutsField (h : soundShow s.seqr) : soundShow (timeoutsField s).seqr := by
  simp only [timeoutsField]
  (repeat' split) <;> simp [h]

/-! ### Keys -/

@[simp] theorem seqr_reloadTimeout (k : Fin 6) : (reloadTimeout k s).seqr = s.seqr := by simp [reloadTimeout]

@[simp] theorem seqr_keyUnused (focus : Option PageRef) (k : Key) (reason : Word) :
    (keyUnused focus k reason s).seqr = s.seqr := by
  simp [keyUnused]

theorem soundShow_slideKey (focus : Option PageRef) (allowed : Bool) (k : Key) {act : State → State}
    (hact : soundShow (act s).seqr) (h : soundShow s.seqr) : soundShow (slideKey focus allowed k act s).seqr := by
  unfold slideKey
  split <;> simp [h, hact]

@[simp] theorem soundShow_keyNoFocus (k : Key) (h : soundShow s.seqr) : soundShow (keyNoFocus k s).seqr := by
  simp only [keyNoFocus]
  (repeat' split) <;> simp [h, soundShow_slideKey]

@[simp] theorem soundShow_moveSelection (k : Fin 6) (d : PageDef) (dir : Direction) (h : soundShow s.seqr) :
    soundShow (moveSelection k d dir s).seqr := by
  simp only [moveSelection]
  (repeat' split) <;> simp [h]

@[simp] theorem soundShow_enterKey (r : PageRef) (k : Fin 6) (h : soundShow s.seqr) :
    soundShow (enterKey r k s).seqr := by
  simp only [enterKey]
  (repeat' split) <;> simp [h]

@[simp] theorem soundShow_backKey (r : PageRef) (d : PageDef) (h : soundShow s.seqr) :
    soundShow (backKey r d s).seqr := by
  simp only [backKey]
  (repeat' split) <;> simp [h]

@[simp] theorem soundShow_keyOnPage (r : PageRef) (k : Fin 6) (d : PageDef) (key : Key) (h : soundShow s.seqr) :
    soundShow (keyOnPage r k d key s).seqr := by
  simp only [keyOnPage]
  (repeat' split) <;> simp [h, soundShow_slideKey]

@[simp] theorem soundShow_deliverKey (key : Key) (h : soundShow s.seqr) : soundShow (deliverKey key s).seqr := by
  simp only [deliverKey]
  (repeat' split) <;> simp [h]

theorem soundShow_deliverUpTo (n : Nat) : ∀ {s : State}, soundShow s.seqr → soundShow (deliverUpTo n s).seqr := by
  induction n with
  | zero => exact id
  | succ n ih =>
    intro s h
    unfold deliverUpTo
    split
    · exact h
    · split
      · exact ih (soundShow_deliverKey _ (soundShow_of_seqr rfl h))
      · exact h

@[simp] theorem soundShow_deliverKeys (h : soundShow s.seqr) : soundShow (deliverKeys s).seqr :=
  soundShow_deliverUpTo _ h

@[simp] theorem soundShow_navigationField (h : soundShow s.seqr) : soundShow (navigationField s).seqr :=
  soundShow_deliverKeys (soundShow_timeoutsField (soundShow_foldl _ (fun _ k ht => soundShow_countHold k ht) _ h))

/-! ### Load done -/

@[simp] theorem soundShow_completeLoad (k : Fin 6) (h : soundShow s.seqr) : soundShow (completeLoad k s).seqr := by
  have hfinish (r : PageRef) {t : State} (ht : soundShow t.seqr) : soundShow (finishLoad k r t).seqr := by
    have hshown : soundShow (raiseRecompose (stackLoaded r (loadDoneChanges k r (t.exch.ctrlReq == some r)
      (placeLoaded k r t)))).seqr := soundShow_of_seqr (by simp) ht
    exact soundShow_deliverKeys (soundShow_of_seqr seqr_takeUp (soundShow_sequencerLoaded r hshown))
  simp only [completeLoad]
  (repeat' split) <;> simp [h, hfinish]

/-! ### Segments (R40, R113, R173, R174) -/

theorem soundShow_redefinePage (r : PageRef) (p : List Byte) (h : soundShow s.seqr) :
    soundShow (redefinePage r p s).seqr := by
  unfold redefinePage
  extract_lets d former s1 s2 s3 s4
  have h1 : soundShow s1.seqr := h
  have h3 : soundShow s3.seqr := soundShow_of_seqr (by simp [s3, s2]) h1
  refine soundShow_sequencerPageChanged r ?_
  unfold s4
  split <;> simp [h3]

theorem soundShow_takePage (lane : Owner) (p : List Byte) (h : soundShow s.seqr) :
    soundShow (takePage lane p s).seqr := by
  unfold takePage
  split
  · simp [h]
  · refine soundShow_deliverKeys ?_
    split
    · exact soundShow_redefinePage _ p h
    · simp [h]

theorem soundShow_deletePage (r : PageRef) (h : soundShow s.seqr) : soundShow (deletePage r s).seqr := by
  simp only [deletePage]
  split
  · exact soundShow_deliverKeys (soundShow_sequencerPageChanged r (soundShow_of_seqr (by simp) h))
  · exact h

theorem soundShow_deleteItem (lane : Owner) (item : Byte) (id : Nat) (h : soundShow s.seqr) :
    soundShow (deleteItem lane item id s).seqr := by
  simp only [deleteItem, deleteList, deleteCue]
  (repeat' split) <;> simp [h, soundShow_deletePage]

theorem soundShow_takeDelete (lane : Owner) (p : List Byte) (h : soundShow s.seqr) :
    soundShow (takeDelete lane p s).seqr := by
  unfold takeDelete
  split
  · simp [h]
  · exact soundShow_deleteItem _ _ _ h

@[simp] theorem seqr_erasePageEntries (o : Owner) : (erasePageEntries o s).seqr = s.seqr := rfl

@[simp] theorem seqr_eraseCues (o : Owner) : (eraseCues o s).seqr = s.seqr := rfl

theorem soundShow_erasePages (o : Owner) (h : soundShow s.seqr) : soundShow (erasePages o s).seqr := by
  rw [erasePages_eq, seqr_handOn, seqr_takeUp]
  exact soundShow_eraseSlides o (soundShow_of_seqr (by simp [pagesGone]) h)

theorem soundShow_eraseOwner (o : Owner) (h : soundShow s.seqr) : soundShow (eraseOwner o s).seqr := by
  unfold eraseOwner
  refine soundShow_deliverKeys ?_
  rw [seqr_eraseCues]
  exact soundShow_erasePages o (soundShow_of_seqr (by simp) h)

theorem soundShow_handSegment (lane : Owner) (kind : Byte) (p : List Byte) (h : soundShow s.seqr) :
    soundShow (handSegment lane kind p s).seqr := by
  have hedition : soundShow (takeEdition lane p s).seqr := by
    unfold takeEdition
    split
    · simp [h]
    · exact soundShow_eraseOwner .disc h
  have hlist : soundShow (takeSlideList lane p s).seqr := by
    unfold takeSlideList
    split <;> simp [h]
  unfold handSegment
  (repeat' split) <;> simp [h, hedition, hlist, soundShow_takePage, soundShow_takeDelete]

theorem soundShow_wholeSegment (lane : Owner) (kind : Byte) (p : List Byte) (h : soundShow s.seqr) :
    soundShow (wholeSegment lane kind p s).seqr := by
  unfold wholeSegment
  split
  · simp [h]
  · exact soundShow_handSegment lane kind p h

/-! ### Lanes (R164 to R172) -/

theorem soundShow_inPayload (kind : Byte) (len left : Nat) (got : List Byte) (part : Option PartInFlight)
    (h : soundShow s.seqr) : soundShow (inPayload kind len left got part s).seqr := by
  unfold inPayload
  split
  · unfold endPayload
    rw [seqr_setLane]
    (repeat' split) <;> simp [h, soundShow_handSegment]
  · exact h

theorem soundShow_serveOne (h : soundShow s.seqr) : soundShow (serveOne s).seqr := by
  have hdisc (got : List Byte) : soundShow (serveDisc got s).seqr := by
    unfold serveDisc
    dsimp only
    split
    · exact soundShow_inPayload _ _ _ _ _ (soundShow_of_seqr rfl h)
    · split <;> simp [h]
  have hplayer : soundShow (servePlayer s).seqr :=
    soundShow_wholeSegment .player s.relay.kind s.relay.data (s := s.setRecv _) h
  unfold serveOne
  (repeat' split) <;> simp only [h, hdisc, hplayer]

@[simp] theorem soundShow_serve (h : soundShow s.seqr) : soundShow (serve s).seqr :=
  soundShow_serveOne (soundShow_serveOne h)

theorem soundShow_objectByte (len left : Nat) (got : List Byte) (part : Option PartInFlight) (b : Byte)
    (h : soundShow s.seqr) : soundShow (objectByte len left got part b s).seqr := by
  have hbegin := soundShow_of_seqr (seqr_beginPart .disc (parsePart (got ++ [b]))) h
  unfold objectByte
  split
  · exact soundShow_inPayload _ _ _ _ _ (soundShow_of_seqr (seqr_feedByte ..) h)
  dsimp only
  split
  · simp [h]
  split
  · split
    case h_1 hs1 => rw [hs1] at hbegin; exact soundShow_of_seqr (seqr_inSkip ..) hbegin
    case h_2 hs1 => rw [hs1] at hbegin; exact soundShow_inPayload _ _ _ _ _ hbegin
  · exact soundShow_inPayload _ _ _ _ _ h

theorem soundShow_laneByte (b : Byte) (h : soundShow s.seqr) : soundShow (laneByte b s).seqr := by
  unfold laneByte payloadByte
  (repeat' split) <;> simp [h, soundShow_objectByte, soundShow_inPayload]

theorem soundShow_takeLaneByte (h : soundShow s.seqr) : soundShow (takeLaneByte s).seqr := by
  unfold takeLaneByte
  split
  · exact h
  split
  · exact h
  · exact soundShow_serve (soundShow_laneByte _ (soundShow_of_seqr rfl h))

theorem soundShow_presentByte (b : Byte) (h : soundShow s.seqr) : soundShow (presentByte b s).seqr := by
  unfold presentByte
  split
  · exact h
  split
  · exact h
  · exact soundShow_serve (soundShow_of_seqr seqr_abandonLane h)

end ShowKeeping

end Sys2Proof.Machine

namespace Sys2Proof.Machine

open Sys2Proof

/-! ## The show stays inside its list: commands, field starts, every row of the table -/

section ShowRows

variable {s : State}

/-! ### Command frames (R176, R186) -/

theorem soundShow_commandFrame (cmd : Byte) (payload : List Byte) (body : State → State)
    (hbody : ∀ t, soundShow t.seqr → soundShow (body t).seqr) (h : soundShow s.seqr) :
    soundShow (commandFrame cmd payload body s).seqr := by
  unfold commandFrame
  split
  · exact h
  · have hcrossed := soundShow_of_seqr (seqr_frameCrosses (cmd :: BitVec.ofNat 8 payload.length :: payload)) h
    dsimp only
    split
    · exact hcrossed
    split
    · exact hcrossed
    · exact hbody _ hcrossed

theorem soundShow_command (cmd : Byte) (payload : List Byte) (act : State → Answer)
    (hact : ∀ t, soundShow t.seqr → soundShow (act t).state.seqr) (h : soundShow s.seqr) :
    soundShow (command cmd payload act s).seqr :=
  soundShow_commandFrame cmd payload _ hact h

theorem soundShow_onPage (owner page : Byte) (act : PageRef → State → Answer)
    (hact : ∀ r, soundShow (act r s).state.seqr) (h : soundShow s.seqr) :
    soundShow (onPage owner page act s).state.seqr := by
  unfold onPage
  split
  · exact h
  · exact hact _

theorem soundShow_onMenuPage (r : PageRef) (act : State → Answer) (hact : soundShow (act s).state.seqr)
    (h : soundShow s.seqr) : soundShow (onMenuPage r act s).state.seqr := by
  unfold onMenuPage
  split
  · exact h
  split
  · exact h
  · exact hact

theorem soundShow_holdChange (r : PageRef) (change : Navigation → Navigation) (h : soundShow s.seqr) :
    soundShow (holdChange r change s).state.seqr := by
  unfold holdChange
  split
  · split <;> exact h
  · exact soundShow_of_seqr seqr_takeUp h

theorem soundShow_doKey (kind : Byte) (h : soundShow s.seqr) : soundShow (doKey kind s).state.seqr := by
  unfold doKey
  split
  · exact h
  split
  · exact h
  · exact soundShow_deliverKeys (soundShow_of_seqr rfl h)

theorem soundShow_doShow (owner page mode : Byte) (h : soundShow s.seqr) :
    soundShow (doShow owner page mode s).state.seqr := by
  have hshown {t : Option State} (ht : ∀ u, t = some u → u.seqr = s.seqr) : soundShow (shownOr t s).state.seqr := by
    cases t with
    | none => exact h
    | some u => exact soundShow_deliverKeys (soundShow_of_seqr (ht u rfl) h)
  unfold doShow
  split
  · exact h
  · refine soundShow_onPage owner page _ (fun r => soundShow_onMenuPage r _ (hshown fun u hu => ?_) h) h
    split at hu
    · exact seqr_showEntry hu
    · exact seqr_showCalling hu

theorem soundShow_doHide (owner page : Byte) (h : soundShow s.seqr) : soundShow (doHide owner page s).state.seqr :=
  soundShow_onPage owner page _ (fun r => soundShow_onMenuPage r _
    (soundShow_deliverKeys (soundShow_of_seqr (seqr_startLeaving r) h)) h) h

theorem soundShow_doHideBand (owner : Byte) (h : soundShow s.seqr) : soundShow (doHideBand owner s).state.seqr := by
  unfold doHideBand
  split
  · exact h
  · exact soundShow_deliverKeys (soundShow_of_seqr (seqr_hideBandEntries _) h)

theorem soundShow_doSelect (owner page button : Byte) (h : soundShow s.seqr) :
    soundShow (doSelect owner page button s).state.seqr := by
  refine soundShow_onPage owner page _ (fun r => soundShow_onMenuPage r _ ?_ h) h
  split
  · exact h
  split
  · exact soundShow_deliverKeys (soundShow_of_seqr (seqr_selectButton ..) h)
  · exact soundShow_holdChange _ _ h

theorem soundShow_doSetButton (owner page button enable : Byte) (h : soundShow s.seqr) :
    soundShow (doSetButton owner page button enable s).state.seqr := by
  refine soundShow_onPage owner page _ (fun r => soundShow_onMenuPage r _ ?_ h) h
  split
  · exact h
  split
  · split
    · exact h
    · exact soundShow_deliverKeys (soundShow_of_seqr (seqr_changeEnable ..) h)
  · exact soundShow_holdChange _ _ h

theorem soundShow_doSetTimeout (owner page : Byte) (value : Half) (restart : Byte) (h : soundShow s.seqr) :
    soundShow (doSetTimeout owner page value restart s).state.seqr := by
  refine soundShow_onPage owner page _ (fun r => soundShow_onMenuPage r _ ?_ h) h
  split <;> exact h

theorem soundShow_doReadPage (owner page : Byte) (h : soundShow s.seqr) :
    soundShow (doReadPage owner page s).state.seqr := by
  refine soundShow_onPage owner page _ (fun r => ?_) h
  split
  · exact h
  · split <;> exact h

theorem soundShow_doSetVar (num : Byte) (value : Word) (h : soundShow s.seqr) :
    soundShow (doSetVar num value s).state.seqr := by
  unfold doSetVar
  split <;> exact h

theorem soundShow_doGetVar (num : Byte) (h : soundShow s.seqr) : soundShow (doGetVar num s).state.seqr := by
  unfold doGetVar
  split <;> exact h

theorem soundShow_doSetHold (value : Half) (restart : Byte) (h : soundShow s.seqr) :
    soundShow (doSetHold value restart s).state.seqr := by
  unfold doSetHold
  split
  · exact h
  · refine (soundShow_congr ?_ ?_).2 h
    · dsimp only [done, updateSeq]
      split <;> rfl
    · dsimp only [done, updateSeq]
      split <;> rfl

theorem soundShow_doOutput (value : Byte) (h : soundShow s.seqr) : soundShow (doOutput value s).state.seqr := by
  refine soundShow_of_seqr ?_ h
  unfold doOutput
  split
  · rfl
  split
  · dsimp only [done]
    split <;> rfl
  · rfl

/-- A show starts in a defined list, at an index within it (R116). -/
theorem soundShow_doSlideStart (owner list index : Byte) (h : soundShow s.seqr) :
    soundShow (doSlideStart owner list index s).state.seqr := by
  unfold doSlideStart
  split
  · exact h
  split
  · exact h
  split
  · exact h
  · rename_i l hl
    split
    · exact h
    · rename_i hindex
      exact soundShow_startShow hl (Nat.lt_of_not_le hindex)

theorem soundShow_doSlideStop (h : soundShow s.seqr) : soundShow (doSlideStop s).state.seqr := by
  unfold doSlideStop done
  dsimp only
  split
  · exact h
  · exact soundShow_stopShow ..

theorem soundShow_doSlidePause (h : soundShow s.seqr) : soundShow (doSlidePause s).state.seqr := by
  unfold doSlidePause
  split
  · exact soundShow_pauseShow h
  · exact h

theorem soundShow_doSlideResume (h : soundShow s.seqr) : soundShow (doSlideResume s).state.seqr := by
  unfold doSlideResume
  split
  · exact soundShow_resumeShow h
  · exact h

theorem soundShow_doSlideStep (dir : Byte) (h : soundShow s.seqr) : soundShow (doSlideStep dir s).state.seqr := by
  unfold doSlideStep
  split
  · exact h
  split
  · exact h
  · exact soundShow_stepShow _ h

theorem soundShow_doSegOpen (kind : Byte) (length : Half) (h : soundShow s.seqr) :
    soundShow (doSegOpen kind length s).state.seqr := by
  unfold doSegOpen
  split
  · exact h
  split
  · exact h
  · exact soundShow_serve (soundShow_of_seqr rfl h)

theorem soundShow_doSegData (bytes : List Byte) (h : soundShow s.seqr) :
    soundShow (doSegData bytes s).state.seqr := by
  unfold doSegData
  split
  · exact h
  · exact soundShow_serve (soundShow_of_seqr rfl h)

theorem soundShow_doErasePlayer (h : soundShow s.seqr) : soundShow (doErasePlayer s).state.seqr := by
  simp only [doErasePlayer, done]
  exact soundShow_eraseOwner .player (soundShow_of_seqr rfl h)

/-- A reset stops the show. -/
theorem soundShow_resetBlocks (s : State) : soundShow (resetBlocks s).seqr := soundShow_of_stopped rfl

theorem soundShow_setupBody (format : Byte) (ticks : Half) (h : soundShow s.seqr) :
    soundShow (setupBody format ticks s).seqr := by
  unfold setupBody
  split
  · exact h
  split
  · exact h
  case h_2.isFalse f _ _ => exact soundShow_of_seqr (seqr_composerSetup f) h

/-- The command of a frame keeps the show inside its list. -/
theorem soundShow_runCommand (i : Instr) (h : soundShow s.seqr) : soundShow (runCommand i s).seqr := by
  cases i
  case nop => exact soundShow_command _ _ _ (fun _ ht => ht) h
  case clearConditions => exact soundShow_command _ _ _ (fun _ ht => ht) h
  case reset => exact soundShow_commandFrame _ _ _ (fun t _ =>
    soundShow_of_seqr (seqr_placeReply ..) (soundShow_resetBlocks t)) h
  case setup => exact soundShow_commandFrame _ _ _ (fun _ ht => soundShow_setupBody _ _ ht) h
  case output => exact soundShow_command _ _ _ (fun _ ht => soundShow_doOutput _ ht) h
  case key => exact soundShow_command _ _ _ (fun _ ht => soundShow_doKey _ ht) h
  case showPage => exact soundShow_command _ _ _ (fun _ ht => soundShow_doShow _ _ _ ht) h
  case hidePage => exact soundShow_command _ _ _ (fun _ ht => soundShow_doHide _ _ ht) h
  case hideBand => exact soundShow_command _ _ _ (fun _ ht => soundShow_doHideBand _ ht) h
  case select => exact soundShow_command _ _ _ (fun _ ht => soundShow_doSelect _ _ _ ht) h
  case setButton => exact soundShow_command _ _ _ (fun _ ht => soundShow_doSetButton _ _ _ _ ht) h
  case setTimeout => exact soundShow_command _ _ _ (fun _ ht => soundShow_doSetTimeout _ _ _ _ ht) h
  case readPage => exact soundShow_command _ _ _ (fun _ ht => soundShow_doReadPage _ _ ht) h
  case setVar => exact soundShow_command _ _ _ (fun _ ht => soundShow_doSetVar _ _ ht) h
  case getVar => exact soundShow_command _ _ _ (fun _ ht => soundShow_doGetVar _ ht) h
  case timeRun => exact soundShow_command _ _ _ (fun _ ht => ht) h
  case timeHold => exact soundShow_command _ _ _ (fun _ ht => ht) h
  case slideStart => exact soundShow_command _ _ _ (fun _ ht => soundShow_doSlideStart _ _ _ ht) h
  case slideStop => exact soundShow_command _ _ _ (fun _ ht => soundShow_doSlideStop ht) h
  case slidePause => exact soundShow_command _ _ _ (fun _ ht => soundShow_doSlidePause ht) h
  case slideResume => exact soundShow_command _ _ _ (fun _ ht => soundShow_doSlideResume ht) h
  case slideStep => exact soundShow_command _ _ _ (fun _ ht => soundShow_doSlideStep _ ht) h
  case setHold => exact soundShow_command _ _ _ (fun _ ht => soundShow_doSetHold _ _ ht) h
  case segOpen => exact soundShow_command _ _ _ (fun _ ht => soundShow_doSegOpen _ _ ht) h
  case segData => exact soundShow_command _ _ _ (fun _ ht => soundShow_doSegData _ ht) h
  case erasePlayer => exact soundShow_command _ _ _ (fun _ ht => soundShow_doErasePlayer ht) h
  all_goals exact h

theorem seqr_readFrame (cmd : Byte) (n : Nat) : (readFrame cmd n s).seqr = s.seqr := by
  unfold readFrame
  split
  · rfl
  · exact seqr_frameCrosses _

theorem seqr_readNoticeFrame (n : Nat) : (readNoticeFrame n s).seqr = s.seqr := by
  have hread := seqr_readFrame (s := s) 0x03 n
  unfold readNoticeFrame
  dsimp only
  split <;> exact hread

theorem seqr_badFrame (frame : List Byte) : (badFrame frame s).seqr = s.seqr := by
  have hcrossed := seqr_frameCrosses (s := s) frame
  unfold badFrame
  split
  · rfl
  · dsimp only
    split <;> exact hcrossed

theorem soundShow_completeFrame (frame : List Byte) (h : soundShow s.seqr) :
    soundShow (completeFrame frame s).seqr := by
  unfold completeFrame
  split
  · exact h
  split
  · refine soundShow_of_seqr ?_ h
    unfold runRead
    split
    · exact seqr_readNoticeFrame _
    · exact seqr_readFrame _ _
  split
  · exact soundShow_of_seqr (seqr_badFrame _) h
  split
  · exact soundShow_of_seqr (seqr_badFrame _) h
  · exact soundShow_runCommand _ h

/-! ### Cues (R136 to R142) -/

/-- Only the slide operation of a cue moves the show (R140). -/
theorem soundShow_runCueAction {i : Fin 16} {a : Action} {t : State} (h : soundShow s.seqr)
    (ht : runCueAction i a s = .done t) : soundShow t.seqr := by
  unfold runCueAction at ht
  dsimp only at ht
  split at ht
  case h_1 =>
    unfold cueShow at ht
    (repeat' split at ht) <;> cases ht
    case refl hshow => exact soundShow_of_seqr (seqr_showEntry hshow) h
  case h_2 =>
    unfold cueHide at ht
    split at ht <;> cases ht
    exact soundShow_of_seqr (seqr_startLeaving _) h
  case h_3 =>
    unfold cueSelect at ht
    (repeat' split at ht) <;> cases ht
    exact soundShow_of_seqr (seqr_selectButton ..) h
  case h_4 =>
    split at ht <;> cases ht
    exact h
  case h_5 =>
    split at ht <;> cases ht
    exact soundShow_slideOperation _ h
  all_goals cases ht; exact h

theorem soundShow_fireCue (i : Fin 16) (c : CueRecord) (h : soundShow s.seqr) : soundShow (fireCue i c s).seqr := by
  have hreport (detail : Word) (t : State) : (reportCue i c.action detail t).seqr = t.seqr := by
    unfold reportCue cueNotice
    split <;> simp
  unfold fireCue
  rw [seqr_setCueSlot]
  split
  case h_1 hdone => exact soundShow_of_seqr (hreport ..) (soundShow_runCueAction h hdone)
  case h_2 => exact soundShow_of_seqr ((hreport ..).trans (seqr_post ..)) h

theorem soundShow_evaluateCue (i : Fin 16) (h : soundShow s.seqr) : soundShow (evaluateCue s i).seqr := by
  have hset (v : CueSlot) : soundShow (setCueSlot i v s).seqr := h
  unfold evaluateCue
  dsimp only
  (repeat' split) <;> simp only [h, hset, soundShow_fireCue]

theorem soundShow_cueField (h : soundShow s.seqr) : soundShow (cueField s).seqr := by
  have htime : soundShow (advanceTime s).seqr := by
    unfold advanceTime
    split <;> exact h
  unfold cueField
  dsimp only
  split
  · exact soundShow_deliverKeys (soundShow_foldl _ (fun _ i ht => soundShow_evaluateCue i ht) _ htime)
  · exact htime

/-! ### Field starts (R143) -/

theorem soundShow_actBlock (b : FieldBlock) (h : soundShow s.seqr) : soundShow (actBlock s b).seqr := by
  have hdue (v : List FieldBlock) : soundShow (s.setDue v).seqr := h
  unfold actBlock
  split
  · cases b with
    | pageStack => exact soundShow_deliverKeys (soundShow_of_seqr seqr_stackField (hdue _))
    | navigation => exact soundShow_navigationField (hdue _)
    | sequencer => exact soundShow_sequencerField (hdue _)
    | cues => exact soundShow_cueField (hdue _)
    | composer => exact soundShow_of_seqr seqr_composerField (hdue _)
  · exact h

theorem soundShow_settleField (h : soundShow s.seqr) : soundShow (settleField s).seqr := by
  unfold settleField
  split
  · exact h
  · exact soundShow_foldl _ (fun _ b ht => soundShow_actBlock b ht) _ h

theorem soundShow_fieldStart (order : List FieldBlock) (h : soundShow s.seqr) :
    soundShow (fieldStart order s).seqr := by
  have hact (l : List FieldBlock) {t : State} (ht : soundShow t.seqr) : soundShow (l.foldl actBlock t).seqr :=
    soundShow_foldl _ (fun _ b ht => soundShow_actBlock b ht) l ht
  have hcounted : soundShow (countField (s.due.foldl actBlock s)).seqr := hact _ h
  exact soundShow_settleField (s := decideScan _) (hact _ hcounted)

theorem soundShow_fadeEvent (test : State → Entry → Bool) (h : soundShow s.seqr) :
    soundShow (fadeEvent test s).seqr := by
  have hexamined : soundShow (examineNext test s).seqr := by
    unfold examineNext
    (repeat' split) <;> simp [h]
  refine soundShow_settleField ?_
  dsimp only
  split
  · split
    · exact hexamined
    · exact soundShow_actBlock _ hexamined
  · exact h

/-- An event that lets a block act where it is due. -/
theorem soundShow_eventOf (b : FieldBlock) (p : Prop) [Decidable p] (h : soundShow s.seqr) :
    soundShow (settleField (if p then actBlock s b else s)).seqr := by
  refine soundShow_settleField ?_
  split
  · exact soundShow_actBlock b h
  · exact h

theorem soundShow_activationEvent (h : soundShow s.seqr) : soundShow (activationEvent s).seqr := by
  refine soundShow_settleField ?_
  split
  · exact soundShow_actBlock _ h
  split
  · exact h
  · exact soundShow_deliverKeys (soundShow_completeActivation _ h)

/-! ### The rows of the table -/

theorem soundShow_arriveSegment (lane : Owner) (kind : Byte) (p : List Byte) (h : soundShow s.seqr) :
    soundShow (arriveSegment lane kind p s).seqr := by
  unfold arriveSegment
  split
  · exact soundShow_wholeSegment lane kind p h
  · exact h

theorem soundShow_finishSetup (h : soundShow s.seqr) : soundShow (finishSetup s).seqr := by
  unfold finishSetup
  split
  · dsimp only
    split <;> exact h
  · exact h

theorem soundShow_timeOutFrame (bytes : List Byte) (h : soundShow s.seqr) :
    soundShow (timeOutFrame bytes s).seqr := by
  unfold timeOutFrame
  split
  · exact h
  · exact soundShow_of_seqr (seqr_receiveFrame bytes) h

theorem soundShow_awake {f : State → State} (hf : soundShow (f s).seqr) (h : soundShow s.seqr) :
    soundShow (awake f s).seqr := by
  unfold awake
  split
  · exact h
  · exact hf

theorem soundShow_releaseReset (h : soundShow s.seqr) : soundShow (releaseReset s).seqr := by
  unfold releaseReset
  split <;> exact h

/-- Every row of the table keeps the show inside its list. -/
theorem soundShow_exec (i : Instr) (h : soundShow s.seqr) : ∃ t, exec i s = .next t ∧ soundShow t.seqr := by
  have hsegment (lane : Owner) (kind : Byte) (p : List Byte) : soundShow (awake (arriveSegment lane kind p) s).seqr :=
    soundShow_awake (soundShow_arriveSegment lane kind p h) h
  have hevent (b : FieldBlock) (p : Prop) [Decidable p] :
      soundShow (awake (fun _ => settleField (if p then actBlock s b else s)) s).seqr :=
    soundShow_awake (soundShow_eventOf b p h) h
  by_cases hcommand : (encodeFrame i).isSome = true
  · exact ⟨_, exec_of_encodeFrame i s hcommand, soundShow_runCommand i h⟩
  cases i
  case powerOn => exact ⟨_, rfl, soundShow_resetBlocks s⟩
  case resetN => exact ⟨_, rfl, soundShow_resetBlocks s⟩
  case fieldStart order => exact ⟨_, rfl, soundShow_awake (soundShow_fieldStart order h) h⟩
  case passComplete => exact ⟨_, rfl, soundShow_awake (soundShow_of_seqr seqr_completePass h) h⟩
  case fadeInEnd => exact ⟨_, rfl, soundShow_awake (soundShow_fadeEvent _ h) h⟩
  case fadeOutEnd => exact ⟨_, rfl, soundShow_awake (soundShow_fadeEvent _ h) h⟩
  case activationComplete => exact ⟨_, rfl, soundShow_awake (soundShow_activationEvent h) h⟩
  case pageTimeoutExpiry => exact ⟨_, rfl, hevent _ _⟩
  case holdRunOut => exact ⟨_, rfl, hevent _ _⟩
  case transitionEnd => exact ⟨_, rfl, hevent _ _⟩
  case keyDelivery => exact ⟨_, rfl, soundShow_awake (soundShow_deliverKeys h) h⟩
  case saveDone => exact ⟨_, rfl, soundShow_awake (soundShow_of_seqr seqr_completeSave h) h⟩
  case loadDone k => exact ⟨_, rfl, soundShow_awake (soundShow_completeLoad k h) h⟩
  case streamByte b => exact ⟨_, rfl, soundShow_awake (soundShow_presentByte b h) h⟩
  case discLaneByte => exact ⟨_, rfl, soundShow_awake (soundShow_takeLaneByte h) h⟩
  case segmentServe => exact ⟨_, rfl, soundShow_awake (soundShow_serve h) h⟩
  case edition => exact ⟨_, rfl, hsegment _ _ _⟩
  case time => exact ⟨_, rfl, hsegment _ _ _⟩
  case palette => exact ⟨_, rfl, hsegment _ _ _⟩
  case objectFirstPart => exact ⟨_, rfl, hsegment _ _ _⟩
  case objectPart => exact ⟨_, rfl, hsegment _ _ _⟩
  case page => exact ⟨_, rfl, hsegment _ _ _⟩
  case slidelist => exact ⟨_, rfl, hsegment _ _ _⟩
  case cue => exact ⟨_, rfl, hsegment _ _ _⟩
  case delete => exact ⟨_, rfl, hsegment _ _ _⟩
  case linkTimeout => exact ⟨_, rfl, soundShow_timeOutFrame _ h⟩
  case unknownCommand => exact ⟨_, rfl, soundShow_completeFrame _ h⟩
  case readReply => exact ⟨_, rfl, soundShow_of_seqr (seqr_readFrame _ _) h⟩
  case readStatus => exact ⟨_, rfl, soundShow_of_seqr (seqr_readFrame _ _) h⟩
  case readNotice => exact ⟨_, rfl, soundShow_of_seqr (seqr_readNoticeFrame _) h⟩
  case setupClearDone => exact ⟨_, rfl, soundShow_awake (soundShow_finishSetup h) h⟩
  case resetNRelease => exact ⟨_, rfl, soundShow_releaseReset h⟩
  all_goals exact absurd rfl hcommand

end ShowRows

/-- Settles O56: a show starts at an index within a defined list, moves only to entries of that list, and stops where
its list is defined anew or goes. -/
theorem everyStepKeepsTheShowInItsList : Obligations.EveryStepKeepsTheShowInItsList := by
  intro s t hs hstep
  rw [showSound_iff] at hs ⊢
  rcases step_cases hstep with rfl | ⟨c, cs, -, hexec⟩
  · exact hs
  · obtain ⟨u, hu, hsound⟩ := soundShow_exec (s := s.setPending cs) c hs
    cases hu.symm.trans hexec
    exact hsound

end Sys2Proof.Machine

namespace Sys2Proof.Machine

open Sys2Proof

/-! ## Stream time and conditions (R131 to R133) -/

/-- A difference of two words is that of their values modulo 2^32. -/
theorem toNat_sub_word (x y : Word) : ((x - y).toNat : Int) = ((x.toNat : Int) - y.toNat) % 2 ^ 32 := by
  have hx := x.isLt
  have hy := y.isLt
  rw [BitVec.toNat_sub]
  omega

theorem hasReached_iff (t target : Word) :
    hasReached t target = true ↔ ((t.toNat : Int) - target.toNat) % 2 ^ 32 < 2 ^ 31 := by
  rw [hasReached, decide_eq_true_eq, ← toNat_sub_word]
  omega

theorem inRange_iff (t a b : Word) : inRange t a b = true ↔
    ((t.toNat : Int) - a.toNat) % 2 ^ 32 ≤ ((b.toNat : Int) - a.toNat) % 2 ^ 32 := by
  rw [inRange, decide_eq_true_eq, ← toNat_sub_word, ← toNat_sub_word]
  omega

theorem inRange_lower (a b : Word) : inRange a a b = true := by simp [inRange]

theorem inRange_upper (a b : Word) : inRange b a b = true := by simp [inRange]

/-- A range of one time holds that time alone. -/
theorem inRange_single (t a : Word) : inRange t a a = true ↔ t = a := by
  rw [inRange, decide_eq_true_eq]
  bv_omega

/-- Settles O44: differences of words are differences modulo 2^32. -/
theorem timeComparisonsWrap : Obligations.TimeComparisonsWrap :=
  fun t target a b => ⟨hasReached_iff t target, inRange_iff t a b, fun hab => hab ▸ inRange_single t a,
    inRange_lower a b, inRange_upper a b⟩

/-- Two words agree under a mask where they agree in the bits that the mask sets (R133). -/
theorem masked_eq_iff (x p q : Word) :
    x &&& q = p &&& q ↔ ∀ j, q.getLsbD j = true → x.getLsbD j = p.getLsbD j := by
  refine ⟨fun h j hj => ?_, fun h => BitVec.eq_of_getLsbD_eq fun j _ => ?_⟩
  · have hbit := congrArg (fun w : Word => w.getLsbD j) h
    simpa [hj] using hbit
  · cases hj : q.getLsbD j with
    | false => simp [hj]
    | true => simp [hj, h j hj]

theorem condTrue_varEq_iff {s : State} {c : Cond} (h : c.kind = .varEq) : condTrue s c = true ↔
    ∀ j, c.q.getLsbD j = true → (s.nav.vars[c.var]).getLsbD j = c.p.getLsbD j := by
  simp only [condTrue, h, beq_iff_eq, masked_eq_iff, variableAt]

theorem condTrue_varNe_iff {s : State} {c : Cond} (h : c.kind = .varNe) : condTrue s c = true ↔
    ¬ ∀ j, c.q.getLsbD j = true → (s.nav.vars[c.var]).getLsbD j = c.p.getLsbD j := by
  simp only [condTrue, h, bne_iff_ne, ne_eq, masked_eq_iff, variableAt]

/-- Outside a range is beyond its length from its lower end. -/
theorem not_inRange_iff (t a b : Word) : (!inRange t a b) = true ↔
    ((b.toNat : Int) - a.toNat) % 2 ^ 32 < ((t.toNat : Int) - a.toNat) % 2 ^ 32 := by
  rw [Bool.not_eq_true', Bool.eq_false_iff, ne_eq, inRange_iff, not_le]

/-! ## Cue slots: reading, writing, one step (R133, R136, R139) -/

section CueSlots

variable {s : State}

@[simp] theorem cueSlot_setCueSlot_same (i : Fin 16) (v : CueSlot) : cueSlot i (setCueSlot i v s) = v := by
  simp [cueSlot, setCueSlot]

theorem cueSlot_setCueSlot_ne {i j : Fin 16} (h : j ≠ i) (v : CueSlot) :
    cueSlot j (setCueSlot i v s) = cueSlot j s := by
  have hne : i.val ≠ j.val := fun hij => h (Fin.ext hij.symm)
  simp [cueSlot, setCueSlot, Vector.getElem_set_ne, hne]

/-- What a slot holds once its cue has fired (R139). -/
def firedSlot (c : CueRecord) : CueSlot := ⟨if c.repeats = true then .resting else .fired, some c⟩

theorem fireCue_done {i : Fin 16} {c : CueRecord} {t : State} (h : runCueAction i c.action s = .done t) :
    fireCue i c s = setCueSlot i (firedSlot c) (reportCue i c.action 0 t) := by
  simp only [fireCue, h]
  rfl

theorem fireCue_faulted {i : Fin 16} {c : CueRecord} {code : Half} {detail : Word}
    (h : runCueAction i c.action s = .faulted code detail) : fireCue i c s = setCueSlot i (firedSlot c)
      (reportCue i c.action 1 (cueNotice .outcomeFault i c.action code detail true s)) := by
  simp only [fireCue, h]
  rfl

theorem cueSlot_fireCue (i : Fin 16) (c : CueRecord) : cueSlot i (fireCue i c s) = firedSlot c :=
  cueSlot_setCueSlot_same ..

section Step

variable {i : Fin 16}

theorem evaluateCue_unrecorded (hcue : (cueSlot i s).cue = none) : evaluateCue s i = s := by
  simp only [evaluateCue, hcue]

variable {c : CueRecord} (hcue : (cueSlot i s).cue = some c)

include hcue

theorem evaluateCue_watching (hst : (cueSlot i s).st = .watching) : evaluateCue s i =
    if condTrue s c.level1 = true then
      if c.level2.kind = .absent then fireCue i c s else setCueSlot i ⟨.armed, some c⟩ s
    else s := by
  simp only [evaluateCue, hcue, hst]

theorem evaluateCue_armed (hst : (cueSlot i s).st = .armed) :
    evaluateCue s i = if condTrue s c.level2 = true then fireCue i c s else s := by
  simp only [evaluateCue, hcue, hst]

theorem evaluateCue_resting (hst : (cueSlot i s).st = .resting) :
    evaluateCue s i = if condTrue s c.level1 = true then s else setCueSlot i ⟨.watching, some c⟩ s := by
  simp only [evaluateCue, hcue, hst]

theorem evaluateCue_over (hst : (cueSlot i s).st = .fired ∨ (cueSlot i s).st = .idle) : evaluateCue s i = s := by
  rcases hst with hst | hst <;> simp only [evaluateCue, hcue, hst]

end Step

/-- All that one step of a slot can do (R136): nothing, fire, become ARMED with a level-2 condition, or go back to
WATCHING. -/
theorem evaluateCue_cases (i : Fin 16) : evaluateCue s i = s ∨ ∃ c, evaluateCue s i = fireCue i c s ∨
    (c.level2.kind ≠ .absent ∧ evaluateCue s i = setCueSlot i ⟨.armed, some c⟩ s) ∨
    evaluateCue s i = setCueSlot i ⟨.watching, some c⟩ s := by
  cases hcue : (cueSlot i s).cue with
  | none => exact .inl (evaluateCue_unrecorded hcue)
  | some c =>
    cases hst : (cueSlot i s).st with
    | watching =>
      rw [evaluateCue_watching hcue hst]
      split
      · split
        · exact .inr ⟨c, .inl rfl⟩
        case isFalse hlevel => exact .inr ⟨c, .inr (.inl ⟨hlevel, rfl⟩)⟩
      · exact .inl rfl
    | armed =>
      rw [evaluateCue_armed hcue hst]
      split
      · exact .inr ⟨c, .inl rfl⟩
      · exact .inl rfl
    | resting =>
      rw [evaluateCue_resting hcue hst]
      split
      · exact .inl rfl
      · exact .inr ⟨c, .inr (.inr rfl)⟩
    | fired => exact .inl (evaluateCue_over hcue (.inl hst))
    | idle => exact .inl (evaluateCue_over hcue (.inr hst))

end CueSlots

/-! ## TIME segments (R131, R138) -/

theorem rewatch_eq (c : CueSlot) : rewatch c =
    if c.st = .armed ∨ c.st = .resting ∨ c.st = .fired then ⟨.watching, c.cue⟩ else c := by
  cases hst : c.st <;> simp [rewatch, hst]

theorem wholeSegment_time (p : List Byte) (s : State) : wholeSegment .disc kindTime p s = takeTime .disc p s := by
  have hjudged : headerFault .disc kindTime p.length = none := by
    simp [headerFault, isKind, kindTime, kindEdition, kindPage, kindMinimum, kindPalette, kindObject, kindSlideList]
  simp only [wholeSegment, hjudged]
  simp [handSegment, kindTime, kindEdition]

theorem exec_time {s : State} (h : laneOpen s = true) (p : List Byte) :
    exec (.time .disc p) s = .next (takeTime .disc p s) := by
  simp only [exec, execTime, awake_arriveSegment h, wholeSegment_time]

section TakeTime

variable {lane : Owner} {p : List Byte} {s : State}

theorem takeTime_refused (h : p.length ≠ 5) :
    takeTime lane p s = segmentFaultNotice lane 0x02 0x02 0 0 s := if_pos h

theorem takeTime_accepted (h : p.length = 5) : takeTime lane p s = s.setCues { s.cues with
    time := wordAt p 0
    slots := if (byteAt p 4).getLsbD 0 = true then mapWhere (fun i => decide (i < 8)) rewatch s.cues.slots
      else s.cues.slots } := if_neg (not_not.2 h)

/-- With DISCONTINUITY the disc slots are watched again, and no other slot changes (R138). -/
theorem cueSlot_takeTime (h : p.length = 5) (i : Fin 16) : cueSlot i (takeTime lane p s) =
    if (byteAt p 4).getLsbD 0 = true ∧ i.val < 8 then rewatch (cueSlot i s) else cueSlot i s := by
  rw [takeTime_accepted h, cueSlot, State.setCues_cues]
  cases (byteAt p 4).getLsbD 0 with
  | false => rfl
  | true => simp only [if_true, getElem_mapWhere, decide_eq_true_eq, true_and, cueSlot]

end TakeTime

/-- Settles O15: the length is checked, then the time is taken and the disc slots are watched again. -/
theorem timeSegmentSetsTime : Obligations.TimeSegmentSetsTime := by
  intro p s hopen
  rw [exec_time hopen]
  refine ⟨fun hlength => congrArg Host.Outcome.next (takeTime_refused hlength), fun hlength =>
    ⟨_, rfl, ?_, ?_, ?_, ?_, fun i => ?_⟩⟩
  · rw [takeTime_accepted hlength]; rfl
  · rw [takeTime_accepted hlength]; rfl
  · rw [takeTime_accepted hlength]; rfl
  · rw [takeTime_accepted hlength]; rfl
  · rw [cueSlot_takeTime hlength, rewatch_eq]
    by_cases hdisc : (byteAt p 4).getLsbD 0 = true ∧ i.val < 8
    · simp only [hdisc, and_self, if_true, true_and]
    · rw [if_neg hdisc, if_neg fun h => hdisc ⟨h.1, h.2.1⟩]

end Sys2Proof.Machine

namespace Sys2Proof.Machine

open Sys2Proof

/-! ## What leaves the Cue Unit alone: all but its own segments, evaluations and settings -/

section CuesLeft

variable {s : State}

theorem cues_of_still {t : State} (h : still t = still s) : t.cues = s.cues := by
  have hcues : (still t).cues = (still s).cues := congrArg State.cues h
  exact hcues

theorem cues_of_stillOffLink {t : State} (h : stillOffLink t = stillOffLink s) : t.cues = s.cues := by
  have hcues : (stillOffLink t).cues = (stillOffLink s).cues := congrArg State.cues h
  exact hcues

theorem cues_of_onlyDue {t : State} (h : OnlyDue s t) : t.cues = s.cues := by
  have hcues : (still t).cues = ((still s).setDue t.due).cues := congrArg State.cues h
  exact hcues

/-! ### Single updates and the interactive blocks -/

@[simp] theorem cues_setObjEntry (i : Fin 512) (e : ObjEntry) : (setObjEntry i e s).cues = s.cues := rfl
@[simp] theorem cues_setPageEntry (r : PageRef) (e : PageEntry) : (setPageEntry r e s).cues = s.cues := rfl
@[simp] theorem cues_setLane (l : LaneState) : (setLane l s).cues = s.cues := rfl
@[simp] theorem cues_raiseRecompose : (raiseRecompose s).cues = s.cues := rfl
@[simp] theorem cues_withConditions (f : Conditions → Conditions) : (withConditions f s).cues = s.cues := rfl
@[simp] theorem cues_placeReply (cmd : Byte) (code : ReplyCode) (data : List Byte) :
    (placeReply cmd code data s).cues = s.cues := rfl

@[simp] theorem cues_post (kind : NoticeKind) (owner : Option Owner) (page : Option (Fin 32)) (index code : Half)
    (detail : Word) (flag : Bool) : (post kind owner page index code detail flag s).cues = s.cues :=
  cues_of_still (still_post ..)

@[simp] theorem cues_segmentFault (lane : Owner) (kind code : Byte) (id : Half) (detail : Nat) :
    (segmentFault lane kind code id detail s).cues = s.cues := cues_post ..

@[simp] theorem cues_objectFault (i : Fin 512) (code : Half) (detail : Nat) :
    (objectFault i code detail s).cues = s.cues := cues_post ..

@[simp] theorem cues_deliverKeys : (deliverKeys s).cues = s.cues := cues_of_still (still_deliverKeys s)

@[simp] theorem cues_stopShow (reason : Half) : (stopShow reason s).cues = s.cues := cues_of_still (still_stopShow ..)

/-! ### Objects, passes, palettes -/

@[simp] theorem cues_releaseOpt (r : Option Region) : (releaseOpt r s).cues = s.cues := by
  rw [releaseOpt_eq]
  rfl

@[simp] theorem cues_feedByte (i : Fin 512) (b : Byte) : (feedByte i b s).cues = s.cues := by
  unfold feedByte
  dsimp only
  (repeat' split) <;> rfl

@[simp] theorem cues_feedBytes (i : Fin 512) (bs : List Byte) : (feedBytes i bs s).cues = s.cues := by
  induction bs generalizing s with
  | nil => rfl
  | cons b bs ih => exact ih.trans (cues_feedByte i b)

@[simp] theorem cues_abandonDecode (i : Fin 512) : (abandonDecode i s).cues = s.cues := by
  cases hinc : (objEntry i s).incoming with
  | none => simp [abandonDecode, hinc]
  | some inc => rw [abandonDecode_eq hinc]; rfl

@[simp] theorem cues_completeObject (i : Fin 512) : (completeObject i s).cues = s.cues := by
  simp only [completeObject]
  (repeat' split) <;> simp

theorem cues_firstPart (i : Fin 512) (h : PartHead) : (firstPart i h s).1.cues = s.cues := by
  simp only [firstPart, setHeapFull]
  (repeat' split) <;> simp

theorem cues_laterPart (i : Fin 512) (h : PartHead) : (laterPart i h s).1.cues = s.cues := by
  simp only [laterPart]
  (repeat' split) <;> simp

theorem cues_beginPart (lane : Owner) (h : PartHead) : (beginPart lane h s).1.cues = s.cues := by
  simp only [beginPart]
  (repeat' split) <;> simp [cues_firstPart, cues_laterPart]

@[simp] theorem cues_takePart (lane : Owner) (p : List Byte) : (takePart lane p s).cues = s.cues := by
  have hbegin := cues_beginPart (s := s) lane (parsePart p)
  unfold takePart
  dsimp only
  split
  · simp
  split
  case h_1 hs1 => rwa [hs1] at hbegin
  case h_2 hs1 =>
    rw [hs1] at hbegin
    split <;> simpa using hbegin

@[simp] theorem cues_overrunPart (i : Fin 512) : (overrunPart i s).cues = s.cues := by
  simp only [overrunPart]
  split <;> simp

@[simp] theorem cues_deleteObject (i : Fin 512) : (deleteObject i s).cues = s.cues := by
  simp only [deleteObject]
  split <;> simp

@[simp] theorem cues_beforeLiveChange : (beforeLiveChange s).cues = s.cues := by
  rw [beforeLiveChange_eq]
  rfl

@[simp] theorem cues_takePalette (lane : Owner) (p : List Byte) : (takePalette lane p s).cues = s.cues := by
  unfold takePalette
  split <;> simp

@[simp] theorem cues_deletePalette (i : Fin 16) : (deletePalette i s).cues = s.cues := cues_beforeLiveChange

theorem cues_startPassIfNeeded : (startPassIfNeeded s).cues = s.cues := by
  unfold startPassIfNeeded
  (repeat' split) <;> rfl

theorem cues_composerField : (composerField s).cues = s.cues := by
  cases hpass : s.comp.pass with
  | idle => rw [composerField_idle hpass, cues_startPassIfNeeded]
  | done => rw [composerField_done hpass, cues_startPassIfNeeded]; rfl
  | drawing => rw [composerField_drawing hpass]; rfl

theorem cues_completePass : (completePass s).cues = s.cues := by
  by_cases hpass : s.comp.pass = .drawing
  · rw [completePass_drawing hpass]; rfl
  · rw [completePass, if_neg (by simpa [passInFlight] using hpass)]

@[simp] theorem cues_composerSetup (f : PlaneFormat) : (composerSetup f s).cues = s.cues := by
  simp only [composerSetup]
  split <;> rfl

/-! ### Pages, slide lists, lanes, frames -/

theorem cues_completeSave : (completeSave s).cues = s.cues := by
  rcases still_completeSave s with hsame | ⟨x, v, -, -, hwritten⟩
  · exact cues_of_still hsame
  · exact (cues_of_still hwritten).trans rfl

theorem cues_definePage (r : PageRef) (p : List Byte) : (definePage r p s).cues = s.cues := by
  rw [definePage_eq]
  split
  · exact (cues_of_still (still_autoShowPage ..)).trans rfl
  · rfl

theorem cues_redefinePage (r : PageRef) (p : List Byte) : (redefinePage r p s).cues = s.cues := by
  have hstored : still (redefinePage r p s) = still (pageStored r p (pageEntry r s).slot s) := by
    rw [redefinePage_eq]
    dsimp only
    (repeat' split) <;> simp [pageTold]
  exact (cues_of_still hstored).trans rfl

@[simp] theorem cues_takePage (lane : Owner) (p : List Byte) : (takePage lane p s).cues = s.cues := by
  unfold takePage
  split
  · exact cues_segmentFault ..
  · rw [cues_deliverKeys]
    split
    · exact cues_redefinePage ..
    · exact cues_definePage ..

@[simp] theorem cues_deletePage (r : PageRef) : (deletePage r s).cues = s.cues := by
  cases hdefined : (pageEntry r s).defined with
  | true => exact (cues_of_still (still_deletePage hdefined)).trans (cues_setPageEntry ..)
  | false => rw [deletePage, if_neg (Bool.eq_false_iff.1 hdefined)]

@[simp] theorem cues_changeList (o : Owner) (i : Fin 2) (l : Option SlideList) :
    (changeList o i l s).cues = s.cues := by
  unfold changeList updateSeq
  dsimp only
  split <;> simp

/-- Only the cues of the owner go with its items (R135). -/
theorem cues_eraseOwner (o : Owner) : (eraseOwner o s).cues =
    { s.cues with slots := mapWhere (ownsCue o) (fun _ => ⟨.idle, none⟩) s.cues.slots } := by
  obtain ⟨m, c, n, hstored, -⟩ := storesErased_eq o s
  have hpages := stores_erasePages o (storesErased o s)
  simp only [stores, Prod.mk.injEq] at hpages
  obtain ⟨-, -, -, hpages⟩ := hpages
  have hcues : (storesErased o s).cues = s.cues := by rw [hstored]; rfl
  rw [eraseOwner_eq, cues_deliverKeys, ownerErased, eraseCues, State.setCues_cues, hpages, hcues]

@[simp] theorem cues_receiverFault (lane : Owner) (kind code : Byte) (len : Nat) :
    (receiverFault lane kind code len s).cues = s.cues := cues_segmentFault ..

@[simp] theorem cues_inSkip (kind : Byte) (len left : Nat) (badKind : Bool) :
    (inSkip kind len left badKind s).cues = s.cues := by
  unfold inSkip endSkip
  (repeat' split) <;> simp

@[simp] theorem cues_abandonLane : (abandonLane s).cues = s.cues := by
  simp only [abandonLane, cues_setLane]
  split <;> simp

@[simp] theorem cues_receiveFrame (bytes : List Byte) : (receiveFrame bytes s).cues = s.cues := by
  rw [receiveFrame_eq]
  rfl

@[simp] theorem cues_frameCrosses (bytes : List Byte) : (frameCrosses bytes s).cues = s.cues :=
  cues_receiveFrame bytes

theorem cues_readFrame (cmd : Byte) (n : Nat) : (readFrame cmd n s).cues = s.cues := by
  unfold readFrame
  split
  · rfl
  · exact cues_frameCrosses _

theorem cues_readNoticeFrame (n : Nat) : (readNoticeFrame n s).cues = s.cues := by
  have hread := cues_readFrame (s := s) 0x03 n
  unfold readNoticeFrame
  dsimp only
  split <;> exact hread

theorem cues_badFrame (frame : List Byte) : (badFrame frame s).cues = s.cues := by
  have hcrossed := cues_frameCrosses (s := s) frame
  unfold badFrame
  split
  · rfl
  · dsimp only
    split <;> exact hcrossed

end CuesLeft

end Sys2Proof.Machine

namespace Sys2Proof.Machine

open Sys2Proof

/-! ## The cue slots stay sound: the Cue Unit, segments, the lanes (R133 to R138) -/

section CueSoundness

variable {s : State}

theorem cuesSound_of_slots {t : State} (hslots : t.cues.slots = s.cues.slots) (h : cuesSound s) : cuesSound t := by
  intro i
  rw [cueSlot, hslots]
  exact h i

theorem cuesSound_of_cues {t : State} (hcues : t.cues = s.cues) (h : cuesSound s) : cuesSound t :=
  cuesSound_of_slots (congrArg CueUnit.slots hcues) h

theorem cuesSound_foldl {α : Type} (f : State → α → State) (hf : ∀ t a, cuesSound t → cuesSound (f t a))
    (l : List α) (h : cuesSound s) : cuesSound (l.foldl f s) := by
  induction l generalizing s with
  | nil => exact h
  | cons a l ih => exact ih (hf s a h)

/-! ### What stands in a slot -/

/-- A WATCHING slot with a record is sound (R133). -/
theorem cueSlotSound_watching (c : CueRecord) : cueSlotSound ⟨.watching, some c⟩ = true := rfl

theorem cueSlotSound_idle : cueSlotSound ⟨.idle, none⟩ = true := rfl

/-- A cue becomes ARMED only to wait for its level 2 (R136). -/
theorem cueSlotSound_armed {c : CueRecord} (h : c.level2.kind ≠ .absent) :
    cueSlotSound ⟨.armed, some c⟩ = true := by simpa [cueSlotSound] using h

theorem cueSlotSound_firedSlot (c : CueRecord) : cueSlotSound (firedSlot c) = true := by
  unfold firedSlot
  split <;> rfl

/-- A slot that is watched again held a record before, for it was not IDLE (R138). -/
theorem cueSlotSound_rewatch {c : CueSlot} (h : cueSlotSound c = true) : cueSlotSound (rewatch c) = true := by
  rw [rewatch_eq]
  split
  case isTrue hst =>
    cases hcue : c.cue with
    | none =>
      have hidle : c.st = .idle := by simpa [cueSlotSound, hcue] using h
      simp [hidle] at hst
    | some r => exact cueSlotSound_watching r
  case isFalse => exact h

theorem cuesSound_setCueSlot {i : Fin 16} {v : CueSlot} (hv : cueSlotSound v = true) (h : cuesSound s) :
    cuesSound (setCueSlot i v s) := by
  intro j
  by_cases hj : j = i
  · rw [hj, cueSlot_setCueSlot_same]
    exact hv
  · rw [cueSlot_setCueSlot_ne hj]
    exact h j

/-! ### Evaluations (R136, R139) -/

theorem cuesSound_fireCue (i : Fin 16) (c : CueRecord) (h : cuesSound s) : cuesSound (fireCue i c s) := by
  have hreport (detail : Word) (t : State) (ht : cuesSound t) : cuesSound (reportCue i c.action detail t) :=
    cuesSound_of_cues (cues_of_still (still_reportCue ..)) ht
  cases hrun : runCueAction i c.action s with
  | done t =>
    rw [fireCue_done hrun]
    exact cuesSound_setCueSlot (cueSlotSound_firedSlot c)
      (hreport 0 t (cuesSound_of_cues (cues_of_still (still_runCueAction hrun)) h))
  | faulted code detail =>
    rw [fireCue_faulted hrun]
    exact cuesSound_setCueSlot (cueSlotSound_firedSlot c)
      (hreport 1 _ (cuesSound_of_cues (cues_of_still (still_cueNotice ..)) h))

theorem cuesSound_evaluateCue (i : Fin 16) (h : cuesSound s) : cuesSound (evaluateCue s i) := by
  rcases evaluateCue_cases (s := s) i with hsame | ⟨c, hfired | ⟨hlevel, harmed⟩ | hwatching⟩
  · rwa [hsame]
  · rw [hfired]
    exact cuesSound_fireCue i c h
  · rw [harmed]
    exact cuesSound_setCueSlot (cueSlotSound_armed hlevel) h
  · rw [hwatching]
    exact cuesSound_setCueSlot (cueSlotSound_watching c) h

theorem cuesSound_cueField (h : cuesSound s) : cuesSound (cueField s) := by
  have htime : cuesSound (advanceTime s) := cuesSound_of_slots (by rw [advanceTime_eq]; rfl) h
  unfold cueField
  dsimp only
  split
  · exact cuesSound_of_cues cues_deliverKeys
      (cuesSound_foldl _ (fun _ i ht => cuesSound_evaluateCue i ht) _ htime)
  · exact htime

/-! ### Segments (R131, R134, R135, R138, R173, R174) -/

theorem cuesSound_takeTime (lane : Owner) (p : List Byte) (h : cuesSound s) : cuesSound (takeTime lane p s) := by
  by_cases hlength : p.length = 5
  · intro i
    rw [cueSlot_takeTime hlength]
    split
    · exact cueSlotSound_rewatch (h i)
    · exact h i
  · rw [takeTime_refused hlength]
    exact cuesSound_of_cues (cues_post ..) h

theorem cuesSound_takeCue (lane : Owner) (p : List Byte) (h : cuesSound s) : cuesSound (takeCue lane p s) := by
  unfold takeCue
  split
  · exact cuesSound_of_cues (cues_segmentFault ..) h
  · exact cuesSound_setCueSlot (cueSlotSound_watching _) h

theorem cuesSound_deleteCue (i : Fin 16) (h : cuesSound s) : cuesSound (deleteCue i s) := by
  unfold deleteCue
  split
  · exact h
  · exact cuesSound_setCueSlot cueSlotSound_idle h

theorem cuesSound_eraseOwner (o : Owner) (h : cuesSound s) : cuesSound (eraseOwner o s) := by
  intro i
  rw [cueSlot, cues_eraseOwner, getElem_mapWhere]
  split
  · exact cueSlotSound_idle
  · exact h i

theorem cuesSound_takeEdition (lane : Owner) (p : List Byte) (h : cuesSound s) :
    cuesSound (takeEdition lane p s) := by
  unfold takeEdition
  split
  · exact cuesSound_of_cues (cues_segmentFault ..) h
  · exact cuesSound_eraseOwner .disc (s := s.setRecv _) h

theorem cuesSound_takeDelete (lane : Owner) (p : List Byte) (h : cuesSound s) : cuesSound (takeDelete lane p s) := by
  unfold takeDelete deleteItem deleteList
  split
  · exact cuesSound_of_cues (cues_segmentFault ..) h
  split
  · split
    · exact h
    · exact cuesSound_of_cues (cues_deleteObject _) h
  split
  · exact cuesSound_of_cues (cues_deletePalette _) h
  split
  · exact cuesSound_of_cues (cues_deletePage _) h
  split
  · split
    · exact h
    · exact cuesSound_of_cues (cues_changeList ..) h
  split
  · exact cuesSound_deleteCue _ h
  · exact h

theorem cuesSound_handSegment (lane : Owner) (kind : Byte) (p : List Byte) (h : cuesSound s) :
    cuesSound (handSegment lane kind p s) := by
  unfold handSegment takeSlideList
  split
  · exact cuesSound_takeEdition lane p h
  split
  · exact cuesSound_takeTime lane p h
  split
  · exact cuesSound_of_cues (cues_takePalette lane p) h
  split
  · exact cuesSound_of_cues (cues_takePart lane p) h
  split
  · exact cuesSound_of_cues (cues_takePage lane p) h
  split
  · split
    · exact cuesSound_of_cues (cues_segmentFault ..) h
    · exact cuesSound_of_cues (cues_changeList ..) h
  split
  · exact cuesSound_takeCue lane p h
  split
  · exact cuesSound_takeDelete lane p h
  · exact h

theorem cuesSound_wholeSegment (lane : Owner) (kind : Byte) (p : List Byte) (h : cuesSound s) :
    cuesSound (wholeSegment lane kind p s) := by
  unfold wholeSegment
  split
  · exact cuesSound_of_cues (cues_receiverFault ..) h
  · exact cuesSound_handSegment lane kind p h

/-! ### Lanes (R165 to R172) -/

theorem cuesSound_inPayload (kind : Byte) (len left : Nat) (got : List Byte) (part : Option PartInFlight)
    (h : cuesSound s) : cuesSound (inPayload kind len left got part s) := by
  unfold inPayload endPayload
  split
  · refine cuesSound_of_cues (cues_setLane laneIdle) ?_
    split
    · split
      · exact cuesSound_of_cues (cues_completeObject _) h
      · exact h
    · split
      · exact h
      · exact cuesSound_handSegment .disc kind got h
  · exact h

theorem cuesSound_serveDisc (got : List Byte) (h : cuesSound s) : cuesSound (serveDisc got s) := by
  unfold serveDisc
  dsimp only
  split
  · exact cuesSound_inPayload _ _ _ _ _ (s := s.setRecv _) h
  · refine cuesSound_of_cues ?_ h
    split <;> simp

theorem cuesSound_servePlayer (h : cuesSound s) : cuesSound (servePlayer s) :=
  cuesSound_wholeSegment .player s.relay.kind s.relay.data (s := s.setRecv _) h

theorem cuesSound_serveOne (h : cuesSound s) : cuesSound (serveOne s) := by
  unfold serveOne
  split
  · exact h
  split
  · exact cuesSound_serveDisc _ h
  split
  · exact cuesSound_servePlayer h
  · exact h

theorem cuesSound_serve (h : cuesSound s) : cuesSound (serve s) := cuesSound_serveOne (cuesSound_serveOne h)

theorem cuesSound_objectByte (len left : Nat) (got : List Byte) (part : Option PartInFlight) (b : Byte)
    (h : cuesSound s) : cuesSound (objectByte len left got part b s) := by
  have hbegin := cuesSound_of_cues (cues_beginPart .disc (parsePart (got ++ [b]))) h
  unfold objectByte
  split
  · exact cuesSound_inPayload _ _ _ _ _ (cuesSound_of_cues (cues_feedByte ..) h)
  dsimp only
  split
  · exact cuesSound_of_cues (by simp) h
  split
  · split
    case h_1 hs1 => rw [hs1] at hbegin; exact cuesSound_of_cues (cues_inSkip ..) hbegin
    case h_2 hs1 => rw [hs1] at hbegin; exact cuesSound_inPayload _ _ _ _ _ hbegin
  · exact cuesSound_inPayload _ _ _ _ _ h

theorem cuesSound_laneByte (b : Byte) (h : cuesSound s) : cuesSound (laneByte b s) := by
  unfold laneByte payloadByte
  split
  · exact h
  · exact h
  · split
    · exact cuesSound_objectByte _ _ _ _ _ h
    · exact cuesSound_inPayload _ _ _ _ _ h
  · exact cuesSound_of_cues (cues_inSkip ..) h

theorem cuesSound_takeLaneByte (h : cuesSound s) : cuesSound (takeLaneByte s) := by
  unfold takeLaneByte
  split
  · exact h
  split
  · exact h
  · exact cuesSound_serve (cuesSound_laneByte _ (s := s.setStream _) h)

theorem cuesSound_presentByte (b : Byte) (h : cuesSound s) : cuesSound (presentByte b s) := by
  unfold presentByte
  split
  · exact h
  split
  · exact h
  · exact cuesSound_serve (cuesSound_of_cues cues_abandonLane (s := (setStreamOverrun s).setStream _) h)

end CueSoundness

end Sys2Proof.Machine

namespace Sys2Proof.Machine

open Sys2Proof

/-! ## The cue slots stay sound: commands, field starts, every row of the table (R133, R136) -/

section CueRows

variable {s : State}

theorem cuesSound_commandFrame (cmd : Byte) (payload : List Byte) (body : State → State)
    (hbody : ∀ t, cuesSound t → cuesSound (body t)) (h : cuesSound s) :
    cuesSound (commandFrame cmd payload body s) := by
  unfold commandFrame
  split
  · exact h
  · have hcrossed := cuesSound_of_cues (cues_frameCrosses (cmd :: BitVec.ofNat 8 payload.length :: payload)) h
    dsimp only
    split
    · exact hcrossed
    split
    · exact hcrossed
    · exact hbody _ hcrossed

theorem cuesSound_command (cmd : Byte) (payload : List Byte) (act : State → Answer)
    (hact : ∀ t, cuesSound t → cuesSound (act t).state) (h : cuesSound s) :
    cuesSound (command cmd payload act s) :=
  cuesSound_commandFrame cmd payload _ hact h

/-- A reset leaves every slot IDLE (R135). -/
theorem cuesSound_resetBlocks (s : State) : cuesSound (resetBlocks s) := by
  obtain ⟨-, -, -, hreset, -⟩ := invariantsHoldAtReset
  exact cuesSound_of_cues rfl hreset

theorem cuesSound_setupBody (format : Byte) (ticks : Half) (h : cuesSound s) :
    cuesSound (setupBody format ticks s) := by
  unfold setupBody
  split
  · exact h
  split
  · exact h
  case h_2.isFalse f _ _ =>
    exact cuesSound_of_slots (congrArg CueUnit.slots (cues_composerSetup (s := (s.setStream _).setCues _) f)) h

theorem cuesSound_doOutput (value : Byte) (h : cuesSound s) : cuesSound (doOutput value s).state := by
  refine cuesSound_of_cues ?_ h
  unfold doOutput done
  dsimp only
  (repeat' split) <;> rfl

theorem cuesSound_doSegOpen (kind : Byte) (length : Half) (h : cuesSound s) :
    cuesSound (doSegOpen kind length s).state := by
  unfold doSegOpen
  split
  · exact h
  split
  · exact h
  · exact cuesSound_serve (s := s.setRelay _) h

theorem cuesSound_doSegData (bytes : List Byte) (h : cuesSound s) : cuesSound (doSegData bytes s).state := by
  unfold doSegData
  split
  · exact h
  · exact cuesSound_serve (s := s.setRelay _) h

theorem cuesSound_doErasePlayer (h : cuesSound s) : cuesSound (doErasePlayer s).state := by
  simp only [doErasePlayer, done]
  exact cuesSound_eraseOwner .player (s := s.setRelay relayReset) h

/-- A row that is no command frame is the command of none. -/
theorem runCommand_of_no_frame {i : Instr} (h : encodeFrame i = none) : runCommand i s = s := by
  cases i <;> cases h <;> rfl

/-- The command of a frame keeps the cue slots sound; those of pages, keys, variables and slides leave them alone. -/
theorem cuesSound_runCommand (i : Instr) (h : cuesSound s) : cuesSound (runCommand i s) := by
  cases hframe : encodeFrame i with
  | none => rwa [runCommand_of_no_frame hframe]
  | some bytes =>
    by_cases hi : isInteractive i = true
    · exact cuesSound_of_cues (cues_of_stillOffLink
        (stillOffLink_interactive hi (exec_of_encodeFrame i s (by rw [hframe]; rfl)))) h
    cases i
    case nop => exact cuesSound_command _ _ _ (fun _ ht => ht) h
    case clearConditions => exact cuesSound_command _ _ _ (fun _ ht => ht) h
    case reset => exact cuesSound_commandFrame _ _ _ (fun t _ => cuesSound_resetBlocks t) h
    case setup => exact cuesSound_commandFrame _ _ _ (fun _ ht => cuesSound_setupBody _ _ ht) h
    case output => exact cuesSound_command _ _ _ (fun _ ht => cuesSound_doOutput _ ht) h
    case timeRun => exact cuesSound_command _ _ _ (fun _ ht => ht) h
    case timeHold => exact cuesSound_command _ _ _ (fun _ ht => ht) h
    case segOpen => exact cuesSound_command _ _ _ (fun _ ht => cuesSound_doSegOpen _ _ ht) h
    case segData => exact cuesSound_command _ _ _ (fun _ ht => cuesSound_doSegData _ ht) h
    case erasePlayer => exact cuesSound_command _ _ _ (fun _ ht => cuesSound_doErasePlayer ht) h
    all_goals simp [isInteractive, encodeFrame] at hi hframe

theorem cuesSound_completeFrame (frame : List Byte) (h : cuesSound s) : cuesSound (completeFrame frame s) := by
  unfold completeFrame runRead
  split
  · exact h
  split
  · split
    · exact cuesSound_of_cues (cues_readNoticeFrame _) h
    · exact cuesSound_of_cues (cues_readFrame ..) h
  split
  · exact cuesSound_of_cues (cues_badFrame _) h
  split
  · exact cuesSound_of_cues (cues_badFrame _) h
  · exact cuesSound_runCommand _ h

/-! ### Field starts (R143) -/

theorem cuesSound_actBlock (b : FieldBlock) (h : cuesSound s) : cuesSound (actBlock s b) := by
  by_cases hb : b ∈ eventBlocks
  · exact cuesSound_of_cues (cues_of_onlyDue (onlyDue_actBlock hb s)) h
  unfold actBlock
  split
  · cases b with
    | cues => exact cuesSound_cueField (s := s.setDue _) h
    | composer => exact cuesSound_of_cues cues_composerField (s := s.setDue _) h
    | pageStack => exact absurd (by decide) hb
    | navigation => exact absurd (by decide) hb
    | sequencer => exact absurd (by decide) hb
  · exact h

theorem cuesSound_fieldStart (order : List FieldBlock) (h : cuesSound s) : cuesSound (fieldStart order s) := by
  have hact (l : List FieldBlock) {t : State} (ht : cuesSound t) : cuesSound (l.foldl actBlock t) :=
    cuesSound_foldl _ (fun _ b hu => cuesSound_actBlock b hu) l ht
  have hcounted : cuesSound (countField (s.due.foldl actBlock s)) := hact _ h
  exact cuesSound_of_cues (cues_of_onlyDue (onlyDue_settleField _)) (s := decideScan _) (hact _ hcounted)

/-! ### The rows of the table -/

theorem cuesSound_arriveSegment (lane : Owner) (kind : Byte) (p : List Byte) (h : cuesSound s) :
    cuesSound (arriveSegment lane kind p s) := by
  unfold arriveSegment
  split
  · exact cuesSound_wholeSegment lane kind p h
  · exact h

theorem cuesSound_awake {f : State → State} (hf : cuesSound (f s)) (h : cuesSound s) : cuesSound (awake f s) := by
  unfold awake
  split
  · exact h
  · exact hf

theorem cuesSound_finishSetup (h : cuesSound s) : cuesSound (finishSetup s) := by
  unfold finishSetup
  dsimp only
  (repeat' split) <;> exact h

theorem cuesSound_timeOutFrame (bytes : List Byte) (h : cuesSound s) : cuesSound (timeOutFrame bytes s) := by
  unfold timeOutFrame
  split
  · exact h
  · exact cuesSound_of_cues (cues_receiveFrame bytes) h

theorem cuesSound_releaseReset (h : cuesSound s) : cuesSound (releaseReset s) := by
  unfold releaseReset
  split <;> exact h

/-- Every row of the table keeps the cue slots sound. -/
theorem cuesSound_exec {i : Instr} {t : State} (hexec : exec i s = .next t) (h : cuesSound s) : cuesSound t := by
  have hnext {u : State} (hrow : exec i s = .next u) (hu : cuesSound u) : cuesSound t := by
    cases hrow.symm.trans hexec
    exact hu
  have hsegment (lane : Owner) (kind : Byte) (p : List Byte) : cuesSound (awake (arriveSegment lane kind p) s) :=
    cuesSound_awake (cuesSound_arriveSegment lane kind p h) h
  by_cases hi : isInteractive i = true
  · exact cuesSound_of_cues (cues_of_stillOffLink (stillOffLink_interactive hi hexec)) h
  by_cases hcommand : (encodeFrame i).isSome = true
  · exact hnext (exec_of_encodeFrame i s hcommand) (cuesSound_runCommand i h)
  by_cases hevent : i ∈ [Instr.fadeInEnd, .fadeOutEnd, .activationComplete, .pageTimeoutExpiry, .holdRunOut,
      .transitionEnd]
  · exact cuesSound_of_cues (cues_of_onlyDue (onlyDue_fieldEvent hevent hexec)) h
  cases i
  case powerOn => exact hnext rfl (cuesSound_resetBlocks s)
  case resetN => exact hnext rfl (cuesSound_resetBlocks s)
  case fieldStart order => exact hnext rfl (cuesSound_awake (cuesSound_fieldStart order h) h)
  case passComplete => exact hnext rfl (cuesSound_awake (cuesSound_of_cues cues_completePass h) h)
  case saveDone => exact hnext rfl (cuesSound_awake (cuesSound_of_cues cues_completeSave h) h)
  case streamByte b => exact hnext rfl (cuesSound_awake (cuesSound_presentByte b h) h)
  case discLaneByte => exact hnext rfl (cuesSound_awake (cuesSound_takeLaneByte h) h)
  case segmentServe => exact hnext rfl (cuesSound_awake (cuesSound_serve h) h)
  case edition => exact hnext rfl (hsegment _ _ _)
  case time => exact hnext rfl (hsegment _ _ _)
  case palette => exact hnext rfl (hsegment _ _ _)
  case objectFirstPart => exact hnext rfl (hsegment _ _ _)
  case objectPart => exact hnext rfl (hsegment _ _ _)
  case page => exact hnext rfl (hsegment _ _ _)
  case slidelist => exact hnext rfl (hsegment _ _ _)
  case cue => exact hnext rfl (hsegment _ _ _)
  case delete => exact hnext rfl (hsegment _ _ _)
  case linkTimeout => exact hnext rfl (cuesSound_timeOutFrame _ h)
  case unknownCommand => exact hnext rfl (cuesSound_completeFrame _ h)
  case readReply => exact hnext rfl (cuesSound_of_cues (cues_readFrame ..) h)
  case readStatus => exact hnext rfl (cuesSound_of_cues (cues_readFrame ..) h)
  case readNotice => exact hnext rfl (cuesSound_of_cues (cues_readNoticeFrame _) h)
  case setupClearDone => exact hnext rfl (cuesSound_awake (cuesSound_finishSetup h) h)
  case resetNRelease => exact hnext rfl (cuesSound_releaseReset h)
  all_goals simp [isInteractive, encodeFrame] at hi hcommand hevent

end CueRows

/-- Settles O55: only segments, evaluations, erases and resets write cue slots, and each writes sound ones. -/
theorem everyStepKeepsTheCues : Obligations.EveryStepKeepsTheCues := by
  intro s t hs hstep
  rcases step_cases hstep with rfl | ⟨c, cs, -, hexec⟩
  · exact hs
  · exact cuesSound_exec (s := s.setPending cs) hexec hs

end Sys2Proof.Machine

namespace Sys2Proof.Machine

open Sys2Proof

/-! ## Evaluations of the cues (R130, R133, R136 to R142) -/

/-- What makes each kind of condition TRUE (R133). -/
theorem condTrue_iff (s : State) (c : Cond) : condTrue s c = true ↔
    match c.kind with
    | .absent => False
    | .timeAt => ((s.cues.time.toNat : Int) - c.p.toNat) % 2 ^ 32 < 2 ^ 31
    | .timeIn => ((s.cues.time.toNat : Int) - c.p.toNat) % 2 ^ 32 ≤ ((c.q.toNat : Int) - c.p.toNat) % 2 ^ 32
    | .timeOut => ((c.q.toNat : Int) - c.p.toNat) % 2 ^ 32 < ((s.cues.time.toNat : Int) - c.p.toNat) % 2 ^ 32
    | .varEq => ∀ j, c.q.getLsbD j = true → (s.nav.vars[c.var]).getLsbD j = c.p.getLsbD j
    | .varNe => ¬ ∀ j, c.q.getLsbD j = true → (s.nav.vars[c.var]).getLsbD j = c.p.getLsbD j := by
  cases hkind : c.kind with
  | absent => simp [condTrue, hkind]
  | timeAt => simpa only [condTrue, hkind] using hasReached_iff s.cues.time c.p
  | timeIn => simpa only [condTrue, hkind] using inRange_iff s.cues.time c.p c.q
  | timeOut => simpa only [condTrue, hkind] using not_inRange_iff s.cues.time c.p c.q
  | varEq => exact condTrue_varEq_iff hkind
  | varNe => exact condTrue_varNe_iff hkind

theorem cueField_eq (s : State) : cueField s = if s.link.configured = true then
    deliverKeys (cueOrder.foldl evaluateCue (advanceTime s)) else advanceTime s := by
  have hlink : (advanceTime s).link = s.link := by rw [advanceTime_eq]; rfl
  simp only [cueField, hlink]
  rfl

/-! ### What a firing cue posts (R139, R142) -/

/-- The kinds of a cue's action that name a page (R142). -/
abbrev namesPage (x : Action) : Prop := x.kind = .bringUp ∨ x.kind = .hide ∨ x.kind = .select

/-- A cue has fired from a state in which its action has been carried out, or has failed with detail 1. -/
def cueFired (i : Fin 16) (c : CueRecord) (p : Fin 32) (detail : Word) (t : State) : State :=
  setCueSlot i (firedSlot c) (if c.action.report = true then
    post .cueFired (some (cueOwner i)) (if namesPage c.action then some p else none) (BitVec.ofNat 16 (i.val % 8))
      c.action.code detail false t
    else t)

/-- A cue's action has failed with an OUTCOME_FAULT, which is posted with source CUE (R142). -/
def cueFaulted (i : Fin 16) (c : CueRecord) (p : Fin 32) (code : Half) (detail : Word) (s : State) : State :=
  cueFired i c p 1 (post .outcomeFault (some (cueOwner i)) (if namesPage c.action then some p else none)
    (BitVec.ofNat 16 (i.val % 8)) code detail true s)

section Firing

variable {s t : State} (i : Fin 16) {c : CueRecord} {p : Fin 32} (hp : c.action.target.toNat % 32 = p.val)

theorem cueId_eq : cueId i = i.val % 8 := by
  unfold cueId
  split <;> omega

include hp

/-- The page that an action's target names (R140, R142). -/
theorem ofNat_target : Fin.ofNat 32 c.action.target.toNat = p := Fin.ext hp

theorem cuePage_eq : (cuePage i c.action).map PageRef.id = if namesPage c.action then some p else none := by
  unfold cuePage namesPage
  cases hkind : c.action.kind <;> simp only [ofNat_target hp] <;> rfl

theorem cueNotice_eq (kind : NoticeKind) (code : Half) (detail : Word) (flag : Bool) :
    cueNotice kind i c.action code detail flag t = post kind (some (cueOwner i))
      (if namesPage c.action then some p else none) (BitVec.ofNat 16 (i.val % 8)) code detail flag t := by
  rw [cueNotice, cuePage_eq i hp, cueId_eq]

theorem reportCue_eq (detail : Word) : reportCue i c.action detail t = if c.action.report = true then
    post .cueFired (some (cueOwner i)) (if namesPage c.action then some p else none) (BitVec.ofNat 16 (i.val % 8))
      c.action.code detail false t
    else t := by
  unfold reportCue
  rw [cueNotice_eq i hp]

theorem fireCue_of_done (h : runCueAction i c.action s = .done t) : fireCue i c s = cueFired i c p 0 t := by
  rw [fireCue_done h, reportCue_eq i hp]
  rfl

theorem fireCue_of_faulted {code : Half} {detail : Word} (h : runCueAction i c.action s = .faulted code detail) :
    fireCue i c s = cueFaulted i c p code detail s := by
  rw [fireCue_faulted h, reportCue_eq i hp, cueNotice_eq i hp]
  rfl

end Firing

/-! ### What the actions lead to (R140, R141) -/

section Actions

variable {s : State} {i : Fin 16} {x : Action} {p : Fin 32}

/-- An action on a page acts on the page of the cue's owner that its target names (R140). -/
theorem runCueAction_page (hp : x.target.toNat % 32 = p.val) :
    (x.kind = .bringUp → runCueAction i x s = cueShow ⟨cueOwner i, p⟩ s) ∧
    (x.kind = .hide → runCueAction i x s = cueHide ⟨cueOwner i, p⟩ s) ∧
    (x.kind = .select → runCueAction i x s = cueSelect ⟨cueOwner i, p⟩ x.value s) := by
  have htarget : Fin.ofNat 32 x.target.toNat = p := Fin.ext hp
  refine ⟨fun h => ?_, fun h => ?_, fun h => ?_⟩ <;> simp only [runCueAction, h, htarget]

theorem runCueAction_badTarget (hp : x.target.toNat % 32 = p.val) (hkind : namesPage x)
    (hmenu : isMenuPage ⟨cueOwner i, p⟩ s = false) :
    runCueAction i x s = .faulted 0 (BitVec.ofNat 32 p.val) := by
  have hnot := Bool.eq_false_iff.1 hmenu
  obtain ⟨hshow, hhide, hselect⟩ := runCueAction_page (i := i) (s := s) hp
  rcases hkind with h | h | h
  · exact (hshow h).trans (if_neg hnot)
  · exact (hhide h).trans (if_neg hnot)
  · exact (hselect h).trans (if_neg hnot)

theorem cueShow_full {r : PageRef} (hmenu : isMenuPage r s = true) (h : showEntry r s = none) :
    cueShow r s = .faulted 1 0 := by
  rw [cueShow, if_pos hmenu, h]
  rfl

theorem cueShow_shown {r : PageRef} (hmenu : isMenuPage r s = true) {t : State} (h : showEntry r s = some t) :
    cueShow r s = .done t := by
  rw [cueShow, if_pos hmenu, h]

theorem cueHide_menu {r : PageRef} (hmenu : isMenuPage r s = true) : cueHide r s = .done (startLeaving r s) :=
  if_pos hmenu

theorem cueSelect_notReady {r : PageRef} (b : Word) (hmenu : isMenuPage r s = true) (hslot : readySlot r s = none) :
    cueSelect r b s = .faulted 4 b := by
  simp only [cueSelect, if_pos hmenu, hslot]
  rfl

theorem cueSelect_ready {r : PageRef} (b : Word) (hmenu : isMenuPage r s = true) {k : Fin 6}
    (hslot : readySlot r s = some k) : cueSelect r b s = .done (selectButton k (b.setWidth 8) s) := by
  simp only [cueSelect, if_pos hmenu, hslot]

/-- SHOW of a page without an entry puts it on the stack where there is room (R68, R69). -/
theorem showEntry_room {r : PageRef} (hentry : entryOf r s = none) (hroom : s.stack.entries.length < 5) :
    showEntry r s = some (addEntering r (topOfBand (menuBand r.owner) s) s) := by
  rw [showEntry, hentry, makeRoom, roomBy_room hroom]
  rfl

/-- With 5 entries the oldest LEAVING one is cut first (R68). -/
theorem showEntry_cut {r : PageRef} {e : Entry} (hentry : entryOf r s = none) (hfull : 5 ≤ s.stack.entries.length)
    (hold : oldestLeaving s = some e) :
    showEntry r s = some (addEntering r (topOfBand (menuBand r.owner) (removeEntry e.page (some hiddenCut) s))
      (removeEntry e.page (some hiddenCut) s)) := by
  rw [showEntry, hentry, makeRoom, roomBy_cut hfull hold]
  rfl

theorem showEntry_full {r : PageRef} (hentry : entryOf r s = none) (hfull : 5 ≤ s.stack.entries.length)
    (hstay : ∀ e ∈ s.stack.entries, e.st ≠ .leaving) : showEntry r s = none := by
  rw [showEntry, hentry, makeRoom, roomBy_none hfull hstay]
  rfl

theorem showEntry_entry {r : PageRef} {e : Entry} (hentry : entryOf r s = some e) :
    showEntry r s = some (if e.st = .leaving then restoreEntry r s else s) := by
  simp [showEntry, hentry, isLeaving]

theorem runCueAction_setvar (hkind : x.kind = .setvar) {v : Fin 16} (hv : x.target.toNat = v.val)
    (h12 : v.val < 12) : runCueAction i x s = .done (s.setNav { s.nav with vars := s.nav.vars.set v x.value }) := by
  have hname : Fin.ofNat 16 x.target.toNat = v := Fin.ext (by simp [hv])
  simp only [runCueAction, hkind, hname]
  exact if_pos (hv ▸ h12)

theorem runCueAction_readOnly (hkind : x.kind = .setvar) (h12 : 12 ≤ x.target.toNat) :
    runCueAction i x s = .faulted 2 (x.target.setWidth 32) := by
  simp only [runCueAction, hkind]
  exact if_neg (Nat.not_lt.2 h12)

theorem runCueAction_slide (hkind : x.kind = .slide) (hst : s.seqr.st ≠ .stopped)
    (howner : s.seqr.owner = cueOwner i) : runCueAction i x s = .done (slideOperation x.target.toNat s) := by
  simp only [runCueAction, hkind]
  exact if_pos (by simpa [slidesRunFor, hst] using howner)

theorem runCueAction_noSlides (hkind : x.kind = .slide) (h : s.seqr.st = .stopped ∨ s.seqr.owner ≠ cueOwner i) :
    runCueAction i x s = .faulted 3 (x.target.setWidth 32) := by
  have hnot : ¬ slidesRunFor (cueOwner i) s = true := by
    simp only [slidesRunFor, Bool.and_eq_true, bne_iff_ne, beq_iff_eq]
    exact fun hruns => h.elim hruns.1 fun hother => hother hruns.2
  simp only [runCueAction, hkind]
  exact if_neg hnot

end Actions

/-- Settles O45: the step of a slot by its state, and the firing of a cue by what its action leads to. -/
theorem cueSlotsTakeOneStep : Obligations.CueSlotsTakeOneStep := by
  refine ⟨fun s i c hcue => ⟨fun hst h1 => ?_, fun hst h1 h2 => ?_, fun hst h1 h2 => ?_, evaluateCue_armed hcue,
      evaluateCue_resting hcue, evaluateCue_over hcue⟩, fun s i c => cueSlot_fireCue i c, fun s i c hkind hreport => ?_,
    by decide, fun s i => evaluateCue_unrecorded, fun s => ⟨fun hdue => if_pos hdue, cueField_eq s⟩,
    condTrue_iff, fun s i c p hp => ?_⟩
  · rw [evaluateCue_watching hcue hst, if_neg (Bool.eq_false_iff.1 h1)]
  · rw [evaluateCue_watching hcue hst, if_pos h1, if_pos h2]
  · rw [evaluateCue_watching hcue hst, if_pos h1, if_neg h2]
  · rw [fireCue_done (t := s) (by simp only [runCueAction, hkind]), reportCue, hreport]
    rfl
  obtain ⟨hshow, hhide, hselect⟩ := runCueAction_page (i := i) (s := s) hp
  refine ⟨fun hkind => fireCue_of_done i hp (by simp only [runCueAction, hkind]), fun hkind hmenu =>
    fireCue_of_faulted i hp (runCueAction_badTarget hp hkind hmenu), fun hkind hmenu => ?_, fun hkind hmenu =>
    fireCue_of_done i hp ((hhide hkind).trans (cueHide_menu hmenu)), fun hkind hmenu => ?_, fun hkind =>
    ⟨fun v hv h12 => fireCue_of_done i hp (runCueAction_setvar hkind hv h12), fun h12 =>
      fireCue_of_faulted i hp (runCueAction_readOnly hkind h12)⟩, fun hkind => ⟨fun hst howner => ?_, fun hnone =>
      fireCue_of_faulted i hp (runCueAction_noSlides hkind hnone)⟩⟩
  · have hdone {t : State} (ht : showEntry ⟨cueOwner i, p⟩ s = some t) : fireCue i c s = cueFired i c p 0 t :=
      fireCue_of_done i hp ((hshow hkind).trans (cueShow_shown hmenu ht))
    exact ⟨fun hentry hroom => hdone (showEntry_room hentry hroom),
      fun e hentry hfull hold => hdone (showEntry_cut hentry hfull hold),
      fun hentry hfull hstay =>
        fireCue_of_faulted i hp ((hshow hkind).trans (cueShow_full hmenu (showEntry_full hentry hfull hstay))),
      fun e hentry => hdone (showEntry_entry hentry)⟩
  · cases hslot : readySlot ⟨if i.val < 8 then Owner.disc else .player, p⟩ s with
    | none => exact fireCue_of_faulted i hp ((hselect hkind).trans (cueSelect_notReady _ hmenu hslot))
    | some k => exact fireCue_of_done i hp ((hselect hkind).trans (cueSelect_ready _ hmenu hslot))
  · have hrun := runCueAction_slide (i := i) (s := s) hkind hst howner
    refine ⟨fun h => ?_, fun h => ?_, fun h => ?_, fun h => ?_⟩ <;> rw [h] at hrun <;>
      exact fireCue_of_done i hp hrun

end Sys2Proof.Machine

namespace Sys2Proof.Machine

open Sys2Proof

/-! ## SETUP (R129, R153, R164, R184) -/

/-- A command that an UNCONFIGURED part takes too is judged and carried out behind its frame (R176). -/
theorem commandFrame_linkFree {s : State} (h : linkFree s = true) {cmd : Byte} (payload : List Byte)
    (body : State → State) (hcmd : isReadCode cmd = false) (hruns : runsUnconfigured cmd = true) :
    commandFrame cmd payload body s = body (crossed payload.length s) := by
  simp only [linkFree, Bool.and_eq_true, Bool.not_eq_true', Option.isNone_iff_eq_none] at h
  obtain ⟨hreset, hprocessing⟩ := h
  have hfree : (crossed payload.length s).link.processing = none := hprocessing
  rw [commandFrame, if_neg (by simp [hreset]), frameCrosses_command _ _ _ _ hcmd]
  simp [hfree, hruns]

theorem exec_setup {s : State} (h : linkFree s = true) (format : Byte) (ticks : Half) :
    exec (.setup format ticks) s = .next (setupBody format ticks (crossed 3 s)) :=
  congrArg Host.Outcome.next (commandFrame_linkFree h ([format] ++ halfBytes ticks) _ rfl rfl)

/-- The four formats have the codes 0 to 3 (R188). -/
theorem format?_eq_none {b : Byte} (h : 4 ≤ b.toNat) : format? b = none := by
  unfold format?
  split
  case h_5 => rfl
  all_goals omega

theorem setupBody_refused {format : Byte} {ticks : Half} (h : 4 ≤ format.toNat ∨ ticks = 0) (s : State) :
    setupBody format ticks s = placeReply 0x06 .badArgument [] s := by
  unfold setupBody
  split
  · rfl
  · rename_i f hf
    refine if_pos (h.resolve_left fun hcode => ?_)
    rw [format?_eq_none hcode] at hf
    contradiction

/-- SETUP abandons a pass, with its deferred regions free, and clears the planes (R153, log 21). -/
theorem composerSetup_eq (f : PlaneFormat) (s : State) : composerSetup f s =
    ((s.setObjs (if s.comp.pass = .drawing then (returnDeferred s).objs else s.objs)).setMem
      (s.mem.restore (fun a => decide (a < imageBase)))).setComp
      { s.comp with pass := .idle, snapshot := none, animation := false, recompose := true,
                    format := some f, clearing := true, progress := ⟨0, []⟩ } := by
  unfold composerSetup passInFlight
  by_cases hpass : s.comp.pass = .drawing
  · simp only [hpass, beq_self_eq_true, if_true]
    rfl
  · simp only [beq_iff_eq, if_neg hpass]
    rfl

theorem setupBody_accepted {format : Byte} {ticks : Half} {f : PlaneFormat} (hf : format? format = some f)
    (hticks : ticks ≠ 0) (s : State) : setupBody format ticks s =
      ((((((s.setStream (if s.link.configured then s.stream else ⟨s.stream.fifo, false⟩)).setCues
        { s.cues with ticks := ticks }).setObjs
          (if s.comp.pass = .drawing then (returnDeferred s).objs else s.objs)).setMem
        (s.mem.restore (fun a => decide (a < imageBase)))).setComp
        { s.comp with pass := .idle, snapshot := none, animation := false, recompose := true,
                      format := some f, clearing := true, progress := ⟨0, []⟩ }).setDisp
        { s.disp with scanning := false }).setLink
        { s.link with configured := true, processing := some 0x06,
                      reply := { s.link.reply with pending := true } } := by
  simp only [setupBody, hf, if_neg hticks, composerSetup_eq]
  rfl

/-! ### The planes are cleared (R1, R153) -/

/-- Every pixel of both planes reads transparent black once their bytes are restored. -/
theorem readPixel_restored (m : Memory) (p : Plane) {x y : Nat} (hx : x < 1920) (hy : y < 1080) :
    readPixel (m.restore (fun a => decide (a < imageBase))) p x y = transparentBlack := by
  have hbyte {i : Nat} (hi : i < 4) : (m.restore (fun a => decide (a < imageBase))).read
      (BitVec.ofNat 25 (pixelAddr p x y + i)) = unlisted i := by
    obtain ⟨haddr, hplane⟩ := toNat_pixelAddr p hx hy hi
    have hbase := planeBase_le p
    rw [Memory.read_restore, haddr, unlisted_pixelAddr p hx hy hi]
    exact if_pos (decide_eq_true (by unfold imageBase; omega))
  have hfirst := hbyte (i := 0) (by omega)
  rw [Nat.add_zero] at hfirst
  simp only [readPixel, hfirst, hbyte (i := 1) (by omega), hbyte (i := 2) (by omega), hbyte (i := 3) (by omega)]
  rfl

theorem read_restored_image (m : Memory) {a : Addr} (ha : imageBase ≤ a.toNat) :
    (m.restore (fun a => decide (a < imageBase))).read a = m.read a := by
  rw [Memory.read_restore, if_neg (by simpa using ha)]

/-- The clearing of the SETUP in processing ends with its reply (R153, R184). -/
theorem exec_setupClearDone {s : State} (hreset : s.resetLow = false) (hclearing : s.comp.clearing = true)
    (hprocessing : s.link.processing = some 0x06) : exec .setupClearDone s =
      .next (placeReply 0x06 .ok [] (s.setComp { s.comp with clearing := false })) := by
  have hawake : exec .setupClearDone s = .next (finishSetup s) := by
    simp [exec, execSetupClearDone, awake, hreset]
  have hstill : (s.setComp { s.comp with clearing := false }).link.processing = some 0x06 := hprocessing
  rw [hawake, finishSetup, if_pos hclearing]
  exact congrArg Host.Outcome.next (if_pos hstill)

/-- Settles O8: what an accepted SETUP writes, block by block, and the two ways in which it is refused. -/
theorem setupConfiguresAndClears : Obligations.SetupConfiguresAndClears := by
  refine ⟨fun s format ticks f hfree hf hticks => ⟨_, exec_setup hfree format ticks, ?_⟩,
    fun s format ticks hfree hbad => ?_, fun s => exec_setupClearDone⟩
  · rw [setupBody_accepted hf hticks]
    exact ⟨rfl, rfl, rfl, rfl, rfl, rfl, fun p x y hx hy => readPixel_restored s.mem p hx hy,
      fun a ha => read_restored_image s.mem ha, rfl, rfl, rfl, rfl, rfl, rfl, rfl, rfl, rfl, rfl⟩
  · rw [exec_setup hfree, setupBody_refused hbad]
    rfl

end Sys2Proof.Machine
